-- ==== Sys2Proof/Word.lean ====
section
/-! DEFINITION. The word types of the 80386 model: byte, word, dword (spec 00 R10) and the operand width. -/

namespace Sys2Proof

/-- A byte, 8 bits (00 R10). -/
abbrev Byte := BitVec 8

/-- The manual's "word", 16 bits (00 R10). -/
abbrev Half := BitVec 16

/-- The manual's "dword", 32 bits (00 R10): registers, offsets, linear and physical addresses. -/
abbrev Word := BitVec 32

/-- The width `w` of an operation (00 R12). -/
inductive Width where
  | w8
  | w16
  | w32
  deriving DecidableEq, Repr

/-- The number of bits of an operation of width `w` (00 R12). -/
def Width.bits : Width → Nat
  | .w8 => 8
  | .w16 => 16
  | .w32 => 32

/-- The number of bytes of an operand of width `w` (20 R136). -/
def Width.bytes : Width → Nat
  | .w8 => 1
  | .w16 => 2
  | .w32 => 4

end Sys2Proof
end

