-- ==== Sys2Proof/Config.lean ====
section
/-! DEFINITION. What an implementation fixes (spec 00 R9) and the free values (00 R16). -/

namespace Sys2Proof.Config

/-- The `n`-th free value, `w` bits wide: the model's `undefined(w)` (00 R16, 92 D15; log 8). It has no body, so
nothing can be proved about what it is. -/
opaque free (w n : Nat) : BitVec w

/-- `LOCK_NEEDS_CPL0` (00 R9, 92 D10; log 15): whether LOCK at a privilege level other than 0 is an invalid opcode.
The spec leaves it open, so it has no body. -/
opaque lockNeedsCpl0 : Bool

/-- The size class of the memory operand of a numerics operation (45 R681, R690). -/
inductive EscOperand where
  | none
  | read (bytes : Nat)
  | write (bytes : Nat)
  | env (store : Bool)
  | state (store : Bool)
  deriving DecidableEq, Repr, Inhabited

/-- The memory operand of the ESC operations that 45 R690 does not list, by the low three opcode bits and the ModRM
`reg` field: open, so it has no body (log 16). -/
opaque escOperand (op ext : BitVec 3) : EscOperand

/-- `MAX_INSN_LEN` (00 R9, 92 D21). -/
def maxInsnLen : Nat := 15

/-- `PREFETCH_DEPTH` (00 R9, 92 D12). -/
def prefetchDepth : Nat := 16

end Sys2Proof.Config
end

