-- ==== Sys2Proof/Syntax.lean ====
section
/-! DEFINITION. The instructions of the 80386: the rows of `spec/opcode_table.json`, prefix bytes included (spec 30
R285 to R295), one constructor per row, but for seven rows whose only operand is a register in the opcode or ModRM byte
(INC, DEC, XCHG with EAX, and the four FADD and FMUL rows on ST(i)): these have one constructor per register, because
Lean compiles at most 244 constructors with fields. Constructors with fields come first for the same reason. Operands are what the bytes say; widths that follow the operand or address size are
told by the constructor of the immediate, displacement or addressing form. -/

namespace Sys2Proof

/-- A general register number (10 R30). As a byte operand numbers 4 to 7 name AH, CH, DH, BH (00 R11). -/
inductive RegNo where
  | eax | ecx | edx | ebx | esp | ebp | esi | edi
  deriving DecidableEq, Repr

/-- A segment register (10 R43, 30 R280). -/
inductive SegNo where
  | es | cs | ss | ds | fs | gs
  deriving DecidableEq, Repr

/-- A control register number MOV accepts (30 R280). -/
inductive CrNo where
  | cr0 | cr2 | cr3
  deriving DecidableEq, Repr

/-- A debug register number (30 R280); DR4 and DR5 are reserved. -/
inductive DrNo where
  | dr0 | dr1 | dr2 | dr3 | dr4 | dr5 | dr6 | dr7
  deriving DecidableEq, Repr

/-- A test register number MOV accepts (30 R280). -/
inductive TrNo where
  | tr6 | tr7
  deriving DecidableEq, Repr

/-- The sixteen conditions of Jcc and SETcc, in encoding order (42 R494). -/
inductive Cond where
  | o | no | b | nb | z | nz | be | nbe | s | ns | p | np | l | nl | le | nle
  deriving DecidableEq, Repr

/-- A displacement of an addressing form whose full displacement has `w` bits (30 R271, R272). -/
inductive Disp (w : Nat) where
  | none
  | d8 (d : Byte)
  | full (d : BitVec w)
  deriving DecidableEq, Repr

/-- The register part of a 16-bit effective address, by `rm` (30 R272). -/
inductive Ea16 where
  | bxSi | bxDi | bpSi | bpDi | si | di | bp | bx
  deriving DecidableEq, Repr

/-- A memory operand as ModRM and SIB encode it (30 R271 to R273). In `sib` and `sibDisp` the index number of ESP
means no index. -/
inductive Mem where
  | ind16 (base : Ea16) (disp : Disp 16)
  | dir16 (off : Half)
  | ind32 (base : RegNo) (disp : Disp 32)
  | dir32 (off : Word)
  | sib (scale : BitVec 2) (index base : RegNo) (disp : Disp 32)
  | sibDisp (scale : BitVec 2) (index : RegNo) (off : Word)
  deriving DecidableEq, Repr

/-- The r/m operand of ModRM (30 R270). -/
inductive RM where
  | reg (r : RegNo)
  | mem (m : Mem)
  deriving DecidableEq, Repr

/-- A field whose width is the operand size (`iv`, `Jv`, the offset of `Ap`) or the address size (`Ob`, `Ov`)
(30 R264, R265, R274). -/
inductive ImmV where
  | v16 (v : Half)
  | v32 (v : Word)
  deriving DecidableEq, Repr

/-- The instructions. A constructor's name is the mnemonic followed by its operand letters (30 section 4). -/
inductive Instr where
  /-- MOV `Eb,Gb | 88 /r` (40 R330). -/
  | movEbGb (rm : RM) (reg : RegNo)
  /-- MOV `Ev,Gv | 89 /r` (40 R330). -/
  | movEvGv (rm : RM) (reg : RegNo)
  /-- MOV `Gb,Eb | 8A /r` (40 R330). -/
  | movGbEb (reg : RegNo) (rm : RM)
  /-- MOV `Gv,Ev | 8B /r` (40 R330). -/
  | movGvEv (reg : RegNo) (rm : RM)
  /-- MOV `Eb,Ib | C6 /0 ib` (40 R332). -/
  | movEbIb (rm : RM) (imm : Byte)
  /-- MOV `Ev,Iv | C7 /0 iv` (40 R332). -/
  | movEvIv (rm : RM) (imm : ImmV)
  /-- MOV `r8,Ib | B0+r ib` (40 R333). -/
  | movR8Ib (reg : RegNo) (imm : Byte)
  /-- MOV `r16/32,Iv | B8+r iv` (40 R333). -/
  | movRIv (reg : RegNo) (imm : ImmV)
  /-- MOV `AL,Ob | A0 ov` (40 R334). -/
  | movAlOb (off : ImmV)
  /-- MOV `eAX,Ov | A1 ov` (40 R334). -/
  | movEaxOv (off : ImmV)
  /-- MOV `Ob,AL | A2 ov` (40 R334). -/
  | movObAl (off : ImmV)
  /-- MOV `Ov,eAX | A3 ov` (40 R334). -/
  | movOvEax (off : ImmV)
  /-- MOV `Sw,Ew | 8E /r` (40 R335). -/
  | movSwEw (seg : SegNo) (rm : RM)
  /-- MOV `Ew,Sw | 8C /r` (40 R336). -/
  | movEwSw (rm : RM) (seg : SegNo)
  /-- MOVZX `Gv,Eb | 0F B6 /r` (40 R337). -/
  | movzxGvEb (reg : RegNo) (rm : RM)
  /-- MOVZX `Gv,Ew | 0F B7 /r` (40 R337). -/
  | movzxGvEw (reg : RegNo) (rm : RM)
  /-- MOVSX `Gv,Eb | 0F BE /r` (40 R338). -/
  | movsxGvEb (reg : RegNo) (rm : RM)
  /-- MOVSX `Gv,Ew | 0F BF /r` (40 R338). -/
  | movsxGvEw (reg : RegNo) (rm : RM)
  /-- XCHG `Eb,Gb | 86 /r` (40 R339). -/
  | xchgEbGb (rm : RM) (reg : RegNo)
  /-- XCHG `Ev,Gv | 87 /r` (40 R339). -/
  | xchgEvGv (rm : RM) (reg : RegNo)
  /-- PUSH `r16/32 | 50+r` (40 R340). -/
  | pushR (reg : RegNo)
  /-- PUSH `Ev | FF /6` (40 R341). -/
  | pushEv (rm : RM)
  /-- PUSH `Iv | 68 iv` (40 R342). -/
  | pushIv (imm : ImmV)
  /-- PUSH `Ib | 6A ib` (40 R342). -/
  | pushIb (imm : Byte)
  /-- POP `r16/32 | 58+r` (40 R344). -/
  | popR (reg : RegNo)
  /-- POP `Ev | 8F /0` (40 R345). -/
  | popEv (rm : RM)
  /-- LEA `Gv,M | 8D /r` (40 R349). -/
  | leaGvM (reg : RegNo) (mem : Mem)
  /-- LDS `Gv,Mp | C5 /r` (40 R350). -/
  | ldsGvMp (reg : RegNo) (mem : Mem)
  /-- LES `Gv,Mp | C4 /r` (40 R350). -/
  | lesGvMp (reg : RegNo) (mem : Mem)
  /-- LFS `Gv,Mp | 0F B4 /r` (40 R350). -/
  | lfsGvMp (reg : RegNo) (mem : Mem)
  /-- LGS `Gv,Mp | 0F B5 /r` (40 R350). -/
  | lgsGvMp (reg : RegNo) (mem : Mem)
  /-- LSS `Gv,Mp | 0F B2 /r` (40 R350). -/
  | lssGvMp (reg : RegNo) (mem : Mem)
  /-- ENTER `Iw,Ib | C8 iw ib` (40 R356). -/
  | enterIwIb (imm : Half) (imm2 : Byte)
  /-- SETcc `Eb | 0F 90+cc /r` (40 R358). -/
  | setccEb (cc : Cond) (rm : RM)
  /-- ADD `Eb,Gb | 00 /r` (41 R402). -/
  | addEbGb (rm : RM) (reg : RegNo)
  /-- ADD `Ev,Gv | 01 /r` (41 R402). -/
  | addEvGv (rm : RM) (reg : RegNo)
  /-- ADD `Gb,Eb | 02 /r` (41 R402). -/
  | addGbEb (reg : RegNo) (rm : RM)
  /-- ADD `Gv,Ev | 03 /r` (41 R402). -/
  | addGvEv (reg : RegNo) (rm : RM)
  /-- ADD `AL,Ib | 04 ib` (41 R402). -/
  | addAlIb (imm : Byte)
  /-- ADD `eAX,Iv | 05 iv` (41 R402). -/
  | addEaxIv (imm : ImmV)
  /-- ADD `Eb,Ib | 80 /0 ib` (41 R402). -/
  | addEbIb (rm : RM) (imm : Byte)
  /-- ADD `Ev,Iv | 81 /0 iv` (41 R402). -/
  | addEvIv (rm : RM) (imm : ImmV)
  /-- ADD `Ev,Ib | 83 /0 ib` (41 R402). -/
  | addEvIb (rm : RM) (imm : Byte)
  /-- ADC `Eb,Gb | 10 /r` (41 R403). -/
  | adcEbGb (rm : RM) (reg : RegNo)
  /-- ADC `Ev,Gv | 11 /r` (41 R403). -/
  | adcEvGv (rm : RM) (reg : RegNo)
  /-- ADC `Gb,Eb | 12 /r` (41 R403). -/
  | adcGbEb (reg : RegNo) (rm : RM)
  /-- ADC `Gv,Ev | 13 /r` (41 R403). -/
  | adcGvEv (reg : RegNo) (rm : RM)
  /-- ADC `AL,Ib | 14 ib` (41 R403). -/
  | adcAlIb (imm : Byte)
  /-- ADC `eAX,Iv | 15 iv` (41 R403). -/
  | adcEaxIv (imm : ImmV)
  /-- ADC `Eb,Ib | 80 /2 ib` (41 R403). -/
  | adcEbIb (rm : RM) (imm : Byte)
  /-- ADC `Ev,Iv | 81 /2 iv` (41 R403). -/
  | adcEvIv (rm : RM) (imm : ImmV)
  /-- ADC `Ev,Ib | 83 /2 ib` (41 R403). -/
  | adcEvIb (rm : RM) (imm : Byte)
  /-- SUB `Eb,Gb | 28 /r` (41 R404). -/
  | subEbGb (rm : RM) (reg : RegNo)
  /-- SUB `Ev,Gv | 29 /r` (41 R404). -/
  | subEvGv (rm : RM) (reg : RegNo)
  /-- SUB `Gb,Eb | 2A /r` (41 R404). -/
  | subGbEb (reg : RegNo) (rm : RM)
  /-- SUB `Gv,Ev | 2B /r` (41 R404). -/
  | subGvEv (reg : RegNo) (rm : RM)
  /-- SUB `AL,Ib | 2C ib` (41 R404). -/
  | subAlIb (imm : Byte)
  /-- SUB `eAX,Iv | 2D iv` (41 R404). -/
  | subEaxIv (imm : ImmV)
  /-- SUB `Eb,Ib | 80 /5 ib` (41 R404). -/
  | subEbIb (rm : RM) (imm : Byte)
  /-- SUB `Ev,Iv | 81 /5 iv` (41 R404). -/
  | subEvIv (rm : RM) (imm : ImmV)
  /-- SUB `Ev,Ib | 83 /5 ib` (41 R404). -/
  | subEvIb (rm : RM) (imm : Byte)
  /-- SBB `Eb,Gb | 18 /r` (41 R405). -/
  | sbbEbGb (rm : RM) (reg : RegNo)
  /-- SBB `Ev,Gv | 19 /r` (41 R405). -/
  | sbbEvGv (rm : RM) (reg : RegNo)
  /-- SBB `Gb,Eb | 1A /r` (41 R405). -/
  | sbbGbEb (reg : RegNo) (rm : RM)
  /-- SBB `Gv,Ev | 1B /r` (41 R405). -/
  | sbbGvEv (reg : RegNo) (rm : RM)
  /-- SBB `AL,Ib | 1C ib` (41 R405). -/
  | sbbAlIb (imm : Byte)
  /-- SBB `eAX,Iv | 1D iv` (41 R405). -/
  | sbbEaxIv (imm : ImmV)
  /-- SBB `Eb,Ib | 80 /3 ib` (41 R405). -/
  | sbbEbIb (rm : RM) (imm : Byte)
  /-- SBB `Ev,Iv | 81 /3 iv` (41 R405). -/
  | sbbEvIv (rm : RM) (imm : ImmV)
  /-- SBB `Ev,Ib | 83 /3 ib` (41 R405). -/
  | sbbEvIb (rm : RM) (imm : Byte)
  /-- CMP `Eb,Gb | 38 /r` (41 R406). -/
  | cmpEbGb (rm : RM) (reg : RegNo)
  /-- CMP `Ev,Gv | 39 /r` (41 R406). -/
  | cmpEvGv (rm : RM) (reg : RegNo)
  /-- CMP `Gb,Eb | 3A /r` (41 R406). -/
  | cmpGbEb (reg : RegNo) (rm : RM)
  /-- CMP `Gv,Ev | 3B /r` (41 R406). -/
  | cmpGvEv (reg : RegNo) (rm : RM)
  /-- CMP `AL,Ib | 3C ib` (41 R406). -/
  | cmpAlIb (imm : Byte)
  /-- CMP `eAX,Iv | 3D iv` (41 R406). -/
  | cmpEaxIv (imm : ImmV)
  /-- CMP `Eb,Ib | 80 /7 ib` (41 R406). -/
  | cmpEbIb (rm : RM) (imm : Byte)
  /-- CMP `Ev,Iv | 81 /7 iv` (41 R406). -/
  | cmpEvIv (rm : RM) (imm : ImmV)
  /-- CMP `Ev,Ib | 83 /7 ib` (41 R406). -/
  | cmpEvIb (rm : RM) (imm : Byte)
  /-- INC `Eb | FE /0` (41 R407). -/
  | incEb (rm : RM)
  /-- INC `Ev | FF /0` (41 R407). -/
  | incEv (rm : RM)
  /-- DEC `Eb | FE /1` (41 R408). -/
  | decEb (rm : RM)
  /-- DEC `Ev | FF /1` (41 R408). -/
  | decEv (rm : RM)
  /-- NOT `Eb | F6 /2` (41 R419). -/
  | notEb (rm : RM)
  /-- NOT `Ev | F7 /2` (41 R419). -/
  | notEv (rm : RM)
  /-- NEG `Eb | F6 /3` (41 R409). -/
  | negEb (rm : RM)
  /-- NEG `Ev | F7 /3` (41 R409). -/
  | negEv (rm : RM)
  /-- MUL `Eb | F6 /4` (41 R410). -/
  | mulEb (rm : RM)
  /-- MUL `Ev | F7 /4` (41 R410). -/
  | mulEv (rm : RM)
  /-- IMUL `Eb | F6 /5` (41 R411). -/
  | imulEb (rm : RM)
  /-- IMUL `Ev | F7 /5` (41 R411). -/
  | imulEv (rm : RM)
  /-- DIV `Eb | F6 /6` (41 R414). -/
  | divEb (rm : RM)
  /-- DIV `Ev | F7 /6` (41 R414). -/
  | divEv (rm : RM)
  /-- IDIV `Eb | F6 /7` (41 R415). -/
  | idivEb (rm : RM)
  /-- IDIV `Ev | F7 /7` (41 R415). -/
  | idivEv (rm : RM)
  /-- IMUL `Gv,Ev | 0F AF /r` (41 R412). -/
  | imulGvEv (reg : RegNo) (rm : RM)
  /-- IMUL `Gv,Ev,Iv | 69 /r iv` (41 R413). -/
  | imulGvEvIv (reg : RegNo) (rm : RM) (imm : ImmV)
  /-- IMUL `Gv,Ev,Ib | 6B /r ib` (41 R413). -/
  | imulGvEvIb (reg : RegNo) (rm : RM) (imm : Byte)
  /-- AND `Eb,Gb | 20 /r` (41 R416). -/
  | andEbGb (rm : RM) (reg : RegNo)
  /-- AND `Ev,Gv | 21 /r` (41 R416). -/
  | andEvGv (rm : RM) (reg : RegNo)
  /-- AND `Gb,Eb | 22 /r` (41 R416). -/
  | andGbEb (reg : RegNo) (rm : RM)
  /-- AND `Gv,Ev | 23 /r` (41 R416). -/
  | andGvEv (reg : RegNo) (rm : RM)
  /-- AND `AL,Ib | 24 ib` (41 R416). -/
  | andAlIb (imm : Byte)
  /-- AND `eAX,Iv | 25 iv` (41 R416). -/
  | andEaxIv (imm : ImmV)
  /-- AND `Eb,Ib | 80 /4 ib` (41 R416). -/
  | andEbIb (rm : RM) (imm : Byte)
  /-- AND `Ev,Iv | 81 /4 iv` (41 R416). -/
  | andEvIv (rm : RM) (imm : ImmV)
  /-- AND `Ev,Ib | 83 /4 ib` (41 R416). -/
  | andEvIb (rm : RM) (imm : Byte)
  /-- OR `Eb,Gb | 08 /r` (41 R417). -/
  | orEbGb (rm : RM) (reg : RegNo)
  /-- OR `Ev,Gv | 09 /r` (41 R417). -/
  | orEvGv (rm : RM) (reg : RegNo)
  /-- OR `Gb,Eb | 0A /r` (41 R417). -/
  | orGbEb (reg : RegNo) (rm : RM)
  /-- OR `Gv,Ev | 0B /r` (41 R417). -/
  | orGvEv (reg : RegNo) (rm : RM)
  /-- OR `AL,Ib | 0C ib` (41 R417). -/
  | orAlIb (imm : Byte)
  /-- OR `eAX,Iv | 0D iv` (41 R417). -/
  | orEaxIv (imm : ImmV)
  /-- OR `Eb,Ib | 80 /1 ib` (41 R417). -/
  | orEbIb (rm : RM) (imm : Byte)
  /-- OR `Ev,Iv | 81 /1 iv` (41 R417). -/
  | orEvIv (rm : RM) (imm : ImmV)
  /-- OR `Ev,Ib | 83 /1 ib` (41 R417). -/
  | orEvIb (rm : RM) (imm : Byte)
  /-- XOR `Eb,Gb | 30 /r` (41 R418). -/
  | xorEbGb (rm : RM) (reg : RegNo)
  /-- XOR `Ev,Gv | 31 /r` (41 R418). -/
  | xorEvGv (rm : RM) (reg : RegNo)
  /-- XOR `Gb,Eb | 32 /r` (41 R418). -/
  | xorGbEb (reg : RegNo) (rm : RM)
  /-- XOR `Gv,Ev | 33 /r` (41 R418). -/
  | xorGvEv (reg : RegNo) (rm : RM)
  /-- XOR `AL,Ib | 34 ib` (41 R418). -/
  | xorAlIb (imm : Byte)
  /-- XOR `eAX,Iv | 35 iv` (41 R418). -/
  | xorEaxIv (imm : ImmV)
  /-- XOR `Eb,Ib | 80 /6 ib` (41 R418). -/
  | xorEbIb (rm : RM) (imm : Byte)
  /-- XOR `Ev,Iv | 81 /6 iv` (41 R418). -/
  | xorEvIv (rm : RM) (imm : ImmV)
  /-- XOR `Ev,Ib | 83 /6 ib` (41 R418). -/
  | xorEvIb (rm : RM) (imm : Byte)
  /-- TEST `Eb,Gb | 84 /r` (41 R420). -/
  | testEbGb (rm : RM) (reg : RegNo)
  /-- TEST `Ev,Gv | 85 /r` (41 R420). -/
  | testEvGv (rm : RM) (reg : RegNo)
  /-- TEST `AL,Ib | A8 ib` (41 R420). -/
  | testAlIb (imm : Byte)
  /-- TEST `eAX,Iv | A9 iv` (41 R420). -/
  | testEaxIv (imm : ImmV)
  /-- TEST `Eb,Ib | F6 /0 ib` (41 R420). -/
  | testEbIb (rm : RM) (imm : Byte)
  /-- TEST `Ev,Iv | F7 /0 iv` (41 R420). -/
  | testEvIv (rm : RM) (imm : ImmV)
  /-- ROL `Eb,1 | D0 /0` (41 R424). -/
  | rolEb1 (rm : RM)
  /-- ROL `Ev,1 | D1 /0` (41 R424). -/
  | rolEv1 (rm : RM)
  /-- ROL `Eb,CL | D2 /0` (41 R424). -/
  | rolEbCl (rm : RM)
  /-- ROL `Ev,CL | D3 /0` (41 R424). -/
  | rolEvCl (rm : RM)
  /-- ROL `Eb,Ib | C0 /0 ib` (41 R424). -/
  | rolEbIb (rm : RM) (imm : Byte)
  /-- ROL `Ev,Ib | C1 /0 ib` (41 R424). -/
  | rolEvIb (rm : RM) (imm : Byte)
  /-- ROR `Eb,1 | D0 /1` (41 R425). -/
  | rorEb1 (rm : RM)
  /-- ROR `Ev,1 | D1 /1` (41 R425). -/
  | rorEv1 (rm : RM)
  /-- ROR `Eb,CL | D2 /1` (41 R425). -/
  | rorEbCl (rm : RM)
  /-- ROR `Ev,CL | D3 /1` (41 R425). -/
  | rorEvCl (rm : RM)
  /-- ROR `Eb,Ib | C0 /1 ib` (41 R425). -/
  | rorEbIb (rm : RM) (imm : Byte)
  /-- ROR `Ev,Ib | C1 /1 ib` (41 R425). -/
  | rorEvIb (rm : RM) (imm : Byte)
  /-- RCL `Eb,1 | D0 /2` (41 R426). -/
  | rclEb1 (rm : RM)
  /-- RCL `Ev,1 | D1 /2` (41 R426). -/
  | rclEv1 (rm : RM)
  /-- RCL `Eb,CL | D2 /2` (41 R426). -/
  | rclEbCl (rm : RM)
  /-- RCL `Ev,CL | D3 /2` (41 R426). -/
  | rclEvCl (rm : RM)
  /-- RCL `Eb,Ib | C0 /2 ib` (41 R426). -/
  | rclEbIb (rm : RM) (imm : Byte)
  /-- RCL `Ev,Ib | C1 /2 ib` (41 R426). -/
  | rclEvIb (rm : RM) (imm : Byte)
  /-- RCR `Eb,1 | D0 /3` (41 R427). -/
  | rcrEb1 (rm : RM)
  /-- RCR `Ev,1 | D1 /3` (41 R427). -/
  | rcrEv1 (rm : RM)
  /-- RCR `Eb,CL | D2 /3` (41 R427). -/
  | rcrEbCl (rm : RM)
  /-- RCR `Ev,CL | D3 /3` (41 R427). -/
  | rcrEvCl (rm : RM)
  /-- RCR `Eb,Ib | C0 /3 ib` (41 R427). -/
  | rcrEbIb (rm : RM) (imm : Byte)
  /-- RCR `Ev,Ib | C1 /3 ib` (41 R427). -/
  | rcrEvIb (rm : RM) (imm : Byte)
  /-- SHL_SAL `Eb,1 | D0 /4` (41 R421). -/
  | shlEb1 (rm : RM)
  /-- SHL_SAL `Ev,1 | D1 /4` (41 R421). -/
  | shlEv1 (rm : RM)
  /-- SHL_SAL `Eb,CL | D2 /4` (41 R421). -/
  | shlEbCl (rm : RM)
  /-- SHL_SAL `Ev,CL | D3 /4` (41 R421). -/
  | shlEvCl (rm : RM)
  /-- SHL_SAL `Eb,Ib | C0 /4 ib` (41 R421). -/
  | shlEbIb (rm : RM) (imm : Byte)
  /-- SHL_SAL `Ev,Ib | C1 /4 ib` (41 R421). -/
  | shlEvIb (rm : RM) (imm : Byte)
  /-- SHR `Eb,1 | D0 /5` (41 R422). -/
  | shrEb1 (rm : RM)
  /-- SHR `Ev,1 | D1 /5` (41 R422). -/
  | shrEv1 (rm : RM)
  /-- SHR `Eb,CL | D2 /5` (41 R422). -/
  | shrEbCl (rm : RM)
  /-- SHR `Ev,CL | D3 /5` (41 R422). -/
  | shrEvCl (rm : RM)
  /-- SHR `Eb,Ib | C0 /5 ib` (41 R422). -/
  | shrEbIb (rm : RM) (imm : Byte)
  /-- SHR `Ev,Ib | C1 /5 ib` (41 R422). -/
  | shrEvIb (rm : RM) (imm : Byte)
  /-- SAR `Eb,1 | D0 /7` (41 R423). -/
  | sarEb1 (rm : RM)
  /-- SAR `Ev,1 | D1 /7` (41 R423). -/
  | sarEv1 (rm : RM)
  /-- SAR `Eb,CL | D2 /7` (41 R423). -/
  | sarEbCl (rm : RM)
  /-- SAR `Ev,CL | D3 /7` (41 R423). -/
  | sarEvCl (rm : RM)
  /-- SAR `Eb,Ib | C0 /7 ib` (41 R423). -/
  | sarEbIb (rm : RM) (imm : Byte)
  /-- SAR `Ev,Ib | C1 /7 ib` (41 R423). -/
  | sarEvIb (rm : RM) (imm : Byte)
  /-- SHLD `Ev,Gv,Ib | 0F A4 /r ib` (41 R428). -/
  | shldEvGvIb (rm : RM) (reg : RegNo) (imm : Byte)
  /-- SHLD `Ev,Gv,CL | 0F A5 /r` (41 R428). -/
  | shldEvGvCl (rm : RM) (reg : RegNo)
  /-- SHRD `Ev,Gv,Ib | 0F AC /r ib` (41 R429). -/
  | shrdEvGvIb (rm : RM) (reg : RegNo) (imm : Byte)
  /-- SHRD `Ev,Gv,CL | 0F AD /r` (41 R429). -/
  | shrdEvGvCl (rm : RM) (reg : RegNo)
  /-- BT `Ev,Gv | 0F A3 /r` (41 R430). -/
  | btEvGv (rm : RM) (reg : RegNo)
  /-- BT `Ev,Ib | 0F BA /4 ib` (41 R430). -/
  | btEvIb (rm : RM) (imm : Byte)
  /-- BTS `Ev,Gv | 0F AB /r` (41 R431). -/
  | btsEvGv (rm : RM) (reg : RegNo)
  /-- BTS `Ev,Ib | 0F BA /5 ib` (41 R431). -/
  | btsEvIb (rm : RM) (imm : Byte)
  /-- BTR `Ev,Gv | 0F B3 /r` (41 R432). -/
  | btrEvGv (rm : RM) (reg : RegNo)
  /-- BTR `Ev,Ib | 0F BA /6 ib` (41 R432). -/
  | btrEvIb (rm : RM) (imm : Byte)
  /-- BTC `Ev,Gv | 0F BB /r` (41 R433). -/
  | btcEvGv (rm : RM) (reg : RegNo)
  /-- BTC `Ev,Ib | 0F BA /7 ib` (41 R433). -/
  | btcEvIb (rm : RM) (imm : Byte)
  /-- BSF `Gv,Ev | 0F BC /r` (41 R434). -/
  | bsfGvEv (reg : RegNo) (rm : RM)
  /-- BSR `Gv,Ev | 0F BD /r` (41 R435). -/
  | bsrGvEv (reg : RegNo) (rm : RM)
  /-- AAM `Ib | D4 ib` (41 R440). -/
  | aamIb (imm : Byte)
  /-- AAD `Ib | D5 ib` (41 R441). -/
  | aadIb (imm : Byte)
  /-- BOUND `Gv,Ma | 62 /r` (41 R442). -/
  | boundGvMa (reg : RegNo) (mem : Mem)
  /-- JMP `Jb | EB cb` (42 R495). -/
  | jmpJb (rel : Byte)
  /-- JMP `Jv | E9 cv` (42 R495). -/
  | jmpJv (rel : ImmV)
  /-- JMP `Ev | FF /4` (42 R496). -/
  | jmpEv (rm : RM)
  /-- Jcc `Jb | 70+cc cb` (42 R497). -/
  | jccJb (cc : Cond) (rel : Byte)
  /-- Jcc `Jv | 0F 80+cc cv` (42 R497). -/
  | jccJv (cc : Cond) (rel : ImmV)
  /-- JCXZ_JECXZ `Jb | E3 cb` (42 R498). -/
  | jcxzJb (rel : Byte)
  /-- LOOP `Jb | E2 cb` (42 R499). -/
  | loopJb (rel : Byte)
  /-- LOOPE_LOOPZ `Jb | E1 cb` (42 R500). -/
  | loopeJb (rel : Byte)
  /-- LOOPNE_LOOPNZ `Jb | E0 cb` (42 R501). -/
  | loopneJb (rel : Byte)
  /-- CALL `Jv | E8 cv` (42 R502). -/
  | callJv (rel : ImmV)
  /-- CALL `Ev | FF /2` (42 R503). -/
  | callEv (rm : RM)
  /-- RET `Iw | C2 iw` (42 R505). -/
  | retIw (imm : Half)
  /-- JMP_far `Ap | EA ap` (42 R506). -/
  | jmpFarAp (off : ImmV) (sel : Half)
  /-- JMP_far `Mp | FF /5` (42 R507). -/
  | jmpFarMp (mem : Mem)
  /-- CALL_far `Ap | 9A ap` (42 R508). -/
  | callFarAp (off : ImmV) (sel : Half)
  /-- CALL_far `Mp | FF /3` (42 R509). -/
  | callFarMp (mem : Mem)
  /-- RETF `Iw | CA iw` (42 R511). -/
  | retfIw (imm : Half)
  /-- INT `Ib | CD ib` (42 R512). -/
  | intIb (imm : Byte)
  /-- IN `AL,Ib | E4 ib` (43 R571). -/
  | inAlIb (imm : Byte)
  /-- IN `eAX,Ib | E5 ib` (43 R571). -/
  | inEaxIb (imm : Byte)
  /-- OUT `Ib,AL | E6 ib` (43 R573). -/
  | outIbAl (imm : Byte)
  /-- OUT `Ib,eAX | E7 ib` (43 R573). -/
  | outIbEax (imm : Byte)
  /-- SGDT `Ms | 0F 01 /0` (44 R612). -/
  | sgdtMs (mem : Mem)
  /-- SIDT `Ms | 0F 01 /1` (44 R614). -/
  | sidtMs (mem : Mem)
  /-- LGDT `Ms | 0F 01 /2` (44 R610). -/
  | lgdtMs (mem : Mem)
  /-- LIDT `Ms | 0F 01 /3` (44 R611). -/
  | lidtMs (mem : Mem)
  /-- SMSW `Ew | 0F 01 /4` (44 R620). -/
  | smswEw (rm : RM)
  /-- LMSW `Ew | 0F 01 /6` (44 R619). -/
  | lmswEw (rm : RM)
  /-- SLDT `Ew | 0F 00 /0` (44 R616). -/
  | sldtEw (rm : RM)
  /-- STR `Ew | 0F 00 /1` (44 R618). -/
  | strEw (rm : RM)
  /-- LLDT `Ew | 0F 00 /2` (44 R615). -/
  | lldtEw (rm : RM)
  /-- LTR `Ew | 0F 00 /3` (44 R617). -/
  | ltrEw (rm : RM)
  /-- VERR `Ew | 0F 00 /4` (44 R642). -/
  | verrEw (rm : RM)
  /-- VERW `Ew | 0F 00 /5` (44 R643). -/
  | verwEw (rm : RM)
  /-- LAR `Gv,Ew | 0F 02 /r` (44 R640). -/
  | larGvEw (reg : RegNo) (rm : RM)
  /-- LSL `Gv,Ew | 0F 03 /r` (44 R641). -/
  | lslGvEw (reg : RegNo) (rm : RM)
  /-- MOV `Rd,Cd | 0F 20 /r` (44 R630). -/
  | movRdCd (reg : RegNo) (cr : CrNo)
  /-- MOV `Cd,Rd | 0F 22 /r` (44 R631). -/
  | movCdRd (cr : CrNo) (reg : RegNo)
  /-- MOV `Rd,Dd | 0F 21 /r` (44 R632). -/
  | movRdDd (reg : RegNo) (dr : DrNo)
  /-- MOV `Dd,Rd | 0F 23 /r` (44 R633). -/
  | movDdRd (dr : DrNo) (reg : RegNo)
  /-- MOV `Rd,Td | 0F 24 /r` (44 R634). -/
  | movRdTd (reg : RegNo) (tr : TrNo)
  /-- MOV `Td,Rd | 0F 26 /r` (44 R634). -/
  | movTdRd (tr : TrNo) (reg : RegNo)
  /-- ARPL `Ew,Gw | 63 /r` (44 R644). -/
  | arplEwGw (rm : RM) (reg : RegNo)
  /-- ESC__any_numerics_instruction `D8+i` (45 R680). -/
  | esc (op : BitVec 3) (ext : BitVec 3) (rm : RM)
  /-- FNSTSW_m16 `DD /7` (45 R690). -/
  | fnstswM (mem : Mem)
  /-- FNSTCW_m16 `D9 /7` (45 R690). -/
  | fnstcwM (mem : Mem)
  /-- FSAVE_FNSAVE_m `DD /6` (45 R690). -/
  | fsaveM (mem : Mem)
  /-- FRSTOR_m `DD /4` (45 R690). -/
  | frstorM (mem : Mem)
  /-- FSTENV_FNSTENV_m `D9 /6` (45 R690). -/
  | fstenvM (mem : Mem)
  /-- FLDCW_m16 `D9 /5` (45 R690). -/
  | fldcwM (mem : Mem)
  /-- FADD_m32real `D8 /0` (45 R690). -/
  | faddM32 (mem : Mem)
  /-- FADD_m64real `DC /0` (45 R690). -/
  | faddM64 (mem : Mem)
  /-- FMUL_m32real `D8 /1` (45 R690). -/
  | fmulM32 (mem : Mem)
  /-- FMUL_m64real `DC /1` (45 R690). -/
  | fmulM64 (mem : Mem)
  /-- XCHG `eAX,r16/32 | 90+r`, EAX,ECX (40 R339). -/
  | xchgEaxEcx
  /-- XCHG `eAX,r16/32 | 90+r`, EAX,EDX (40 R339). -/
  | xchgEaxEdx
  /-- XCHG `eAX,r16/32 | 90+r`, EAX,EBX (40 R339). -/
  | xchgEaxEbx
  /-- XCHG `eAX,r16/32 | 90+r`, EAX,ESP (40 R339). -/
  | xchgEaxEsp
  /-- XCHG `eAX,r16/32 | 90+r`, EAX,EBP (40 R339). -/
  | xchgEaxEbp
  /-- XCHG `eAX,r16/32 | 90+r`, EAX,ESI (40 R339). -/
  | xchgEaxEsi
  /-- XCHG `eAX,r16/32 | 90+r`, EAX,EDI (40 R339). -/
  | xchgEaxEdi
  /-- PUSH `ES | 06` (40 R343). -/
  | pushEs
  /-- PUSH `CS | 0E` (40 R343). -/
  | pushCs
  /-- PUSH `SS | 16` (40 R343). -/
  | pushSs
  /-- PUSH `DS | 1E` (40 R343). -/
  | pushDs
  /-- PUSH `FS | 0F A0` (40 R343). -/
  | pushFs
  /-- PUSH `GS | 0F A8` (40 R343). -/
  | pushGs
  /-- POP `ES | 07` (40 R346). -/
  | popEs
  /-- POP `SS | 17` (40 R346). -/
  | popSs
  /-- POP `DS | 1F` (40 R346). -/
  | popDs
  /-- POP `FS | 0F A1` (40 R346). -/
  | popFs
  /-- POP `GS | 0F A9` (40 R346). -/
  | popGs
  /-- PUSHA_PUSHAD `60` (40 R347). -/
  | pusha
  /-- POPA_POPAD `61` (40 R348). -/
  | popa
  /-- XLAT_XLATB `D7` (40 R351). -/
  | xlat
  /-- CBW_CWDE `98` (40 R352). -/
  | cbw
  /-- CWD_CDQ `99` (40 R353). -/
  | cwd
  /-- LAHF `9F` (40 R354). -/
  | lahf
  /-- SAHF `9E` (40 R355). -/
  | sahf
  /-- LEAVE `C9` (40 R357). -/
  | leave
  /-- NOP `90` (40 R359). -/
  | nop
  /-- INC `r16/32 | 40+r`, EAX (41 R407). -/
  | incEax
  /-- INC `r16/32 | 40+r`, ECX (41 R407). -/
  | incEcx
  /-- INC `r16/32 | 40+r`, EDX (41 R407). -/
  | incEdx
  /-- INC `r16/32 | 40+r`, EBX (41 R407). -/
  | incEbx
  /-- INC `r16/32 | 40+r`, ESP (41 R407). -/
  | incEsp
  /-- INC `r16/32 | 40+r`, EBP (41 R407). -/
  | incEbp
  /-- INC `r16/32 | 40+r`, ESI (41 R407). -/
  | incEsi
  /-- INC `r16/32 | 40+r`, EDI (41 R407). -/
  | incEdi
  /-- DEC `r16/32 | 48+r`, EAX (41 R408). -/
  | decEax
  /-- DEC `r16/32 | 48+r`, ECX (41 R408). -/
  | decEcx
  /-- DEC `r16/32 | 48+r`, EDX (41 R408). -/
  | decEdx
  /-- DEC `r16/32 | 48+r`, EBX (41 R408). -/
  | decEbx
  /-- DEC `r16/32 | 48+r`, ESP (41 R408). -/
  | decEsp
  /-- DEC `r16/32 | 48+r`, EBP (41 R408). -/
  | decEbp
  /-- DEC `r16/32 | 48+r`, ESI (41 R408). -/
  | decEsi
  /-- DEC `r16/32 | 48+r`, EDI (41 R408). -/
  | decEdi
  /-- DAA `27` (41 R436). -/
  | daa
  /-- DAS `2F` (41 R437). -/
  | das
  /-- AAA `37` (41 R438). -/
  | aaa
  /-- AAS `3F` (41 R439). -/
  | aas
  /-- RET `C3` (42 R504). -/
  | ret
  /-- RETF `CB` (42 R510). -/
  | retf
  /-- INT_3 `CC` (42 R513). -/
  | int3
  /-- INTO `CE` (42 R514). -/
  | into
  /-- IRET_IRETD `CF` (42 R515). -/
  | iret
  /-- MOVSB `A4` (43 R564). -/
  | movsb
  /-- MOVSW_MOVSD `A5` (43 R564). -/
  | movsv
  /-- CMPSB `A6` (43 R565). -/
  | cmpsb
  /-- CMPSW_CMPSD `A7` (43 R565). -/
  | cmpsv
  /-- STOSB `AA` (43 R568). -/
  | stosb
  /-- STOSW_STOSD `AB` (43 R568). -/
  | stosv
  /-- LODSB `AC` (43 R567). -/
  | lodsb
  /-- LODSW_LODSD `AD` (43 R567). -/
  | lodsv
  /-- SCASB `AE` (43 R566). -/
  | scasb
  /-- SCASW_SCASD `AF` (43 R566). -/
  | scasv
  /-- INSB `6C` (43 R569). -/
  | insb
  /-- INSW_INSD `6D` (43 R569). -/
  | insv
  /-- OUTSB `6E` (43 R570). -/
  | outsb
  /-- OUTSW_OUTSD `6F` (43 R570). -/
  | outsv
  /-- REP_REPE_REPZ__prefix `F3` (43 R561). -/
  | repPrefix
  /-- REPNE_REPNZ__prefix `F2` (43 R563). -/
  | repnePrefix
  /-- IN `AL,DX | EC` (43 R572). -/
  | inAlDx
  /-- IN `eAX,DX | ED` (43 R572). -/
  | inEaxDx
  /-- OUT `DX,AL | EE` (43 R574). -/
  | outDxAl
  /-- OUT `DX,eAX | EF` (43 R574). -/
  | outDxEax
  /-- CLC `F8` (43 R580). -/
  | clc
  /-- STC `F9` (43 R581). -/
  | stc
  /-- CMC `F5` (43 R582). -/
  | cmc
  /-- CLD `FC` (43 R583). -/
  | cld
  /-- STD `FD` (43 R584). -/
  | std
  /-- CLI `FA` (43 R590). -/
  | cli
  /-- STI `FB` (43 R591). -/
  | sti
  /-- PUSHF_PUSHFD `9C` (43 R592). -/
  | pushf
  /-- POPF_POPFD `9D` (43 R593). -/
  | popf
  /-- CLTS `0F 06` (44 R621). -/
  | clts
  /-- HLT `F4` (44 R650). -/
  | hlt
  /-- WAIT_FWAIT `9B` (45 R685). -/
  | wait
  /-- FNINIT `DB E3` (45 R690). -/
  | fninit
  /-- FLD1 `D9 E8` (45 R690). -/
  | fld1
  /-- FLDZ `D9 EE` (45 R690). -/
  | fldz
  /-- FDIVP_ST_1__ST `DE F9` (45 R690). -/
  | fdivp
  /-- FLD_ST_0 `D9 C0` (45 R690). -/
  | fldSt0
  /-- FCHS `D9 E0` (45 R690). -/
  | fchs
  /-- FCOMPP `DE D9` (45 R690). -/
  | fcompp
  /-- FSETPM `DB E4` (45 R690). -/
  | fsetpm
  /-- FNSTSW_AX `DF E0` (45 R690). -/
  | fnstswAx
  /-- FNCLEX `DB E2` (45 R690). -/
  | fnclex
  /-- FSQRT `D9 FA` (45 R690). -/
  | fsqrt
  /-- operand-size_prefix `66` (30 R261). -/
  | opSizePrefix
  /-- address-size_prefix `67` (30 R261). -/
  | addrSizePrefix
  /-- LOCK_prefix `F0` (30 R258). -/
  | lockPrefix
  /-- ES_override_prefix `26` (30 R254). -/
  | esPrefix
  /-- CS_override_prefix `2E` (30 R254). -/
  | csPrefix
  /-- SS_override_prefix `36` (30 R254). -/
  | ssPrefix
  /-- DS_override_prefix `3E` (30 R254). -/
  | dsPrefix
  /-- FS_override_prefix `64` (30 R254). -/
  | fsPrefix
  /-- GS_override_prefix `65` (30 R254). -/
  | gsPrefix
  /-- FADD_ST_ST_i `D8 C0+i`, ST(0) (45 R690). -/
  | faddStSt0
  /-- FADD_ST_ST_i `D8 C0+i`, ST(1) (45 R690). -/
  | faddStSt1
  /-- FADD_ST_ST_i `D8 C0+i`, ST(2) (45 R690). -/
  | faddStSt2
  /-- FADD_ST_ST_i `D8 C0+i`, ST(3) (45 R690). -/
  | faddStSt3
  /-- FADD_ST_ST_i `D8 C0+i`, ST(4) (45 R690). -/
  | faddStSt4
  /-- FADD_ST_ST_i `D8 C0+i`, ST(5) (45 R690). -/
  | faddStSt5
  /-- FADD_ST_ST_i `D8 C0+i`, ST(6) (45 R690). -/
  | faddStSt6
  /-- FADD_ST_ST_i `D8 C0+i`, ST(7) (45 R690). -/
  | faddStSt7
  /-- FADD_ST_i__ST `DC C0+i`, ST(0) (45 R690). -/
  | faddSt0St
  /-- FADD_ST_i__ST `DC C0+i`, ST(1) (45 R690). -/
  | faddSt1St
  /-- FADD_ST_i__ST `DC C0+i`, ST(2) (45 R690). -/
  | faddSt2St
  /-- FADD_ST_i__ST `DC C0+i`, ST(3) (45 R690). -/
  | faddSt3St
  /-- FADD_ST_i__ST `DC C0+i`, ST(4) (45 R690). -/
  | faddSt4St
  /-- FADD_ST_i__ST `DC C0+i`, ST(5) (45 R690). -/
  | faddSt5St
  /-- FADD_ST_i__ST `DC C0+i`, ST(6) (45 R690). -/
  | faddSt6St
  /-- FADD_ST_i__ST `DC C0+i`, ST(7) (45 R690). -/
  | faddSt7St
  /-- FMUL_ST_ST_i `D8 C8+i`, ST(0) (45 R690). -/
  | fmulStSt0
  /-- FMUL_ST_ST_i `D8 C8+i`, ST(1) (45 R690). -/
  | fmulStSt1
  /-- FMUL_ST_ST_i `D8 C8+i`, ST(2) (45 R690). -/
  | fmulStSt2
  /-- FMUL_ST_ST_i `D8 C8+i`, ST(3) (45 R690). -/
  | fmulStSt3
  /-- FMUL_ST_ST_i `D8 C8+i`, ST(4) (45 R690). -/
  | fmulStSt4
  /-- FMUL_ST_ST_i `D8 C8+i`, ST(5) (45 R690). -/
  | fmulStSt5
  /-- FMUL_ST_ST_i `D8 C8+i`, ST(6) (45 R690). -/
  | fmulStSt6
  /-- FMUL_ST_ST_i `D8 C8+i`, ST(7) (45 R690). -/
  | fmulStSt7
  /-- FMUL_ST_i__ST `DC C8+i`, ST(0) (45 R690). -/
  | fmulSt0St
  /-- FMUL_ST_i__ST `DC C8+i`, ST(1) (45 R690). -/
  | fmulSt1St
  /-- FMUL_ST_i__ST `DC C8+i`, ST(2) (45 R690). -/
  | fmulSt2St
  /-- FMUL_ST_i__ST `DC C8+i`, ST(3) (45 R690). -/
  | fmulSt3St
  /-- FMUL_ST_i__ST `DC C8+i`, ST(4) (45 R690). -/
  | fmulSt4St
  /-- FMUL_ST_i__ST `DC C8+i`, ST(5) (45 R690). -/
  | fmulSt5St
  /-- FMUL_ST_i__ST `DC C8+i`, ST(6) (45 R690). -/
  | fmulSt6St
  /-- FMUL_ST_i__ST `DC C8+i`, ST(7) (45 R690). -/
  | fmulSt7St
  deriving DecidableEq, Repr

end Sys2Proof
end

