-- ==== Sys2Proof/Machine/State.lean ====
section
/-! DEFINITION. The state of the 80386 as plain data (spec 10), the reasons a step can stop, and the state after
RESET (10 R120, R121). What each field is and where the spec names it: INVENTORY.md, "State". -/

namespace Sys2Proof.Machine

/-- The eight general registers (10 R30). -/
structure Regs where
  eax : Word
  ecx : Word
  edx : Word
  ebx : Word
  esp : Word
  ebp : Word
  esi : Word
  edi : Word
  deriving DecidableEq, Repr

/-- EFLAGS without its constant bits (10 R36, R42; log 5). -/
structure Flags where
  CF : Bool
  PF : Bool
  AF : Bool
  ZF : Bool
  SF : Bool
  TF : Bool
  IF : Bool
  DF : Bool
  OF : Bool
  IOPL : BitVec 2
  NT : Bool
  RF : Bool
  VM : Bool
  deriving DecidableEq, Repr

/-- A segment register with its descriptor register (10 R43, R44). `usable` is false while it holds a null selector
(20 R165). `dpl` of CS is the CPL in protected mode (10 R49; log 34). -/
structure SegReg where
  selector : Half
  base : Word
  limit : Word
  present : Bool
  dpl : BitVec 2
  executable : Bool
  readable : Bool
  writeable : Bool
  expandDown : Bool
  conforming : Bool
  big : Bool
  granularity : Bool
  accessed : Bool
  usable : Bool
  deriving DecidableEq, Repr

structure Segs where
  es : SegReg
  cs : SegReg
  ss : SegReg
  ds : SegReg
  fs : SegReg
  gs : SegReg
  deriving DecidableEq, Repr

/-- GDTR and IDTR (10 R53). -/
structure TableReg where
  base : Word
  limit : Half
  deriving DecidableEq, Repr

/-- LDTR with its hidden part (10 R55); not `valid` after a null selector. -/
structure LdtReg where
  selector : Half
  base : Word
  limit : Word
  valid : Bool
  deriving DecidableEq, Repr

/-- TR with its hidden part; `is386` tells the kind of the TSS (10 R56, 20 R215). -/
structure TaskReg where
  selector : Half
  base : Word
  limit : Word
  is386 : Bool
  deriving DecidableEq, Repr

/-- CR0: its defined bits, and bits 30:5 as they were written (10 R57; log 4). -/
structure Cr0 where
  PE : Bool
  MP : Bool
  EM : Bool
  TS : Bool
  ET : Bool
  PG : Bool
  reserved : BitVec 26
  deriving DecidableEq, Repr

/-- Breakpoint addresses, status and control (10 R65). -/
structure DebugRegs where
  dr0 : Word
  dr1 : Word
  dr2 : Word
  dr3 : Word
  dr6 : Word
  dr7 : Word
  deriving DecidableEq, Repr

/-- Which coprocessor is attached: `NPX` (00 R9). -/
inductive NpxKind where
  | none
  | npx287
  | npx387
  deriving DecidableEq, Repr

/-- What the 80386 keeps and reads of the coprocessor (10 R68, R69). -/
structure Npx where
  kind : NpxKind
  busy : Bool
  error : Bool
  insnSel : Half
  insnOff : Word
  opcode : BitVec 11
  opSel : Half
  opOff : Word
  deriving DecidableEq, Repr

/-- Running, waiting after HLT, or shut down (70 R875). -/
inductive RunState where
  | running
  | halted
  | shutdown
  deriving DecidableEq, Repr

/-- A translation the TLB may hold (20 R197). -/
structure TlbEntry where
  page : BitVec 20
  frame : BitVec 20
  user : Bool
  writeable : Bool
  dirty : Bool
  deriving DecidableEq, Repr

/-- The value a stored-over byte had, for as long as the prefetch queue may hold it; `next` is the linear address of
the instruction after the store (20 R233; log 19). -/
structure StaleByte where
  pa : Word
  old : Byte
  next : Word
  deriving DecidableEq, Repr

/-- CR3 and the TLB as they were when a mode, or its paging, ended (20 R197). -/
structure OldPaging where
  cr3 : Word
  tlb : List TlbEntry
  deriving DecidableEq, Repr

/-- The mode before a change of PE or PG, for as long as the queue may hold instructions decoded in it; `next` is the
linear address of the instruction after the write; `clean` while only instructions that behave the same in both modes
have followed it; `paging` what those instructions were fetched and addressed through, noted at once for a mode with PG
clear and else when CR3 is loaded since (20 R233, 70 R850, R860; log 19). -/
structure StaleMode where
  PE : Bool
  PG : Bool
  next : Word
  clean : Bool
  paging : Option OldPaging
  deriving DecidableEq, Repr

/-- What answers at physical addresses that are not RAM (20 R220). -/
inductive PhysKind where
  | rom
  | device
  | nothing
  deriving DecidableEq, Repr

/-- A region of `PhysMap` (20 R220, 92 D6; log 7). -/
structure PhysRegion where
  base : Nat
  size : Nat
  kind : PhysKind
  deriving DecidableEq, Repr

/-- What the devices have been sent, in program order (92 D19): a port write, or one byte of a memory-mapped write of
`bytes` bytes. -/
inductive IoEvent where
  | out (port : Half) (bytes : Nat) (value : Word)
  | mem (pa : Word) (bytes : Nat) (value : Byte)
  deriving DecidableEq, Repr

/-- A byte of a write of `bytes` bytes that the coprocessor has taken over and not stored yet (70 R865; log 17). -/
structure LateByte where
  pa : Word
  bytes : Nat
  value : Byte
  deriving DecidableEq, Repr

/-- The context of the instruction in progress (30 R310): prefixes seen, `len` bytes consumed, whether queued bytes
or a queued mode are taken in their old form, EXT (60 R732), whether an event is being delivered at supervisor level
(60 R770), and the memory bits that stay set when the instruction faults (60 R722 (c)). Empty between steps (log 20). -/
structure Insn where
  opSize : Bool
  adSize : Bool
  seg : Option SegNo
  lock : Bool
  rep : Bool
  repne : Bool
  len : Nat
  useStale : Option Bool
  oldMode : Option StaleMode
  ext : Bool
  system : Bool
  kept : List Host.Cell
  keepRF : Bool
  deriving DecidableEq, Repr

/-- The machine (spec 10). -/
structure State where
  regs : Regs
  eip : Word
  flags : Flags
  segs : Segs
  gdtr : TableReg
  idtr : TableReg
  ldtr : LdtReg
  tr : TaskReg
  cr0 : Cr0
  cr2 : Word
  cr3 : Word
  dr : DebugRegs
  tr6 : Word
  tr7 : Word
  npx : Npx
  nmiPending : Bool
  nmiBlocked : Bool
  intr : Option Byte
  inhibitInt : Bool
  inhibitAll : Bool
  pendingDb : Word
  heldDb : Word
  heldIntr : List Byte
  resetPin : Bool
  run : RunState
  tlb : List TlbEntry
  staleBytes : List StaleByte
  staleModes : List StaleMode
  repeating : Option (Instr × Insn)
  lateBytes : List LateByte
  mem : List Host.Cell
  physMap : List PhysRegion
  trace : List IoEvent
  draws : Nat
  insn : Insn
  deriving DecidableEq, Repr

/-- Why a run ends (92 D20). -/
inductive Fault where
  /-- The step raises it after HLT with IF = 0 and no NMI or RESET (44 R650, 70 R875). Safe: the machine stops. -/
  | halted
  /-- The step raises it in shutdown with no NMI or RESET (60 R771, 70 R875). Safe: the machine stops. -/
  | shutdown
  deriving DecidableEq, Repr

/-- What the spec orders a model to refuse (93). Each is safe: the model answers nothing where the chip goes on. -/
inductive Refusal where
  /-- Raised by an arm of `exec` for an instruction without a meaning; no arm does. Safe. -/
  | notModelled (mnemonic : String)
  /-- F2 or F3 before an instruction that is not a string instruction (30 R255, 93 U2). Raised by every other
  meaning. Safe. -/
  | repBeforeOther
  /-- F2 and F3 together, or F0 with one of them (30 R253, 93 U1). Raised by every meaning. Safe. -/
  | prefixCombination
  /-- MOV to or from DR4 or DR5 (44 R632, 93 U11). Raised by the two MOV meanings at CPL 0. Safe. -/
  | debugRegister
  /-- MOV to or from TR6 or TR7 (44 R634, 93 U12). Raised by the two MOV meanings at CPL 0. Safe. -/
  | testRegister
  /-- An 80286 gate in the IDT interrupts a V86 task (60 R765, 93 S19). Raised by event delivery. Safe. -/
  | gate286FromV86
  /-- An I/O access runs past port FFFFH (20 R205, 93 U66). Raised by IN, OUT, INS, OUTS. Safe. -/
  | portPastEnd
  deriving DecidableEq, Repr

/-- The context before any byte of an instruction is read. -/
def Insn.start : Insn :=
  { opSize := false, adSize := false, seg := none, lock := false, rep := false, repne := false, len := 0,
    useStale := none, oldMode := none, ext := false, system := false, kept := [], keepRF := false }

/-- A descriptor register with the attributes of Table 9-2 (10 R47); accessed and not conforming, which the table does
not say (log 2, 23). -/
def SegReg.real (selector : Half) (base : Word) (dpl : BitVec 2) : SegReg :=
  { selector := selector, base := base, limit := 0xFFFF#32, present := true, dpl := dpl, executable := true,
    readable := true, writeable := true, expandDown := false, conforming := false, big := false,
    granularity := false, accessed := true, usable := true }

/-- No coprocessor, its lines inactive (00 R9, 92 D14; log 16, 17). -/
def Npx.absent : Npx :=
  { kind := .none, busy := false, error := false, insnSel := 0#16, insnOff := 0#32, opcode := 0#11, opSel := 0#16,
    opOff := 0#32 }

/-- The machine right after RESET (10 R121), with nothing listed in memory. The values the spec leaves undefined are
those of log 1 to 4. -/
def State.reset : State :=
  { regs := { eax := 0#32, ecx := 0#32, edx := 0x300#32, ebx := 0#32, esp := 0#32, ebp := 0#32, esi := 0#32,
              edi := 0#32 }
    eip := 0xFFF0#32
    flags := { CF := false, PF := false, AF := false, ZF := false, SF := false, TF := false, IF := false, DF := false,
               OF := false, IOPL := 0#2, NT := false, RF := false, VM := false }
    segs := { es := .real 0#16 0#32 0#2, cs := .real 0xF000#16 0xFFFF0000#32 0#2, ss := .real 0#16 0#32 0#2,
              ds := .real 0#16 0#32 0#2, fs := .real 0#16 0#32 0#2, gs := .real 0#16 0#32 0#2 }
    gdtr := { base := 0#32, limit := 0#16 }
    idtr := { base := 0#32, limit := 0x3FF#16 }
    ldtr := { selector := 0#16, base := 0#32, limit := 0#32, valid := false }
    tr := { selector := 0#16, base := 0#32, limit := 0#32, is386 := true }
    cr0 := { PE := false, MP := false, EM := false, TS := false, ET := false, PG := false, reserved := 0#26 }
    cr2 := 0#32
    cr3 := 0#32
    dr := { dr0 := 0#32, dr1 := 0#32, dr2 := 0#32, dr3 := 0#32, dr6 := 0#32, dr7 := 0#32 }
    tr6 := 0#32
    tr7 := 0#32
    npx := Npx.absent
    nmiPending := false
    nmiBlocked := false
    intr := none
    inhibitInt := false
    inhibitAll := false
    pendingDb := 0#32
    heldDb := 0#32
    heldIntr := []
    resetPin := false
    run := .running
    tlb := []
    staleBytes := []
    staleModes := []
    repeating := none
    lateBytes := []
    mem := []
    physMap := []
    trace := []
    draws := 0
    insn := Insn.start }

end Sys2Proof.Machine
end

