-- ==== Sys2Proof/Machine/Memory.lean ====
section
/-! DEFINITION. Physical memory as a list of (address, byte) pairs in one canonical form: addresses strictly rising and
below 2^32, no listed byte equal to what an unlisted address reads as (spec 20 R130; log 6). -/

namespace Sys2Proof

/-- Bit `i` of a dword (00 R10). -/
def bit (v : Word) (i : Nat) : Bool := v.getLsbD i

end Sys2Proof

namespace Sys2Proof.Machine

/-- What an address that is not listed reads as (log 6). -/
def Memory.unlisted : Byte := 0#8

/-- The byte at physical address `a`. -/
def Memory.read : List Host.Cell → Nat → Byte
  | [], _ => Memory.unlisted
  | (k, v) :: m, a => if k == a then v else Memory.read m a

/-- A memory that reads `b` at `a` and is otherwise the same. -/
def Memory.write : List Host.Cell → Nat → Byte → List Host.Cell
  | [], a, b => if b == Memory.unlisted then [] else [(a, b)]
  | (k, v) :: m, a, b =>
    if a == k then (if b == Memory.unlisted then m else (a, b) :: m)
    else if a < k then (if b == Memory.unlisted then (k, v) :: m else (a, b) :: (k, v) :: m)
    else (k, v) :: Memory.write m a b

/-- Every listed address is at least `lo` and they rise strictly; no listed byte is the unlisted one. -/
def Memory.wfFrom : Nat → List Host.Cell → Bool
  | _, [] => true
  | lo, (k, v) :: m => decide (lo ≤ k) && decide (k < 2 ^ 32) && v != Memory.unlisted && Memory.wfFrom (k + 1) m

/-- The canonical form. -/
def Memory.wf (m : List Host.Cell) : Bool := Memory.wfFrom 0 m

/-- The little-endian value of a byte string, and the `n` bytes of a value (20 R135). -/
def ofBytes : List Byte → Nat
  | [] => 0
  | b :: bs => b.toNat + 256 * ofBytes bs

def toBytes : Nat → Nat → List Byte
  | 0, _ => []
  | n + 1, v => BitVec.ofNat 8 v :: toBytes n (v / 256)

end Sys2Proof.Machine
end

