-- ==== Sys2Proof/Machine/Monad.lean ====
section
/-! DEFINITION. How the parts of an instruction are sequenced: each reads and changes the state or stops the instruction
(an exception, a refusal); and the free values (spec 00 R15, R16). -/

namespace Sys2Proof.Machine

/-- What is pushed with an exception: nothing, a selector-format code (60 R730), or the three defined bits of a page
fault code (60 R754). -/
inductive ErrCode where
  | none
  | sel (code : Half)
  | page (code : BitVec 3)
  deriving DecidableEq, Repr

/-- An exception: its vector, its error code, the address CR2 takes for a page fault, the cause bits DR6 takes for a
debug exception (60 R711, R723). -/
structure Exc where
  vector : Byte
  code : ErrCode
  cr2 : Option Word
  dr6 : Word
  deriving DecidableEq, Repr

/-- Why an instruction does not run to its end: a fault that undoes it (60 R722), an exception after a committed task
switch, which is reported in the state reached (42 R548), shutdown (60 R771), waiting for BUSY# (45 R685), or a
refusal. -/
inductive Stop where
  | exc (e : Exc)
  | excHere (e : Exc)
  | shutdown
  | wait
  | refuse (r : Refusal)
  deriving DecidableEq, Repr

/-- A part of an instruction: it answers a value and a new state, or stops. -/
abbrev M := EStateM Stop State

/-- `undefined(w)` (00 R16): the next free value. -/
def draw (w : Nat) : M (BitVec w) := fun s =>
  .ok (Config.free w s.draws) { s with draws := s.draws + 1 }

/-- The next undefined bit. -/
def State.nextFree (s : State) : Bool := Config.free 1 s.draws == 1#1

/-- One undefined bit. -/
def drawBool : M Bool := fun s => .ok s.nextFree { s with draws := s.draws + 1 }

/-- One of the numbers 0 to `k`, not determined which. -/
def drawUpTo (k : Nat) : M Nat := do
  return (← draw 32).toNat % (k + 1)

def refuse {α : Type} (r : Refusal) : M α := throw (.refuse r)

/-- Vectors (00 R15). -/
def vecDE : Byte := 0#8
def vecDB : Byte := 1#8
def vecNMI : Byte := 2#8
def vecBP : Byte := 3#8
def vecOF : Byte := 4#8
def vecBR : Byte := 5#8
def vecUD : Byte := 6#8
def vecNM : Byte := 7#8
def vecDF : Byte := 8#8
def vecTS : Byte := 10#8
def vecNP : Byte := 11#8
def vecSS : Byte := 12#8
def vecGP : Byte := 13#8
def vecPF : Byte := 14#8
def vecMF : Byte := 16#8

/-- `raise #XX` of an exception without an error code (00 R15). -/
def raise {α : Type} (vector : Byte) : M α :=
  throw (.exc { vector := vector, code := .none, cr2 := none, dr6 := 0#32 })

/-- The EXT bit of an error code (60 R732). -/
def extBit (s : State) : Half := if s.insn.ext then 1#16 else 0#16

/-- `raise #XX(code)`: the EXT bit is added while an event is being delivered (60 R730, R732). -/
def raiseCode {α : Type} (vector : Byte) (code : Half) : M α := do
  throw (.exc { vector := vector, code := .sel (code ||| extBit (← get)), cr2 := none, dr6 := 0#32 })

/-- `raise #XX(sel)`: the selector with its RPL bits cleared (60 R730). -/
def raiseSel {α : Type} (vector : Byte) (sel : Half) : M α := raiseCode vector (sel &&& 0xFFFC#16)

def raiseUD {α : Type} : M α := raise vecUD
def raiseGP0 {α : Type} : M α := raiseCode vecGP 0#16

/-- The same exception, reported in the state reached (42 R548). -/
def excHere {α : Type} (vector : Byte) (code : Half) : M α := do
  throw (.excHere { vector := vector, code := .sel (code ||| extBit (← get)), cr2 := none, dr6 := 0#32 })

/-- `raise #PF` at `la`: present, write and user bits of the code (20 R196, 60 R754). -/
def raisePF {α : Type} (la : Word) (present wr user : Bool) : M α :=
  throw (.exc { vector := vecPF, code := .page (BitVec.ofBool user ++ BitVec.ofBool wr ++ BitVec.ofBool present),
                cr2 := some la, dr6 := 0#32 })

/-- `raise #DB` as a fault, with its cause bits (60 R741 (c), (e)). -/
def raiseDB {α : Type} (causes : Word) : M α :=
  throw (.exc { vector := vecDB, code := .none, cr2 := none, dr6 := causes })

/-- Run `x`; an exception in it is reported in the state reached (42 R548). -/
def inNewTask {α : Type} (x : M α) : M α := fun s =>
  match x s with
  | .ok a t => .ok a t
  | .error (.exc e) t => .error (.excHere e) t
  | .error e t => .error e t

end Sys2Proof.Machine
end

