-- ==== Sys2Proof/Machine/Access.lean ====
section
/-! DEFINITION. From a logical address to bytes: modes and CPL, segment checks, paging with the TLB, the physical map,
debug watch of data accesses (spec 20, 10 R49, R65). -/

namespace Sys2Proof.Machine

/-! ### Modes (60 R781) -/

/-- CR0.PE as the executing instruction sees it (a queued instruction may see the old value, 70 R860). -/
def State.peNow (s : State) : Bool :=
  match s.insn.oldMode with
  | some m => m.PE
  | none => s.cr0.PE

/-- CR0.PG as the executing instruction sees it. -/
def State.pgNow (s : State) : Bool :=
  match s.insn.oldMode with
  | some m => m.PG
  | none => s.cr0.PG

/-- What a queued instruction of an old mode was fetched and addressed through, where PG was clear in it or CR3 has been
loaded since its mode ended (20 R233, 70 R850; log 19). -/
def State.oldPaging (s : State) : Option OldPaging := s.insn.oldMode.bind fun m => m.paging

/-- CR3 as the executing instruction sees it. -/
def State.cr3Now (s : State) : Word :=
  match s.oldPaging with
  | some p => p.cr3
  | none => s.cr3

/-- The TLB as the executing instruction sees it. -/
def State.tlbNow (s : State) : List TlbEntry :=
  match s.oldPaging with
  | some p => p.tlb
  | none => s.tlb

def State.v86 (s : State) : Bool := s.peNow && s.flags.VM

/-- Protected mode outside V86 mode. -/
def State.protMode (s : State) : Bool := s.peNow && !s.flags.VM

/-- The current privilege level (10 R49, 60 R780): 0 in real mode, 3 in V86 mode, else the DPL held with CS. -/
def State.cpl (s : State) : BitVec 2 :=
  if !s.peNow then 0#2 else if s.flags.VM then 3#2 else s.segs.cs.dpl

/-- Page checks are made at user level at CPL 3 only (20 R194), and never while an event is delivered (60 R770). -/
def State.userLevel (s : State) : Bool := s.cpl == 3#2 && !s.insn.system

def Segs.get (g : Segs) : SegNo → SegReg
  | .es => g.es | .cs => g.cs | .ss => g.ss | .ds => g.ds | .fs => g.fs | .gs => g.gs

def Segs.set (g : Segs) (n : SegNo) (r : SegReg) : Segs :=
  match n with
  | .es => { g with es := r } | .cs => { g with cs := r } | .ss => { g with ss := r }
  | .ds => { g with ds := r } | .fs => { g with fs := r } | .gs => { g with gs := r }

def State.seg (s : State) (n : SegNo) : SegReg := s.segs.get n

/-- Offset of the instruction after the executing one, truncated in a 16-bit code segment (10 R34). -/
def State.nextEip (s : State) : Word :=
  let n := s.eip + BitVec.ofNat 32 s.insn.len
  if s.segs.cs.big then n else n &&& 0xFFFF#32

/-! ### Physical memory (20 R220) -/

/-- What answers at physical address `a`; RAM unless a region says otherwise (log 7). -/
def physKind : List PhysRegion → Nat → Option PhysKind
  | [], _ => none
  | r :: rs, a => if r.base ≤ a ∧ a < r.base + r.size then some r.kind else physKind rs a

/-- One byte of a read: a draw where a device or nothing answers (92 D6, D19). -/
def physRead (pa : Word) : M Byte := do
  let s ← get
  match physKind s.physMap pa.toNat with
  | none => pure (Memory.read s.mem pa.toNat)
  | some .rom => pure (Memory.read s.mem pa.toNat)
  | some .device => draw 8
  | some .nothing => draw 8

/-- The prefetch queue may still hold the byte a store replaces (20 R233, 70 R864), at whatever linear address it was
fetched; the fetch compares that one (`staleAt`). -/
def noteStale (pa : Word) (new : Byte) (s : State) : State :=
  let old := Memory.read s.mem pa.toNat
  { s with
    staleBytes :=
      if old == new then s.staleBytes
      else s.staleBytes ++ [{ pa := pa, old := old, next := s.segs.cs.base + s.nextEip }] }

/-- One byte of a write of `n` bytes: dropped by ROM and where nothing answers, recorded where a device answers. -/
def State.stored (s : State) (n : Nat) (pa : Word) (b : Byte) : State :=
  match physKind s.physMap pa.toNat with
  | none => { noteStale pa b s with mem := Memory.write s.mem pa.toNat b }
  | some .rom => s
  | some .device => { s with trace := s.trace ++ [IoEvent.mem pa n b] }
  | some .nothing => s

def physWrite (n : Nat) (pa : Word) (b : Byte) : M Unit := modify fun s => s.stored n pa b

/-- The coprocessor stores the bytes it had still to store, the first `k` of them (70 R865). -/
def storeLate : List LateByte → State → State
  | [], s => s
  | b :: bs, s => storeLate bs (s.stored b.bytes b.pa b.value)

def State.landed (s : State) (k : Nat) : State :=
  storeLate (s.lateBytes.take k) { s with lateBytes := s.lateBytes.drop k }

def physReadList : List Word → M (List Byte)
  | [] => pure []
  | p :: ps => do
    let b ← physRead p
    let bs ← physReadList ps
    pure (b :: bs)

def physWriteList (n : Nat) : List Word → List Byte → M Unit
  | p :: ps, b :: bs => do
    physWrite n p b
    physWriteList n ps bs
  | _, _ => pure ()

/-- Set bits of one byte of a structure the processor keeps; they stay set if the instruction faults (20 R229,
60 R722 (c)). -/
def physSetBits (pa : Word) (bits : Byte) : M Unit := do
  let b ← physRead pa
  if b &&& bits == bits then pure ()
  else
    physWrite 1 pa (b ||| bits)
    modify fun s => { s with insn := { s.insn with kept := s.insn.kept ++ [(pa.toNat, bits)] } }

/-! ### Paging (20 R190 to R198) -/

def physRead32 (pa : Word) : M Word := do
  let bs ← physReadList [pa, pa + 1#32, pa + 2#32, pa + 3#32]
  pure (BitVec.ofNat 32 (ofBytes bs))

/-- What the walk of 20 R193 finds: an entry that is not present, the address of a PTE whose rights deny the access, or
a translation. -/
inductive Walk where
  | absent
  | denied (pteAddr : Word)
  | ok (pdeAddr pteAddr pde pte : Word)
  deriving DecidableEq, Repr

/-- The rights of a page combine its PDE and PTE; supervisor level ignores them (20 R194). -/
def pageDenied (userPage writeable wr user : Bool) : Bool := user && (!userPage || (wr && !writeable))

/-- The walk, without its updates (20 R193). -/
def walk (la : Word) (wr user : Bool) : M Walk := do
  let cr3 := (← get).cr3Now
  let pdeAddr := (cr3 &&& 0xFFFFF000#32) ||| ((la >>> 22) <<< 2)
  let pde ← physRead32 pdeAddr
  if !bit pde 0 then return .absent
  let pteAddr := (pde &&& 0xFFFFF000#32) ||| (((la >>> 12) &&& 0x3FF#32) <<< 2)
  let pte ← physRead32 pteAddr
  if !bit pte 0 then return .absent
  if pageDenied (bit pde 2 && bit pte 2) (bit pde 1 && bit pte 1) wr user then return .denied pteAddr
  return .ok pdeAddr pteAddr pde pte

/-- The TLB entry a successful walk leaves (20 R197). -/
def walkEntry (la pde pte : Word) (wr : Bool) : TlbEntry :=
  { page := la.extractLsb' 12 20, frame := pte.extractLsb' 12 20, user := bit pde 2 && bit pte 2,
    writeable := bit pde 1 && bit pte 1, dirty := wr || bit pte 6 }

/-- Whether using the cached entry could be told from walking (92 D13, D33). -/
def entryMatters (e : TlbEntry) (wr user : Bool) : Walk → Bool
  | .absent => true
  | .denied _ => true
  | .ok _ _ pde pte =>
    !(e.frame == pte.extractLsb' 12 20 && !pageDenied e.user e.writeable wr user && bit pde 5 && bit pte 5)

/-- The cached entries that may serve the access: a write through an entry that is not dirty walks again (20 R195), and
its cached rights are not asked first (log 18). -/
def candidates (tlb : List TlbEntry) (la : Word) (wr user : Bool) (w : Walk) : List TlbEntry :=
  tlb.filter fun e => e.page == la.extractLsb' 12 20 && (!wr || e.dirty) && entryMatters e wr user w

/-- One of the entries or none of them, not determined which (92 D13; log 18). -/
def chooseEntry (es : List TlbEntry) : M (Option TlbEntry) :=
  match es with
  | [] => pure none
  | e :: es => do
    let k ← drawUpTo (es.length + 1)
    pure ((none :: (e :: es).map some)[k]?.getD none)

/-- A write sets Dirty in the PTE also where a cached entry serves it (92 D33). -/
def markDirty (wr : Bool) : Walk → M Unit
  | .absent => pure ()
  | .denied pteAddr => if wr then physSetBits pteAddr 0x40#8 else pure ()
  | .ok _ pteAddr _ _ => if wr then physSetBits pteAddr 0x40#8 else pure ()

/-- An address in page frame `frame` with the page offset of `la`. -/
def inFrame (frame : BitVec 20) (la : Word) : Word := frame ++ la.extractLsb' 0 12

/-- A walk leaves its result in the TLB (20 R197), not where CR3 has been loaded since the mode of a queued
instruction: its address was found before that load emptied the TLB (70 R860; log 19). A queued instruction of a mode
with PG clear makes no walk. -/
def State.cached (s : State) (e : TlbEntry) : State :=
  if s.oldPaging.isSome || s.tlb.contains e then s else { s with tlb := s.tlb ++ [e] }

/-- The physical address of linear address `la` (20 R193, R197). A stale entry that serves an access with PG clear gives
its frame alone: its rights are not asked, and its Dirty is neither asked nor set anywhere, for no page table is in use
(R197 says only that it may serve; DESIGN CHOICE; log 18). -/
def translate (la : Word) (wr user : Bool) : M Word := do
  let s ← get
  if s.pgNow then
    let w ← walk la wr user
    match ← chooseEntry (candidates s.tlbNow la wr user w) with
    | some e =>
      if pageDenied e.user e.writeable wr user then raisePF la true wr user
      markDirty wr w
      return inFrame e.frame la
    | none =>
      match w with
      | .absent => raisePF la false wr user
      | .denied _ => raisePF la true wr user
      | .ok pdeAddr pteAddr pde pte =>
        physSetBits pdeAddr 0x20#8
        physSetBits pteAddr (if wr then 0x60#8 else 0x20#8)
        let e := walkEntry la pde pte wr
        modify fun s => s.cached e
        return inFrame e.frame la
  else
    let stale := s.tlbNow.filter fun e => e.page == la.extractLsb' 12 20 && e.frame != e.page
    match ← chooseEntry stale with
    | some e => return inFrame e.frame la
    | none => return la

/-- `n` consecutive physical addresses. -/
def addrsFrom (pa : Word) : Nat → List Word
  | 0 => []
  | n + 1 => pa :: addrsFrom (pa + 1#32) n

/-- The physical addresses of the `n` bytes at `la`, translated page by page before any is accessed (20 R198,
92 D4); `n` is at most a page. Where both pages would fault, the one of the first byte is reported: the spec leaves the
order of the parts open (93 U61; DESIGN CHOICE; log 52). Where only the second faults, the Accessed bits of the first
page, and for a write its Dirty bit, stay set, though no byte is accessed (20 R195, 92 D33; DESIGN CHOICE; log 52). -/
def physAddrs (la : Word) (n : Nat) (wr user : Bool) : M (List Word) := do
  let room := 4096 - la.toNat % 4096
  let p ← translate la wr user
  if n ≤ room then return addrsFrom p n
  let q ← translate (la + BitVec.ofNat 32 room) wr user
  return addrsFrom p room ++ addrsFrom q (n - room)

/-- A load of CR3 empties the TLB (44 R631, 42 R544). What instructions queued in an older mode were addressed through
is noted with that mode (70 R850, R861; log 19); the executing instruction goes on with the new tables. -/
def State.withCr3 (s : State) (v : Word) : State :=
  { s with
    cr3 := v
    tlb := []
    staleModes := s.staleModes.map fun e => { e with paging := e.paging.or (some { cr3 := s.cr3, tlb := s.tlb }) }
    insn := { s.insn with oldMode := s.insn.oldMode.map fun e => { e with paging := none } } }

/-! ### Linear accesses of the processor itself, at supervisor level (20 R133) -/

def linRead (la : Word) (n : Nat) : M Nat := do
  let pas ← physAddrs la n false false
  return ofBytes (← physReadList pas)

def linWrite (la : Word) (n : Nat) (v : Nat) : M Unit := do
  let pas ← physAddrs la n true false
  physWriteList n pas (toBytes n v)

/-- A locked update that sets bits of one byte (20 R229). -/
def linSetBits (la : Word) (bits : Byte) : M Unit := do
  let b ← linRead la 1
  if BitVec.ofNat 8 b &&& bits == bits then pure ()
  else physSetBits (← translate la true false) bits

/-! ### Segment checks (20 R160 to R166) -/

/-- The limit check (20 R161, R163), without wrap-around. -/
def SegReg.inLimit (r : SegReg) (off : Word) (n : Nat) : Bool :=
  if r.expandDown && !r.executable then
    decide (r.limit.toNat < off.toNat) && decide (off.toNat + n ≤ (if r.big then 2 ^ 32 else 2 ^ 16))
  else decide (off.toNat + n ≤ r.limit.toNat + 1)

/-- Usable, type and limit checks, in that order; all end in the same fault (20 R160). -/
def SegReg.allows (r : SegReg) (off : Word) (n : Nat) (rd wr : Bool) : Bool :=
  r.usable && (!wr || r.writeable) && (!rd || r.readable) && r.inLimit off n

/-- #SS(0) through SS, #GP(0) through the others (20 R166). -/
def raiseSeg {α : Type} (n : SegNo) : M α :=
  if n == .ss then raiseCode vecSS 0#16 else raiseCode vecGP 0#16

/-- The linear address of a checked access through descriptor register `r`, `sg` the segment register it belongs to
(20 R131, R132). -/
def segAddr (sg : SegNo) (r : SegReg) (off : Word) (n : Nat) (rd wr : Bool) : M Word :=
  if r.allows off n rd wr then pure (r.base + off) else raiseSeg sg

/-! ### Data breakpoints (10 R65, 60 R741 (b)) -/

def DebugRegs.addr (d : DebugRegs) : Nat → Word
  | 0 => d.dr0 | 1 => d.dr1 | 2 => d.dr2 | _ => d.dr3

/-- Breakpoint `i` is enabled, locally or globally. -/
def DebugRegs.enabled (d : DebugRegs) (i : Nat) : Bool := bit d.dr7 (2 * i) || bit d.dr7 (2 * i + 1)

def DebugRegs.rw (d : DebugRegs) (i : Nat) : BitVec 2 := d.dr7.extractLsb' (16 + 4 * i) 2

def DebugRegs.len (d : DebugRegs) (i : Nat) : BitVec 2 := d.dr7.extractLsb' (18 + 4 * i) 2

/-- An access of `n` bytes at `a`, which may go on from linear address FFFFFFFFH at 0 (20 R132, R170), meets a
breakpoint on the `m` bytes at `b`, which ends at FFFFFFFFH (log 35). -/
def overlaps (a : Word) (n : Nat) (b : Word) (m : Nat) : Bool :=
  decide (a.toNat < b.toNat + m) && decide (b.toNat < a.toNat + n) || decide (b.toNat + 2 ^ 32 < a.toNat + n)

/-- Whether breakpoint `i` matches a data access: the access meets the bytes from its address on, which need not be a
multiple of its length (log 35). For the undefined R/W and LEN values it is not determined whether an access matches
that meets them, the four from the address on for LEN = 10B (log 14). DR7.LE and DR7.GE have no effect: every data
breakpoint is exact, reported right after the instruction, whatever they hold (DESIGN CHOICE; log 14). -/
def watchOne (i : Nat) (la : Word) (n : Nat) (wr : Bool) : M Bool := do
  let d := (← get).dr
  if !d.enabled i || d.rw i == 0#2 || (d.rw i == 1#2 && !wr) then return false
  let len := match (d.len i).toNat with | 0 => 1 | 1 => 2 | _ => 4
  if !overlaps la n (d.addr i) len then return false
  if d.rw i == 2#2 || d.len i == 2#2 then drawBool else return true

/-- Note the data breakpoints an access matches; the trap follows the instruction. What the delivery of an event pushes
is no instruction's access, but for a software interrupt (60 R741 (b); log 35). -/
def watch (la : Word) (n : Nat) (wr : Bool) : M Unit := do
  let s ← get
  if s.insn.ext || s.dr.dr7 &&& 0xFF#32 == 0#32 then return ()
  let b0 ← watchOne 0 la n wr
  let b1 ← watchOne 1 la n wr
  let b2 ← watchOne 2 la n wr
  let b3 ← watchOne 3 la n wr
  let hit : BitVec 4 := BitVec.ofBool b3 ++ BitVec.ofBool b2 ++ BitVec.ofBool b1 ++ BitVec.ofBool b0
  modify fun s => { s with pendingDb := s.pendingDb ||| hit.zeroExtend 32 }

/-! ### Accesses through a segment register (00 R13) -/

/-- The physical addresses of a checked access through descriptor register `r`. -/
def regAddrs (sg : SegNo) (r : SegReg) (off : Word) (n : Nat) (rd wr : Bool) : M (List Word) := do
  let la ← segAddr sg r off n rd wr
  let pas ← physAddrs la n wr (← get).userLevel
  watch la n wr
  return pas

/-- The physical addresses of a checked data access of an instruction. -/
def memAddrs (sg : SegNo) (off : Word) (n : Nat) (rd wr : Bool) : M (List Word) := do
  regAddrs sg ((← get).seg sg) off n rd wr

/-- `MemRead(sg:off, n)` (00 R13). -/
def memRead (sg : SegNo) (off : Word) (n : Nat) : M Nat := do
  let pas ← memAddrs sg off n true false
  return ofBytes (← physReadList pas)

/-- `MemWrite(sg:off, n, v)` (00 R13). -/
def memWrite (sg : SegNo) (off : Word) (n : Nat) (v : Nat) : M Unit := do
  let pas ← memAddrs sg off n false true
  physWriteList n pas (toBytes n v)

/-! ### Instruction fetch (20 R168, R232, R233) -/

/-- The first queued old value that differs, for a byte fetched at linear address `la` from `pa`. Only bytes within the
depth of the queue have one: an instruction that lies across the depth is old within it and present beyond, a mix where
both parts were stored over (20 R233 gives the depth in bytes alone; DESIGN CHOICE; log 19). -/
def staleAt (es : List StaleByte) (la pa : Word) (now : Byte) : Option Byte :=
  match es with
  | [] => none
  | e :: es =>
    if e.pa == pa && e.old != now && decide ((la - e.next).toNat < Config.prefetchDepth) then some e.old
    else staleAt es la pa now

/-- Whether this instruction's bytes come from the queue in their old form: one choice for the instruction. -/
def takeStale : M Bool := do
  match (← get).insn.useStale with
  | some b => return b
  | none =>
    let b ← drawBool
    modify fun s => { s with insn := { s.insn with useStale := some b } }
    return b

/-- The page frames cached for `la` under the old paging of a queued instruction. -/
def State.queuedFrames (s : State) (la : Word) : List (BitVec 20) :=
  if s.insn.oldMode.isSome && s.pgNow then
    ((s.tlbNow.filter fun e => e.page == la.extractLsb' 12 20).map fun e => e.frame).eraseDups
  else []

/-- The physical address a byte of an instruction is fetched from. A byte queued before paging changed was fetched
through a translation cached then: such a one is used, not determined which, before the tables are walked, which a
store may have changed since (20 R232, R233; log 19). -/
def fetchAddr (la : Word) : M Word := do
  let s ← get
  match s.queuedFrames la with
  | [] => translate la false s.userLevel
  | [f] => return inFrame f la
  | f :: fs =>
    let k ← drawUpTo fs.length
    return inFrame ((f :: fs)[k]?.getD f) la

/-- The byte at offset `off` of the code segment. -/
def fetchByte (off : Nat) : M Byte := do
  let s ← get
  if off > s.segs.cs.limit.toNat then raiseGP0
  let la := s.segs.cs.base + BitVec.ofNat 32 off
  let pa ← fetchAddr la
  let b ← physRead pa
  match staleAt s.staleBytes la pa b with
  | none => return b
  | some old => if ← takeStale then return old else return b

end Sys2Proof.Machine
end

