-- ==== Sys2Proof/Machine/Flags.lean ====
section
/-! DEFINITION. EFLAGS as a word, and every flag computation: arithmetic, logic, shifts, rotates, multiplication,
division, decimal adjust (spec 10 R36, 00 R17, 41 R400 to R441). A flag the spec leaves undefined is a fresh draw. -/

namespace Sys2Proof

/-! ### Values at a width -/

/-- `trunc_w` (00 R10). -/
def Width.trunc (w : Width) (v : Word) : Word :=
  match w with
  | .w8 => v &&& 0xFF#32
  | .w16 => v &&& 0xFFFF#32
  | .w32 => v

/-- The top bit of a `w`-bit value. -/
def Width.msb (w : Width) (v : Word) : Bool := bit v (w.bits - 1)

/-- `signed(v)` at width `w` (00 R10). -/
def Width.signed (w : Width) (v : Word) : Int :=
  if w.msb v then (v.toNat : Int) - (2 ^ w.bits : Nat) else v.toNat

/-- `sext` of a `w`-bit value to 32 bits (00 R10). -/
def Width.sext (w : Width) (v : Word) : Word :=
  match w with
  | .w8 => (v.setWidth 8).signExtend 32
  | .w16 => (v.setWidth 16).signExtend 32
  | .w32 => v

/-- An integer as a `w`-bit value. -/
def Width.ofInt (w : Width) (i : Int) : Word := w.trunc (BitVec.ofInt 32 i)

/-- An integer fits in `w` bits as a signed number. -/
def Width.fits (w : Width) (i : Int) : Bool :=
  decide (-(2 ^ (w.bits - 1) : Nat) ≤ i) && decide (i < (2 ^ (w.bits - 1) : Nat))

end Sys2Proof

namespace Sys2Proof.Machine

/-! ### EFLAGS as a word (10 R36, R42; log 5) -/

def Flags.toWord (f : Flags) : Word :=
  0#14 ++ BitVec.ofBool f.VM ++ BitVec.ofBool f.RF ++ 0#1 ++ BitVec.ofBool f.NT ++ f.IOPL ++ BitVec.ofBool f.OF ++
  BitVec.ofBool f.DF ++ BitVec.ofBool f.IF ++ BitVec.ofBool f.TF ++ BitVec.ofBool f.SF ++ BitVec.ofBool f.ZF ++ 0#1 ++
  BitVec.ofBool f.AF ++ 0#1 ++ BitVec.ofBool f.PF ++ 1#1 ++ BitVec.ofBool f.CF

/-- The flags of an image; its reserved bits are dropped. -/
def Flags.ofWord (v : Word) : Flags :=
  { CF := bit v 0, PF := bit v 2, AF := bit v 4, ZF := bit v 6, SF := bit v 7, TF := bit v 8, IF := bit v 9,
    DF := bit v 10, OF := bit v 11, IOPL := v.extractLsb' 12 2, NT := bit v 14, RF := bit v 16, VM := bit v 17 }

/-- An even number of one bits in the low byte (00 R17). -/
def parity (v : Word) : Bool :=
  !(bit v 0 ^^ bit v 1 ^^ bit v 2 ^^ bit v 3 ^^ bit v 4 ^^ bit v 5 ^^ bit v 6 ^^ bit v 7)

/-- `SetSZP` (00 R17). -/
def Flags.setSZP (f : Flags) (w : Width) (r : Word) : Flags :=
  { f with SF := w.msb r, ZF := r == 0#32, PF := parity r }

def carryIn (c : Bool) : Nat := if c then 1 else 0

/-- `AddFlags` (41 R401): the sum and the flags. -/
def addFlags (w : Width) (a b : Word) (c : Bool) (f : Flags) : Word × Flags :=
  let sum := a.toNat + b.toNat + carryIn c
  let r := w.trunc (BitVec.ofNat 32 sum)
  (r, { f with CF := decide (2 ^ w.bits ≤ sum), AF := bit (a ^^^ b ^^^ r) 4,
               OF := w.msb a == w.msb b && w.msb r != w.msb a }.setSZP w r)

/-- `SubFlags` (41 R401): the difference and the flags. -/
def subFlags (w : Width) (a b : Word) (c : Bool) (f : Flags) : Word × Flags :=
  let r := w.trunc (a - b - BitVec.ofNat 32 (carryIn c))
  (r, { f with CF := decide (a.toNat < b.toNat + carryIn c), AF := bit (a ^^^ b ^^^ r) 4,
               OF := w.msb a != w.msb b && w.msb r != w.msb a }.setSZP w r)

/-- `LogicFlags` (41 R401), `af` its undefined AF. -/
def logicFlags (w : Width) (r : Word) (af : Bool) (f : Flags) : Flags :=
  { f with CF := false, OF := false, AF := af }.setSZP w r

def modifyFlags (g : Flags → Flags) : M Unit := modify fun s => { s with flags := g s.flags }

/-! ### The two-operand operations (41 R402 to R406, R416 to R418, R420) -/

inductive AluOp where
  | add | or | adc | sbb | and | sub | xor | cmp
  deriving DecidableEq, Repr

/-- The result and the flags of an operation on `w`-bit values (R401); `af` is AF of a logical operation. -/
def aluResult (op : AluOp) (w : Width) (a b : Word) (f : Flags) (af : Bool) : Word × Flags :=
  match op with
  | .add => addFlags w a b false f
  | .adc => addFlags w a b f.CF f
  | .sub => subFlags w a b false f
  | .sbb => subFlags w a b f.CF f
  | .cmp => subFlags w a b false f
  | .and => (a &&& b, logicFlags w (a &&& b) af f)
  | .or => (a ||| b, logicFlags w (a ||| b) af f)
  | .xor => (a ^^^ b, logicFlags w (a ^^^ b) af f)

/-- How many values an operation leaves undefined: AF of a logical one (R401). -/
def aluDraws : AluOp → Nat
  | .and | .or | .xor => 1
  | _ => 0

/-- The state with the flags of an operation. -/
def State.aluState (s : State) (op : AluOp) (w : Width) (a b : Word) : State :=
  { s with flags := (aluResult op w a b s.flags s.nextFree).2, draws := s.draws + aluDraws op }

/-- The result of an operation, its flags set. -/
def alu (op : AluOp) (w : Width) (a b : Word) : M Word := do
  let s ← get
  set (s.aluState op w a b)
  return (aluResult op w a b s.flags s.nextFree).1

/-- INC and DEC: as ADD and SUB of 1 with CF kept (41 R407, R408). -/
def incFlags (w : Width) (a : Word) (f : Flags) : Word × Flags :=
  let p := addFlags w a 1#32 false f
  (p.1, { p.2 with CF := f.CF })

def decFlags (w : Width) (a : Word) (f : Flags) : Word × Flags :=
  let p := subFlags w a 1#32 false f
  (p.1, { p.2 with CF := f.CF })

/-! ### Shifts and rotates (41 R421 to R427) -/

inductive ShiftOp where
  | rol | ror | rcl | rcr | shl | shr | sar
  deriving DecidableEq, Repr

/-- Every count is masked to 5 bits (41 R421). -/
def shiftCount (c : Word) : Nat := c.toNat % 32

/-- `v` rotated left `m` places at `n` bits, as a number below `2 ^ n`. -/
def rotLeft (n v m : Nat) : Nat := (v * 2 ^ (m % n) + v / 2 ^ (n - m % n)) % 2 ^ n

/-- CF ++ dest as a number, and back (41 R426). -/
def withCarry (w : Width) (c : Bool) (v : Word) : Nat := carryIn c * 2 ^ w.bits + v.toNat

/-- OF: defined when the count is 1, else a draw (41 R400). -/
def shiftOF (n : Nat) (whenOne : Bool) : M Bool := if n == 1 then pure whenOne else drawBool

/-- CF of SHL and SHR: a draw when the count exceeds the width (41 R421, R422). -/
def shiftCF (w : Width) (n : Nat) (c : Bool) : M Bool := if n ≤ w.bits then pure c else drawBool

/-- The flags of a shift: CF, OF, SZP and an undefined AF. -/
def setShiftFlags (w : Width) (r : Word) (c o : Bool) : M Unit := do
  let af ← drawBool
  modifyFlags fun f => { f with CF := c, OF := o, AF := af }.setSZP w r

def setRotateFlags (c o : Bool) : M Unit := modifyFlags fun f => { f with CF := c, OF := o }

/-- A shift or rotate of a `w`-bit value by a masked count `n` that is not 0; RCL and RCR by a multiple of `w` + 1
change nothing (41 R426; log 47). -/
def shiftBy (op : ShiftOp) (w : Width) (v : Word) (n : Nat) : M Word := do
  let f := (← get).flags
  match op with
  | .shl =>
    let r := w.trunc (BitVec.ofNat 32 (v.toNat * 2 ^ n))
    let c ← shiftCF w n (bit v (w.bits - n))
    let o ← shiftOF n (w.msb r != c)
    setShiftFlags w r c o
    return r
  | .shr =>
    let r := BitVec.ofNat 32 (v.toNat / 2 ^ n)
    let c ← shiftCF w n (bit v (n - 1))
    let o ← shiftOF n (w.msb v)
    setShiftFlags w r c o
    return r
  | .sar =>
    let r := w.ofInt (w.signed v / (2 ^ n : Nat))
    let c := if n ≤ w.bits then bit v (n - 1) else w.msb v
    let o ← shiftOF n false
    setShiftFlags w r c o
    return r
  | .rol =>
    let r := BitVec.ofNat 32 (rotLeft w.bits v.toNat n)
    let c := bit r 0
    let o ← shiftOF n (w.msb r != c)
    setRotateFlags c o
    return r
  | .ror =>
    let r := BitVec.ofNat 32 (rotLeft w.bits v.toNat (w.bits - n % w.bits))
    let c := w.msb r
    let o ← shiftOF n (w.msb r != bit r (w.bits - 2))
    setRotateFlags c o
    return r
  | .rcl =>
    let m := n % (w.bits + 1)
    if m == 0 then return v
    let x := rotLeft (w.bits + 1) (withCarry w f.CF v) m
    let r := w.trunc (BitVec.ofNat 32 x)
    let c := decide (2 ^ w.bits ≤ x)
    let o ← shiftOF n (w.msb r != c)
    setRotateFlags c o
    return r
  | .rcr =>
    let m := n % (w.bits + 1)
    if m == 0 then return v
    let x := rotLeft (w.bits + 1) (withCarry w f.CF v) (w.bits + 1 - m)
    let r := w.trunc (BitVec.ofNat 32 x)
    let c := decide (2 ^ w.bits ≤ x)
    let o ← shiftOF n (w.msb r != bit r (w.bits - 2))
    setRotateFlags c o
    return r

/-- Six undefined status flags (41 R400). -/
def undefinedFlags : M Unit := do
  let o ← drawBool
  let s ← drawBool
  let z ← drawBool
  let a ← drawBool
  let p ← drawBool
  let c ← drawBool
  modifyFlags fun f => { f with OF := o, SF := s, ZF := z, AF := a, PF := p, CF := c }

/-- SHLD and SHRD by a masked count `n` that is not 0 (41 R428, R429): beyond the operand size the destination and all
flags are undefined. -/
def shiftDouble (left : Bool) (w : Width) (d s : Word) (n : Nat) : M Word := do
  if n > w.bits then
    let r ← draw 32
    undefinedFlags
    return w.trunc r
  let r :=
    if left then w.trunc (BitVec.ofNat 32 ((d.toNat * 2 ^ w.bits + s.toNat) * 2 ^ n / 2 ^ w.bits))
    else w.trunc (BitVec.ofNat 32 ((s.toNat * 2 ^ w.bits + d.toNat) / 2 ^ n))
  let c := if left then bit d (w.bits - n) else bit d (n - 1)
  let o ← shiftOF n (w.msb r != w.msb d)
  setShiftFlags w r c o
  return r

/-! ### Multiplication and division (41 R410 to R415) -/

/-- CF = OF, the other four undefined. -/
def mulFlags (c : Bool) : M Unit := do
  let s ← drawBool
  let z ← drawBool
  let a ← drawBool
  let p ← drawBool
  modifyFlags fun f => { f with CF := c, OF := c, SF := s, ZF := z, AF := a, PF := p }

/-! ### Bit tests (41 R430 to R435) -/

/-- CF from the bit, the other five undefined. -/
def bitFlags (c : Bool) : M Unit := do
  let o ← drawBool
  let s ← drawBool
  let z ← drawBool
  let a ← drawBool
  let p ← drawBool
  modifyFlags fun f => { f with CF := c, OF := o, SF := s, ZF := z, AF := a, PF := p }

/-- ZF defined, the other five undefined (BSF and BSR). -/
def scanFlags (z : Bool) : M Unit := do
  let o ← drawBool
  let s ← drawBool
  let a ← drawBool
  let p ← drawBool
  let c ← drawBool
  modifyFlags fun f => { f with ZF := z, OF := o, SF := s, AF := a, PF := p, CF := c }

/-- The index of the lowest one bit at or above `i`, and of the highest one below `k`. -/
def lowestBit (v : Word) : Nat → Nat → Nat
  | 0, i => i
  | k + 1, i => if bit v i then i else lowestBit v k (i + 1)

def highestBit (v : Word) : Nat → Nat
  | 0 => 0
  | k + 1 => if bit v k then k else highestBit v k

/-! ### Decimal adjust (41 R436 to R441; log 42, 43) -/

/-- AL, AF and CF after DAA. -/
def daaResult (al : Word) (af cf : Bool) : Word × Bool × Bool :=
  let low := decide (al.toNat % 16 > 9) || af
  let high := decide (al.toNat > 0x99) || cf
  (BitVec.ofNat 32 ((al.toNat + (if low then 6 else 0) + (if high then 0x60 else 0)) % 256), low, high)

/-- AL, AF and CF after DAS. -/
def dasResult (al : Word) (af cf : Bool) : Word × Bool × Bool :=
  let low := decide (al.toNat % 16 > 9) || af
  let high := decide (al.toNat > 0x99) || cf
  (BitVec.ofNat 32 ((al.toNat + 512 - (if low then 6 else 0) - (if high then 0x60 else 0)) % 256), low,
   high || (low && decide (al.toNat < 6)))

end Sys2Proof.Machine

namespace Sys2Proof

/-- The condition table of Jcc and SETcc (42 R494). -/
def Cond.holds (f : Machine.Flags) : Cond → Bool
  | .o => f.OF
  | .no => !f.OF
  | .b => f.CF
  | .nb => !f.CF
  | .z => f.ZF
  | .nz => !f.ZF
  | .be => f.CF || f.ZF
  | .nbe => !f.CF && !f.ZF
  | .s => f.SF
  | .ns => !f.SF
  | .p => f.PF
  | .np => !f.PF
  | .l => f.SF != f.OF
  | .nl => f.SF == f.OF
  | .le => f.ZF || f.SF != f.OF
  | .nle => !f.ZF && f.SF == f.OF

end Sys2Proof
end

