-- ==== Sys2Proof/WellFormed.lean ====
section
/-! DEFINITION. Which terms of `Instr` some encoding yields under given operand and address sizes (spec 30). -/

namespace Sys2Proof

/-- The operand and address sizes of the executing instruction (30 R262): `true` is 32 bits. -/
structure Sizes where
  op32 : Bool
  ad32 : Bool
  deriving DecidableEq, Repr

/-- The addressing form belongs to the address size, and is not one of the ModRM or SIB patterns that mean another
form (30 R271 to R273). -/
def Mem.wf (z : Sizes) : Mem → Bool
  | .ind16 base disp => !z.ad32 && !(base == .bp && disp == .none)
  | .dir16 _ => !z.ad32
  | .ind32 base disp => z.ad32 && base != .esp && !(base == .ebp && disp == .none)
  | .dir32 _ => z.ad32
  | .sib _ _ base disp => z.ad32 && !(base == .ebp && disp == .none)
  | .sibDisp _ _ _ => z.ad32

def RM.wf (z : Sizes) : RM → Bool
  | .reg _ => true
  | .mem m => m.wf z

/-- The field has the width the size says: `big` is 32 bits (30 R264). -/
def ImmV.wf (big : Bool) : ImmV → Bool
  | .v16 _ => !big
  | .v32 _ => big

/-- The ESC encodings that a row of their own names (45 R690); `ESC` itself is every other one. -/
def escNamed (op ext : BitVec 3) : RM → Bool
  | .mem _ =>
    (op == 0#3 && (ext == 0#3 || ext == 1#3)) ||
    (op == 4#3 && (ext == 0#3 || ext == 1#3)) ||
    (op == 1#3 && (ext == 5#3 || ext == 6#3 || ext == 7#3)) ||
    (op == 5#3 && (ext == 4#3 || ext == 6#3 || ext == 7#3))
  | .reg r =>
    (op == 0#3 && (ext == 0#3 || ext == 1#3)) ||
    (op == 4#3 && (ext == 0#3 || ext == 1#3)) ||
    (op == 3#3 && ext == 4#3 && (r == .edx || r == .ebx || r == .esp)) ||
    (op == 1#3 && ext == 0#3 && r == .eax) ||
    (op == 1#3 && ext == 4#3 && r == .eax) ||
    (op == 1#3 && ext == 5#3 && (r == .eax || r == .esi)) ||
    (op == 1#3 && ext == 7#3 && r == .edx) ||
    (op == 6#3 && ext == 7#3 && r == .ecx) ||
    (op == 6#3 && ext == 3#3 && r == .ecx) ||
    (op == 7#3 && ext == 4#3 && r == .eax)

/-- `i.wf z`: some encoding yields `i` when the sizes are `z`. MOV to CS has no encoding (30 R280). -/
def Instr.wf (z : Sizes) : Instr → Bool
  | .movEbGb rm _ => rm.wf z
  | .movEvGv rm _ => rm.wf z
  | .movGbEb _ rm => rm.wf z
  | .movGvEv _ rm => rm.wf z
  | .movEbIb rm _ => rm.wf z
  | .movEvIv rm imm => rm.wf z && imm.wf z.op32
  | .movR8Ib _ _ => true
  | .movRIv _ imm => imm.wf z.op32
  | .movAlOb off => off.wf z.ad32
  | .movEaxOv off => off.wf z.ad32
  | .movObAl off => off.wf z.ad32
  | .movOvEax off => off.wf z.ad32
  | .movSwEw seg rm => rm.wf z && (seg != .cs)
  | .movEwSw rm _ => rm.wf z
  | .movzxGvEb _ rm => rm.wf z
  | .movzxGvEw _ rm => rm.wf z
  | .movsxGvEb _ rm => rm.wf z
  | .movsxGvEw _ rm => rm.wf z
  | .xchgEbGb rm _ => rm.wf z
  | .xchgEvGv rm _ => rm.wf z
  | .pushR _ => true
  | .pushEv rm => rm.wf z
  | .pushIv imm => imm.wf z.op32
  | .pushIb _ => true
  | .popR _ => true
  | .popEv rm => rm.wf z
  | .leaGvM _ mem => mem.wf z
  | .ldsGvMp _ mem => mem.wf z
  | .lesGvMp _ mem => mem.wf z
  | .lfsGvMp _ mem => mem.wf z
  | .lgsGvMp _ mem => mem.wf z
  | .lssGvMp _ mem => mem.wf z
  | .enterIwIb _ _ => true
  | .setccEb _ rm => rm.wf z
  | .addEbGb rm _ => rm.wf z
  | .addEvGv rm _ => rm.wf z
  | .addGbEb _ rm => rm.wf z
  | .addGvEv _ rm => rm.wf z
  | .addAlIb _ => true
  | .addEaxIv imm => imm.wf z.op32
  | .addEbIb rm _ => rm.wf z
  | .addEvIv rm imm => rm.wf z && imm.wf z.op32
  | .addEvIb rm _ => rm.wf z
  | .adcEbGb rm _ => rm.wf z
  | .adcEvGv rm _ => rm.wf z
  | .adcGbEb _ rm => rm.wf z
  | .adcGvEv _ rm => rm.wf z
  | .adcAlIb _ => true
  | .adcEaxIv imm => imm.wf z.op32
  | .adcEbIb rm _ => rm.wf z
  | .adcEvIv rm imm => rm.wf z && imm.wf z.op32
  | .adcEvIb rm _ => rm.wf z
  | .subEbGb rm _ => rm.wf z
  | .subEvGv rm _ => rm.wf z
  | .subGbEb _ rm => rm.wf z
  | .subGvEv _ rm => rm.wf z
  | .subAlIb _ => true
  | .subEaxIv imm => imm.wf z.op32
  | .subEbIb rm _ => rm.wf z
  | .subEvIv rm imm => rm.wf z && imm.wf z.op32
  | .subEvIb rm _ => rm.wf z
  | .sbbEbGb rm _ => rm.wf z
  | .sbbEvGv rm _ => rm.wf z
  | .sbbGbEb _ rm => rm.wf z
  | .sbbGvEv _ rm => rm.wf z
  | .sbbAlIb _ => true
  | .sbbEaxIv imm => imm.wf z.op32
  | .sbbEbIb rm _ => rm.wf z
  | .sbbEvIv rm imm => rm.wf z && imm.wf z.op32
  | .sbbEvIb rm _ => rm.wf z
  | .cmpEbGb rm _ => rm.wf z
  | .cmpEvGv rm _ => rm.wf z
  | .cmpGbEb _ rm => rm.wf z
  | .cmpGvEv _ rm => rm.wf z
  | .cmpAlIb _ => true
  | .cmpEaxIv imm => imm.wf z.op32
  | .cmpEbIb rm _ => rm.wf z
  | .cmpEvIv rm imm => rm.wf z && imm.wf z.op32
  | .cmpEvIb rm _ => rm.wf z
  | .incEb rm => rm.wf z
  | .incEv rm => rm.wf z
  | .decEb rm => rm.wf z
  | .decEv rm => rm.wf z
  | .notEb rm => rm.wf z
  | .notEv rm => rm.wf z
  | .negEb rm => rm.wf z
  | .negEv rm => rm.wf z
  | .mulEb rm => rm.wf z
  | .mulEv rm => rm.wf z
  | .imulEb rm => rm.wf z
  | .imulEv rm => rm.wf z
  | .divEb rm => rm.wf z
  | .divEv rm => rm.wf z
  | .idivEb rm => rm.wf z
  | .idivEv rm => rm.wf z
  | .imulGvEv _ rm => rm.wf z
  | .imulGvEvIv _ rm imm => rm.wf z && imm.wf z.op32
  | .imulGvEvIb _ rm _ => rm.wf z
  | .andEbGb rm _ => rm.wf z
  | .andEvGv rm _ => rm.wf z
  | .andGbEb _ rm => rm.wf z
  | .andGvEv _ rm => rm.wf z
  | .andAlIb _ => true
  | .andEaxIv imm => imm.wf z.op32
  | .andEbIb rm _ => rm.wf z
  | .andEvIv rm imm => rm.wf z && imm.wf z.op32
  | .andEvIb rm _ => rm.wf z
  | .orEbGb rm _ => rm.wf z
  | .orEvGv rm _ => rm.wf z
  | .orGbEb _ rm => rm.wf z
  | .orGvEv _ rm => rm.wf z
  | .orAlIb _ => true
  | .orEaxIv imm => imm.wf z.op32
  | .orEbIb rm _ => rm.wf z
  | .orEvIv rm imm => rm.wf z && imm.wf z.op32
  | .orEvIb rm _ => rm.wf z
  | .xorEbGb rm _ => rm.wf z
  | .xorEvGv rm _ => rm.wf z
  | .xorGbEb _ rm => rm.wf z
  | .xorGvEv _ rm => rm.wf z
  | .xorAlIb _ => true
  | .xorEaxIv imm => imm.wf z.op32
  | .xorEbIb rm _ => rm.wf z
  | .xorEvIv rm imm => rm.wf z && imm.wf z.op32
  | .xorEvIb rm _ => rm.wf z
  | .testEbGb rm _ => rm.wf z
  | .testEvGv rm _ => rm.wf z
  | .testAlIb _ => true
  | .testEaxIv imm => imm.wf z.op32
  | .testEbIb rm _ => rm.wf z
  | .testEvIv rm imm => rm.wf z && imm.wf z.op32
  | .rolEb1 rm => rm.wf z
  | .rolEv1 rm => rm.wf z
  | .rolEbCl rm => rm.wf z
  | .rolEvCl rm => rm.wf z
  | .rolEbIb rm _ => rm.wf z
  | .rolEvIb rm _ => rm.wf z
  | .rorEb1 rm => rm.wf z
  | .rorEv1 rm => rm.wf z
  | .rorEbCl rm => rm.wf z
  | .rorEvCl rm => rm.wf z
  | .rorEbIb rm _ => rm.wf z
  | .rorEvIb rm _ => rm.wf z
  | .rclEb1 rm => rm.wf z
  | .rclEv1 rm => rm.wf z
  | .rclEbCl rm => rm.wf z
  | .rclEvCl rm => rm.wf z
  | .rclEbIb rm _ => rm.wf z
  | .rclEvIb rm _ => rm.wf z
  | .rcrEb1 rm => rm.wf z
  | .rcrEv1 rm => rm.wf z
  | .rcrEbCl rm => rm.wf z
  | .rcrEvCl rm => rm.wf z
  | .rcrEbIb rm _ => rm.wf z
  | .rcrEvIb rm _ => rm.wf z
  | .shlEb1 rm => rm.wf z
  | .shlEv1 rm => rm.wf z
  | .shlEbCl rm => rm.wf z
  | .shlEvCl rm => rm.wf z
  | .shlEbIb rm _ => rm.wf z
  | .shlEvIb rm _ => rm.wf z
  | .shrEb1 rm => rm.wf z
  | .shrEv1 rm => rm.wf z
  | .shrEbCl rm => rm.wf z
  | .shrEvCl rm => rm.wf z
  | .shrEbIb rm _ => rm.wf z
  | .shrEvIb rm _ => rm.wf z
  | .sarEb1 rm => rm.wf z
  | .sarEv1 rm => rm.wf z
  | .sarEbCl rm => rm.wf z
  | .sarEvCl rm => rm.wf z
  | .sarEbIb rm _ => rm.wf z
  | .sarEvIb rm _ => rm.wf z
  | .shldEvGvIb rm _ _ => rm.wf z
  | .shldEvGvCl rm _ => rm.wf z
  | .shrdEvGvIb rm _ _ => rm.wf z
  | .shrdEvGvCl rm _ => rm.wf z
  | .btEvGv rm _ => rm.wf z
  | .btEvIb rm _ => rm.wf z
  | .btsEvGv rm _ => rm.wf z
  | .btsEvIb rm _ => rm.wf z
  | .btrEvGv rm _ => rm.wf z
  | .btrEvIb rm _ => rm.wf z
  | .btcEvGv rm _ => rm.wf z
  | .btcEvIb rm _ => rm.wf z
  | .bsfGvEv _ rm => rm.wf z
  | .bsrGvEv _ rm => rm.wf z
  | .aamIb _ => true
  | .aadIb _ => true
  | .boundGvMa _ mem => mem.wf z
  | .jmpJb _ => true
  | .jmpJv rel => rel.wf z.op32
  | .jmpEv rm => rm.wf z
  | .jccJb _ _ => true
  | .jccJv _ rel => rel.wf z.op32
  | .jcxzJb _ => true
  | .loopJb _ => true
  | .loopeJb _ => true
  | .loopneJb _ => true
  | .callJv rel => rel.wf z.op32
  | .callEv rm => rm.wf z
  | .retIw _ => true
  | .jmpFarAp off _ => off.wf z.op32
  | .jmpFarMp mem => mem.wf z
  | .callFarAp off _ => off.wf z.op32
  | .callFarMp mem => mem.wf z
  | .retfIw _ => true
  | .intIb _ => true
  | .inAlIb _ => true
  | .inEaxIb _ => true
  | .outIbAl _ => true
  | .outIbEax _ => true
  | .sgdtMs mem => mem.wf z
  | .sidtMs mem => mem.wf z
  | .lgdtMs mem => mem.wf z
  | .lidtMs mem => mem.wf z
  | .smswEw rm => rm.wf z
  | .lmswEw rm => rm.wf z
  | .sldtEw rm => rm.wf z
  | .strEw rm => rm.wf z
  | .lldtEw rm => rm.wf z
  | .ltrEw rm => rm.wf z
  | .verrEw rm => rm.wf z
  | .verwEw rm => rm.wf z
  | .larGvEw _ rm => rm.wf z
  | .lslGvEw _ rm => rm.wf z
  | .movRdCd _ _ => true
  | .movCdRd _ _ => true
  | .movRdDd _ _ => true
  | .movDdRd _ _ => true
  | .movRdTd _ _ => true
  | .movTdRd _ _ => true
  | .arplEwGw rm _ => rm.wf z
  | .esc op ext rm => rm.wf z && !(escNamed op ext rm)
  | .fnstswM mem => mem.wf z
  | .fnstcwM mem => mem.wf z
  | .fsaveM mem => mem.wf z
  | .frstorM mem => mem.wf z
  | .fstenvM mem => mem.wf z
  | .fldcwM mem => mem.wf z
  | .faddM32 mem => mem.wf z
  | .faddM64 mem => mem.wf z
  | .fmulM32 mem => mem.wf z
  | .fmulM64 mem => mem.wf z
  | .xchgEaxEcx => true
  | .xchgEaxEdx => true
  | .xchgEaxEbx => true
  | .xchgEaxEsp => true
  | .xchgEaxEbp => true
  | .xchgEaxEsi => true
  | .xchgEaxEdi => true
  | .pushEs => true
  | .pushCs => true
  | .pushSs => true
  | .pushDs => true
  | .pushFs => true
  | .pushGs => true
  | .popEs => true
  | .popSs => true
  | .popDs => true
  | .popFs => true
  | .popGs => true
  | .pusha => true
  | .popa => true
  | .xlat => true
  | .cbw => true
  | .cwd => true
  | .lahf => true
  | .sahf => true
  | .leave => true
  | .nop => true
  | .incEax => true
  | .incEcx => true
  | .incEdx => true
  | .incEbx => true
  | .incEsp => true
  | .incEbp => true
  | .incEsi => true
  | .incEdi => true
  | .decEax => true
  | .decEcx => true
  | .decEdx => true
  | .decEbx => true
  | .decEsp => true
  | .decEbp => true
  | .decEsi => true
  | .decEdi => true
  | .daa => true
  | .das => true
  | .aaa => true
  | .aas => true
  | .ret => true
  | .retf => true
  | .int3 => true
  | .into => true
  | .iret => true
  | .movsb => true
  | .movsv => true
  | .cmpsb => true
  | .cmpsv => true
  | .stosb => true
  | .stosv => true
  | .lodsb => true
  | .lodsv => true
  | .scasb => true
  | .scasv => true
  | .insb => true
  | .insv => true
  | .outsb => true
  | .outsv => true
  | .repPrefix => true
  | .repnePrefix => true
  | .inAlDx => true
  | .inEaxDx => true
  | .outDxAl => true
  | .outDxEax => true
  | .clc => true
  | .stc => true
  | .cmc => true
  | .cld => true
  | .std => true
  | .cli => true
  | .sti => true
  | .pushf => true
  | .popf => true
  | .clts => true
  | .hlt => true
  | .wait => true
  | .fninit => true
  | .fld1 => true
  | .fldz => true
  | .fdivp => true
  | .fldSt0 => true
  | .fchs => true
  | .fcompp => true
  | .fsetpm => true
  | .fnstswAx => true
  | .fnclex => true
  | .fsqrt => true
  | .opSizePrefix => true
  | .addrSizePrefix => true
  | .lockPrefix => true
  | .esPrefix => true
  | .csPrefix => true
  | .ssPrefix => true
  | .dsPrefix => true
  | .fsPrefix => true
  | .gsPrefix => true
  | .faddStSt0 => true
  | .faddStSt1 => true
  | .faddStSt2 => true
  | .faddStSt3 => true
  | .faddStSt4 => true
  | .faddStSt5 => true
  | .faddStSt6 => true
  | .faddStSt7 => true
  | .faddSt0St => true
  | .faddSt1St => true
  | .faddSt2St => true
  | .faddSt3St => true
  | .faddSt4St => true
  | .faddSt5St => true
  | .faddSt6St => true
  | .faddSt7St => true
  | .fmulStSt0 => true
  | .fmulStSt1 => true
  | .fmulStSt2 => true
  | .fmulStSt3 => true
  | .fmulStSt4 => true
  | .fmulStSt5 => true
  | .fmulStSt6 => true
  | .fmulStSt7 => true
  | .fmulSt0St => true
  | .fmulSt1St => true
  | .fmulSt2St => true
  | .fmulSt3St => true
  | .fmulSt4St => true
  | .fmulSt5St => true
  | .fmulSt6St => true
  | .fmulSt7St => true

end Sys2Proof
end

