-- ==== Sys2Proof/Machine/Operands.lean ====
section
/-! DEFINITION. Operands: general registers at a width, size attributes, effective addresses, the r/m operand, the stack
(spec 00 R11 to R14, 30 R262, R270 to R275, 10 R52). -/

namespace Sys2Proof

/-- The immediate as a dword. -/
def ImmV.toWord : ImmV → Word
  | .v16 v => v.setWidth 32
  | .v32 v => v

/-- The r/m operand names memory: the destinations LOCK allows (20 R226, 30 R258). -/
def RM.isMem : RM → Bool
  | .reg _ => false
  | .mem _ => true

/-- A displacement as a signed dword. -/
def ImmV.signed : ImmV → Word
  | .v16 v => v.signExtend 32
  | .v32 v => v

end Sys2Proof

namespace Sys2Proof.Machine

/-! ### General registers (00 R11, 10 R31) -/

def Regs.get (r : Regs) : RegNo → Word
  | .eax => r.eax | .ecx => r.ecx | .edx => r.edx | .ebx => r.ebx
  | .esp => r.esp | .ebp => r.ebp | .esi => r.esi | .edi => r.edi

def Regs.set (r : Regs) (n : RegNo) (v : Word) : Regs :=
  match n with
  | .eax => { r with eax := v } | .ecx => { r with ecx := v } | .edx => { r with edx := v }
  | .ebx => { r with ebx := v } | .esp => { r with esp := v } | .ebp => { r with ebp := v }
  | .esi => { r with esi := v } | .edi => { r with edi := v }

/-- The 32-bit register a byte register number lies in, and whether it is the high byte (00 R11). -/
def byteHome : RegNo → RegNo × Bool
  | .eax => (.eax, false) | .ecx => (.ecx, false) | .edx => (.edx, false) | .ebx => (.ebx, false)
  | .esp => (.eax, true) | .ebp => (.ecx, true) | .esi => (.edx, true) | .edi => (.ebx, true)

/-- `x[n]` at width `w`, zero-extended (00 R11). -/
def Regs.read (r : Regs) (w : Width) (n : RegNo) : Word :=
  match w with
  | .w8 => let h := byteHome n; if h.2 then (r.get h.1 >>> 8) &&& 0xFF#32 else r.get h.1 &&& 0xFF#32
  | .w16 => r.get n &&& 0xFFFF#32
  | .w32 => r.get n

/-- `x[n] <- v` at width `w`: the other bits stay (00 R11, 10 R31). -/
def Regs.write (r : Regs) (w : Width) (n : RegNo) (v : Word) : Regs :=
  match w with
  | .w8 =>
    let h := byteHome n
    if h.2 then r.set h.1 ((r.get h.1 &&& 0xFFFF00FF#32) ||| ((v &&& 0xFF#32) <<< 8))
    else r.set h.1 ((r.get h.1 &&& 0xFFFFFF00#32) ||| (v &&& 0xFF#32))
  | .w16 => r.set n ((r.get n &&& 0xFFFF0000#32) ||| (v &&& 0xFFFF#32))
  | .w32 => r.set n v

def State.reg (s : State) (w : Width) (n : RegNo) : Word := s.regs.read w n

def State.setReg (s : State) (w : Width) (n : RegNo) (v : Word) : State := { s with regs := s.regs.write w n v }

def getReg (w : Width) (n : RegNo) : M Word := do return (← get).reg w n

def setReg (w : Width) (n : RegNo) (v : Word) : M Unit := modify fun s => s.setReg w n v

/-! ### Size attributes (30 R262) -/

/-- The default operand and address size is 32 bits (30 R260, R262): by the D bit the descriptor register of CS holds,
in real mode too, where it is 0 but for a stale one (70 R851, 93 S17; log 24); never in V86 mode. -/
def State.default32 (s : State) : Bool := s.segs.cs.big && !s.v86

def State.sizes (s : State) : Sizes :=
  { op32 := s.default32 != s.insn.opSize, ad32 := s.default32 != s.insn.adSize }

/-- `opsize` as a width, and `adsize`. -/
def State.opWidth (s : State) : Width := if s.sizes.op32 then .w32 else .w16

def State.adWidth (s : State) : Width := if s.sizes.ad32 then .w32 else .w16

def opWidth : M Width := do return (← get).opWidth

def adWidth : M Width := do return (← get).adWidth

/-! ### Effective addresses (30 R271 to R275) -/

/-- A displacement added to a 16-bit or a 32-bit address. -/
def dispWord : Disp 16 → Word
  | .none => 0#32
  | .d8 d => d.signExtend 32
  | .full d => d.setWidth 32

def dispWord32 : Disp 32 → Word
  | .none => 0#32
  | .d8 d => d.signExtend 32
  | .full d => d

/-- The registers of a 16-bit address (30 R272). -/
def Regs.base16 (r : Regs) : Ea16 → Word
  | .bxSi => r.ebx + r.esi
  | .bxDi => r.ebx + r.edi
  | .bpSi => r.ebp + r.esi
  | .bpDi => r.ebp + r.edi
  | .si => r.esi
  | .di => r.edi
  | .bp => r.ebp
  | .bx => r.ebx

/-- The scaled index; number 4 is no index, its scale ignored (30 R273, R304). -/
def Regs.index (r : Regs) (scale : BitVec 2) : RegNo → Word
  | .esp => 0#32
  | n => r.get n <<< scale.toNat

/-- The offset of a memory operand (30 R271 to R273). -/
def Regs.offset (r : Regs) : Mem → Word
  | .ind16 base d => (r.base16 base + dispWord d) &&& 0xFFFF#32
  | .dir16 off => off.setWidth 32
  | .ind32 base d => r.get base + dispWord32 d
  | .dir32 off => off
  | .sib scale index base d => r.get base + r.index scale index + dispWord32 d
  | .sibDisp scale index off => r.index scale index + off

/-- The segment of a memory operand before an override (10 R51, 30 R271 to R273). -/
def defaultSeg : Mem → SegNo
  | .ind16 .bpSi _ => .ss
  | .ind16 .bpDi _ => .ss
  | .ind16 .bp _ => .ss
  | .ind32 .ebp _ => .ss
  | .sib _ _ .esp _ => .ss
  | .sib _ _ .ebp _ => .ss
  | _ => .ds

/-- The segment after an override (30 R254). -/
def State.overridden (s : State) (n : SegNo) : SegNo := s.insn.seg.getD n

/-- `EA`: segment and offset (30 R275). -/
def State.ea (s : State) (m : Mem) : SegNo × Word := (s.overridden (defaultSeg m), s.regs.offset m)

/-! ### The r/m operand (00 R13) -/

/-- `MemRead` and `MemWrite` of one operand. -/
def memReadW (w : Width) (sg : SegNo) (off : Word) : M Word := do
  return BitVec.ofNat 32 (← memRead sg off w.bytes)

def memWriteW (w : Width) (sg : SegNo) (off : Word) (v : Word) : M Unit := memWrite sg off w.bytes v.toNat

/-- `ReadRM(w)`. -/
def readRM (w : Width) : RM → M Word
  | .reg n => getReg w n
  | .mem m => do
    let a := (← get).ea m
    memReadW w a.1 a.2

/-- `WriteRM(w, v)`. -/
def writeRM (w : Width) (rm : RM) (v : Word) : M Unit :=
  match rm with
  | .reg n => setReg w n v
  | .mem m => do
    let a := (← get).ea m
    memWriteW w a.1 a.2 v

/-- Where the result of a read-modify-write goes: a register, or the bytes the read found (20 R246). -/
inductive Place where
  | reg (n : RegNo)
  | bytes (pas : List Word)
  deriving DecidableEq, Repr

/-- Read memory that will be written back: both permissions are checked now (20 R246). It is an access to be written,
for Dirty and for data breakpoints too, also where in the end nothing is written (log 28). -/
def modifyMem (w : Width) (sg : SegNo) (off : Word) : M (Place × Word) := do
  let pas ← memAddrs sg off w.bytes true true
  let bs ← physReadList pas
  return (.bytes pas, BitVec.ofNat 32 (ofBytes bs))

/-- Read an operand that will be written back (20 R246). -/
def modifyRM (w : Width) : RM → M (Place × Word)
  | .reg n => do return (.reg n, ← getReg w n)
  | .mem m => do
    let a := (← get).ea m
    modifyMem w a.1 a.2

/-- Write back. -/
def putPlace (w : Width) (p : Place) (v : Word) : M Unit :=
  match p with
  | .reg n => setReg w n v
  | .bytes pas => physWriteList w.bytes pas (toBytes w.bytes v.toNat)

/-! ### The stack (00 R14, 10 R52) -/

/-- `stacksize`, by the Big attribute of the stack's descriptor register. -/
def SegReg.stackWidth (r : SegReg) : Width := if r.big then .w32 else .w16

def State.stackWidth (s : State) : Width := s.segs.ss.stackWidth

/-- The stack pointer at `stacksize`. -/
def State.sp (s : State) : Word := s.reg s.stackWidth .esp

def setSP (v : Word) : M Unit := modify fun s => s.setReg s.stackWidth .esp v

/-- A stack offset at `stacksize`. -/
def State.stackOff (s : State) (v : Word) : Word := s.stackWidth.trunc v

/-- `Push(n, v)`: a fault leaves the stack pointer unchanged. -/
def push (n : Nat) (v : Word) : M Unit := do
  let s ← get
  let off := s.stackOff (s.sp - BitVec.ofNat 32 n)
  memWrite .ss off n v.toNat
  setSP off

/-- The item `k` bytes above the top of the stack. -/
def peek (n k : Nat) : M Word := do
  let s ← get
  return BitVec.ofNat 32 (← memRead .ss (s.stackOff (s.sp + BitVec.ofNat 32 k)) n)

/-- All of the `k` bytes from the top of the stack up lie within SS (42 R531): one stretch of offsets, which on a 16-bit
stack does not wrap past FFFFH, though items read one by one do. Whether it may wrap the spec does not say (DESIGN
CHOICE; log 54). -/
def needBlock (k : Nat) : M Unit := do
  let s ← get
  if s.segs.ss.allows s.sp k true false then pure () else raiseCode vecSS 0#16

/-- Where the items of a block of pushes go, each of `n` bytes and `k` of them below the top: checked in push order
before anything is written (40 R347). -/
def blockAddrs (n : Nat) (k : Nat) : Nat → M (List (List Word))
  | 0 => pure []
  | i + 1 => do
    let s ← get
    let pas ← memAddrs .ss (s.stackOff (s.sp - BitVec.ofNat 32 (n * (k - i)))) n false true
    let rest ← blockAddrs n k i
    return pas :: rest

def putItems (n : Nat) : List (List Word) → List Word → M Unit
  | pas :: ps, v :: vs => do
    physWriteList n pas (toBytes n v.toNat)
    putItems n ps vs
  | _, _ => pure ()

/-- Move the stack pointer up by `k` bytes. -/
def dropBytes (k : Nat) : M Unit := do
  let s ← get
  setSP (s.sp + BitVec.ofNat 32 k)

/-- `Pop(n)`. -/
def pop (n : Nat) : M Word := do
  let v ← peek n 0
  dropBytes n
  return v

/-- Push a block of items (40 R347). -/
def pushBlock (n : Nat) (vs : List Word) : M Unit := do
  let pas ← blockAddrs n vs.length vs.length
  putItems n pas vs
  let s ← get
  setSP (s.sp - BitVec.ofNat 32 (n * vs.length))

/-- A far pointer in memory: offset of the operand size, then selector, two accesses (40 R350, 42 R507); the second
offset is a sum modulo 2^32 (log 38). -/
def farPointer (mem : Mem) : M (Word × Half) := do
  let s ← get
  let n := s.opWidth.bytes
  let a := s.ea mem
  let off ← memRead a.1 a.2 n
  let sel ← memRead a.1 (a.2 + BitVec.ofNat 32 n) 2
  return (BitVec.ofNat 32 off, BitVec.ofNat 16 sel)

/-- A selector in an `n`-byte slot: the upper half of a dword is undefined (93 U27). -/
def selectorSlot (n : Nat) (sel : Half) : M Word :=
  if n == 4 then do
    let hi ← draw 16
    return hi ++ sel
  else pure (sel.setWidth 32)

def pushSel (n : Nat) (sel : Half) : M Unit := do
  push n (← selectorSlot n sel)

end Sys2Proof.Machine
end

