-- ==== Sys2Proof/Machine/Descriptor.lean ====
section
/-! DEFINITION. Selectors, descriptors, gates, and the loading of segment registers in every mode (spec 20 R140 to R159,
10 R45, R47). -/

namespace Sys2Proof.Machine

/-! ### Selectors (20 R140) -/

def selNull (s : Half) : Bool := s &&& 0xFFFC#16 == 0#16

def selRpl (s : Half) : BitVec 2 := s.extractLsb' 0 2

def selLocal (s : Half) : Bool := s.getLsbD 2

/-- Eight times the index. -/
def selOffset (s : Half) : Nat := (s.toNat / 8) * 8

/-- The selector with its RPL bits replaced. -/
def selWithRpl (s : Half) (rpl : BitVec 2) : Half := (s &&& 0xFFFC#16) ||| rpl.setWidth 16

/-! ### Descriptors (20 R142 to R146) -/

/-- The two dwords of a descriptor or gate. -/
structure Desc where
  lo : Word
  hi : Word
  deriving DecidableEq, Repr

def Desc.present (d : Desc) : Bool := bit d.hi 15
def Desc.dpl (d : Desc) : BitVec 2 := d.hi.extractLsb' 13 2
/-- Access byte bit 4: a code or data segment. -/
def Desc.isSegment (d : Desc) : Bool := bit d.hi 12
def Desc.isCode (d : Desc) : Bool := d.isSegment && bit d.hi 11
def Desc.isData (d : Desc) : Bool := d.isSegment && !bit d.hi 11
def Desc.conforming (d : Desc) : Bool := d.isCode && bit d.hi 10
def Desc.readable (d : Desc) : Bool := d.isData || (d.isCode && bit d.hi 9)
def Desc.writeable (d : Desc) : Bool := d.isData && bit d.hi 9
def Desc.granular (d : Desc) : Bool := bit d.hi 23
/-- The type of a system descriptor (20 R145); 0 (invalid) for a segment. -/
def Desc.sysType (d : Desc) : Nat := if d.isSegment then 0 else (d.hi.extractLsb' 8 4).toNat
def Desc.base (d : Desc) : Word := d.hi.extractLsb' 24 8 ++ d.hi.extractLsb' 0 8 ++ d.lo.extractLsb' 16 16
def Desc.limitField (d : Desc) : Word := 0#12 ++ d.hi.extractLsb' 16 4 ++ d.lo.extractLsb' 0 16
/-- The offset of the last byte (20 R152). -/
def Desc.limit (d : Desc) : Word := if d.granular then (d.limitField <<< 12) ||| 0xFFF#32 else d.limitField

/-- The fields of a gate (20 R146); the offset of an 80286 gate has 16 bits. -/
def Desc.gateSel (d : Desc) : Half := d.lo.extractLsb' 16 16
def Desc.gateCount (d : Desc) : Nat := (d.hi.extractLsb' 0 5).toNat
def Desc.gate386 (d : Desc) : Bool := bit d.hi 11
def Desc.gateOff (d : Desc) : Word :=
  if d.gate386 then d.hi.extractLsb' 16 16 ++ d.lo.extractLsb' 0 16 else 0#16 ++ d.lo.extractLsb' 0 16

/-- Types 1 and 9 (20 R145). -/
def Desc.availableTss (d : Desc) : Bool := d.sysType == 1 || d.sysType == 9

/-- The descriptor register a segment descriptor gives, at privilege `dpl` (10 R44, R49). -/
def Desc.toReg (d : Desc) (sel : Half) (dpl : BitVec 2) : SegReg :=
  { selector := sel, base := d.base, limit := d.limit, present := d.present, dpl := dpl, executable := d.isCode,
    readable := d.readable, writeable := d.writeable, expandDown := d.isData && bit d.hi 10,
    conforming := d.conforming, big := bit d.hi 22, granularity := d.granular, accessed := true, usable := true }

/-- The linear address of the descriptor a selector names, if it lies in its table (20 R141, R155). -/
def State.descAddr (s : State) (sel : Half) : Option Word :=
  if selLocal sel then
    if s.ldtr.valid && decide (selOffset sel + 7 ≤ s.ldtr.limit.toNat)
    then some (s.ldtr.base + BitVec.ofNat 32 (selOffset sel)) else none
  else
    if selOffset sel + 7 ≤ s.gdtr.limit.toNat
    then some (s.gdtr.base + BitVec.ofNat 32 (selOffset sel)) else none

/-- The eight bytes at a linear address. -/
def readDesc (la : Word) : M Desc := do
  let v ← linRead la 8
  return { lo := BitVec.ofNat 32 v, hi := BitVec.ofNat 32 (v / 2 ^ 32) }

/-- The descriptor of `sel` and its address; a selector outside its table raises `vector(sel)` (20 R141, R155). -/
def fetchDesc (vector : Byte) (sel : Half) : M (Word × Desc) := do
  match (← get).descAddr sel with
  | none => raiseSel vector sel
  | some la => return (la, ← readDesc la)

/-- Set the Accessed bit of a descriptor in memory (20 R229). -/
def markAccessed (la : Word) (d : Desc) : M Unit :=
  if bit d.hi 8 then pure () else linSetBits (la + 5#32) 1#8

def putSeg (n : SegNo) (r : SegReg) : M Unit := modify fun s => { s with segs := s.segs.set n r }

/-! ### Loading a segment register -/

/-- The base a selector gives in real and V86 mode (10 R45). -/
def realBase (sel : Half) : Word := sel.setWidth 32 <<< 4

/-- A load in real mode changes selector and base (10 R45, R48); in V86 mode the attributes are those of Table 9-2
(10 R47). -/
def loadSegReal (n : SegNo) (sel : Half) : M Unit := do
  let s ← get
  if s.v86 then putSeg n (.real sel (realBase sel) 3#2)
  else putSeg n { s.seg n with selector := sel, base := realBase sel, usable := true }

/-- A null selector makes the register unusable (20 R156, R165). -/
def loadNull (n : SegNo) (sel : Half) : M Unit := do
  putSeg n { (← get).seg n with selector := sel, usable := false }

/-- DS, ES, FS, GS in protected mode (20 R156); a failed check raises `bad(sel)`. -/
def loadDataSeg (bad : Byte) (n : SegNo) (sel : Half) : M Unit := do
  if selNull sel then loadNull n sel
  else
    let (la, d) ← fetchDesc bad sel
    if !d.readable then raiseSel bad sel
    if !d.conforming && (decide (d.dpl < selRpl sel) || decide (d.dpl < (← get).cpl)) then raiseSel bad sel
    if !d.present then raiseSel vecNP sel
    markAccessed la d
    putSeg n (d.toReg sel d.dpl)

/-- The checks on a stack segment for privilege level `level` (20 R157, 42 R527, R531). -/
def stackDesc (bad : Byte) (sel : Half) (level : BitVec 2) : M (Word × Desc) := do
  let (la, d) ← fetchDesc bad sel
  if selRpl sel != level || !d.writeable || d.dpl != level then raiseSel bad sel
  if !d.present then raiseSel vecSS sel
  return (la, d)

/-- Load SS from a checked descriptor. -/
def putStackSeg (sel : Half) (la : Word) (d : Desc) : M Unit := do
  markAccessed la d
  putSeg .ss (d.toReg sel d.dpl)

/-- SS in protected mode (20 R157). -/
def loadStackSeg (sel : Half) : M Unit := do
  if selNull sel then raiseGP0
  let (la, d) ← stackDesc vecGP sel (← get).cpl
  putStackSeg sel la d

/-- Load a segment register other than CS, as the mode says (10 R45, R46). -/
def loadSeg (n : SegNo) (sel : Half) : M Unit := do
  if (← get).protMode then
    if n == .ss then loadStackSeg sel else loadDataSeg vecGP n sel
  else loadSegReal n sel

/-- No interrupt and no debug trap until the next instruction has executed: MOV SS and POP SS (10 R72; log 27). -/
def inhibitAfterSS (n : SegNo) : M Unit :=
  if n == .ss then modify fun s => { s with inhibitAll := true } else pure ()

end Sys2Proof.Machine
end

