-- ==== Sys2Proof/Machine/Transfer.lean ====
section
/-! DEFINITION. Transfers of control without a task switch: near targets, code segments, call gates, inner and outer
stacks, far returns (spec 42 R490, R491, R520 to R532). -/

namespace Sys2Proof.Machine

/-! ### EIP and the prefetch queue -/

/-- A taken transfer empties the prefetch queue (20 R234). -/
def State.flushed (s : State) : State := { s with staleBytes := [], staleModes := [], repeating := none }

def State.jumped (s : State) (t : Word) : State := { s with eip := t }.flushed

def flushQueue : M Unit := modify State.flushed

/-- Continue at offset `t`. -/
def jumpTo (t : Word) : M Unit := modify fun s => s.jumped t

/-- #GP(0) unless `t` lies within the code limit (42 R491). -/
def checkEip (limit t : Word) : M Unit := if limit < t then raiseGP0 else pure ()

/-- A near target truncated by `opsize` and checked (42 R491). -/
def nearTarget (t : Word) : M Word := do
  let s ← get
  let t := s.opWidth.trunc t
  checkEip s.segs.cs.limit t
  return t

/-- `SetEIP` (42 R491). -/
def setEip (t : Word) : M Unit := do
  let t ← nearTarget t
  jumpTo t

/-- The offset a displacement names, from the next instruction (42 R495). -/
def State.relTarget (s : State) (d : Word) : Word := s.nextEip + d

def State.advanced (s : State) : State := { s with eip := s.nextEip }

/-- Continue with the next instruction. -/
def advance : M Unit := modify State.advanced

/-- `SetEIP(next + sext(rel))` when `c` holds, else the next instruction (42 R495, R497). -/
def branch (c : Bool) (d : Word) : M Unit := do
  if c then setEip ((← get).relTarget d) else advance

/-! ### CS -/

/-- A far transfer in real or V86 mode (42 R520; log 23). -/
def farReal (sel : Half) (off : Word) : M Unit := do
  let s ← get
  checkEip 0xFFFF#32 off
  putSeg .cs (.real sel (realBase sel) (if s.v86 then 3#2 else 0#2))
  jumpTo off

/-- Load CS from its descriptor; the RPL bits of the selector become the CPL (42 R522). -/
def loadCS (sel : Half) (la : Word) (d : Desc) (cpl : BitVec 2) : M Unit := do
  markAccessed la d
  putSeg .cs (d.toReg (selWithRpl sel cpl) cpl)

def setCpl (cpl : BitVec 2) : M Unit :=
  modify fun s => { s with segs := { s.segs with cs := { s.segs.cs with dpl := cpl } } }

/-! ### Stacks -/

/-- The stack in segment `r` has room for `k` items of `g` bytes below `sp`. -/
def SegReg.room (r : SegReg) (sp : Word) (g : Nat) : Nat → Bool
  | 0 => true
  | k + 1 => r.allows (r.stackWidth.trunc (sp - BitVec.ofNat 32 (g * (k + 1)))) g false true && r.room sp g k

/-- The present stack has that room. -/
def State.room (s : State) (g k : Nat) : Bool := s.segs.ss.room s.sp g k

/-- #SS(0) without that room (42 R523). -/
def needRoom (g k : Nat) : M Unit := do
  if (← get).room g k then pure () else raiseCode vecSS 0#16

/-- The stack pointer an inner or outer stack starts with, given as `n` bytes: the upper half of ESP is undefined when
a word is loaded for a Big stack (42 R531; log 37). -/
def stackTop (big : Bool) (n : Nat) (v : Word) : M Word :=
  if big && n == 2 then do
    let hi ← draw 16
    return hi ++ v.setWidth 16
  else pure v

def loadSP (n : Nat) (v : Word) : M Unit := do
  setSP (← stackTop (← get).segs.ss.big n v)

/-- The stack of an inner level, checked and not yet loaded: its selector, the descriptor and where that lies, and its
stack pointer, a dword (`wide`) or a word in the TSS. -/
structure InnerStack where
  sel : Half
  la : Word
  desc : Desc
  esp : Word
  wide : Bool
  deriving DecidableEq, Repr

/-- The stack for level `level` in the current TSS, and its checks, the last of which is that it has room for `k` items
of `g` bytes: SS is loaded after them (42 R527, 20 R240, R241). -/
def innerStack (level : BitVec 2) (g k : Nat) : M InnerStack := do
  let tr := (← get).tr
  let n := if tr.is386 then 4 else 2
  let o := n + 2 * n * level.toNat
  if tr.limit.toNat < o + n + 1 then raiseSel vecTS tr.selector
  let sp ← linRead (tr.base + BitVec.ofNat 32 o) n
  let ss := BitVec.ofNat 16 (← linRead (tr.base + BitVec.ofNat 32 (o + n)) 2)
  if selNull ss then raiseCode vecTS 0#16
  let (la, d) ← stackDesc vecTS ss level
  let r := d.toReg ss d.dpl
  let esp ← stackTop r.big n (BitVec.ofNat 32 sp)
  if !r.room esp g k then raiseCode vecSS 0#16
  return { sel := ss, la := la, desc := d, esp := esp, wide := tr.is386 }

/-- Load SS and (E)SP; CPL becomes `level` (42 R527). -/
def enterLevel (level : BitVec 2) (t : InnerStack) : M Unit := do
  putStackSeg t.sel t.la t.desc
  setCpl level
  setSP t.esp

/-- The segment registers a return to `level` may keep (42 R532). -/
def SegReg.afterReturn (r : SegReg) (level : BitVec 2) : SegReg :=
  if r.usable && !(r.executable && r.conforming) && decide (r.dpl < level)
  then { r with selector := 0#16, usable := false } else r

def dropOuterSegs (level : BitVec 2) : M Unit :=
  modify fun s => { s with segs := { s.segs with
    ds := s.segs.ds.afterReturn level, es := s.segs.es.afterReturn level,
    fs := s.segs.fs.afterReturn level, gs := s.segs.gs.afterReturn level } }

/-! ### Jumps and calls to a code segment (42 R522, R523) -/

/-- The privilege rule for a direct transfer. -/
def Desc.reachable (d : Desc) (sel : Half) (cpl : BitVec 2) : Bool :=
  d.isCode && (if d.conforming then decide (d.dpl ≤ cpl) else decide (selRpl sel ≤ cpl) && d.dpl == cpl)

/-- Push CS and the return offset, `g` bytes each. -/
def pushReturn (g : Nat) (cs : Half) (next : Word) : M Unit := do
  pushSel g cs
  push g next

def farToCode (call : Bool) (sel : Half) (off : Word) (la : Word) (d : Desc) : M Unit := do
  let s ← get
  if !d.reachable sel s.cpl then raiseSel vecGP sel
  if !d.present then raiseSel vecNP sel
  checkEip d.limit off
  if call then
    needRoom s.opWidth.bytes 2
    pushReturn s.opWidth.bytes s.segs.cs.selector s.nextEip
  loadCS sel la d s.cpl
  jumpTo off

/-! ### Call gates (42 R524 to R527) -/

/-- Copy `c` parameters of `g` bytes from the old stack. -/
def copyParams (g : Nat) (oldSS : SegReg) (oldSP : Word) : Nat → M Unit
  | 0 => pure ()
  | i + 1 => do
    let pas ← regAddrs .ss oldSS (oldSS.stackWidth.trunc (oldSP + BitVec.ofNat 32 (g * i))) g true false
    push g (BitVec.ofNat 32 (ofBytes (← physReadList pas)))
    copyParams g oldSS oldSP i

/-- A call to a more privileged code segment: the room on the new stack and the offset are checked before SS is loaded
(42 R527). -/
def callInner (g count : Nat) (tsel : Half) (toff : Word) (la : Word) (d : Desc) : M Unit := do
  let s ← get
  let stack ← innerStack d.dpl g (4 + count)
  checkEip d.limit toff
  enterLevel d.dpl stack
  pushSel g s.segs.ss.selector
  push g s.regs.esp
  copyParams g s.segs.ss s.regs.esp count
  pushReturn g s.segs.cs.selector s.nextEip
  loadCS tsel la d d.dpl
  jumpTo toff

/-- A transfer through a call gate: the gate's size replaces `opsize` (42 R524 to R526). -/
def farThroughGate (call : Bool) (sel : Half) (gate : Desc) : M Unit := do
  let s ← get
  if decide (gate.dpl < s.cpl) || decide (gate.dpl < selRpl sel) then raiseSel vecGP sel
  if !gate.present then raiseSel vecNP sel
  let tsel := gate.gateSel
  let toff := gate.gateOff
  let g := if gate.gate386 then 4 else 2
  if selNull tsel then raiseGP0
  let (la, d) ← fetchDesc vecGP tsel
  if !d.isCode || decide (s.cpl < d.dpl) then raiseSel vecGP tsel
  if !d.present then raiseSel vecNP tsel
  if d.conforming || d.dpl == s.cpl then
    if call then
      needRoom g 2
      checkEip d.limit toff
      pushReturn g s.segs.cs.selector s.nextEip
    else checkEip d.limit toff
    loadCS tsel la d s.cpl
    jumpTo toff
  else if call then callInner g gate.gateCount tsel toff la d
  else raiseSel vecGP tsel

/-! ### Far returns (42 R530, R531) -/

/-- The checks on a popped CS selector (42 R530). -/
def returnDesc (sel : Half) : M (Word × Desc) := do
  let cpl := (← get).cpl
  if selNull sel then raiseGP0
  if selRpl sel < cpl then raiseSel vecGP sel
  let (la, d) ← fetchDesc vecGP sel
  if !d.isCode || (if d.conforming then decide (selRpl sel < d.dpl) else d.dpl != selRpl sel) then raiseSel vecGP sel
  if !d.present then raiseSel vecNP sel
  return (la, d)

/-- The part of a return to an outer level that follows the pop of CS and EIP: SS:(E)SP lie `k` bytes above the top,
`imm` bytes are dropped from the outer stack (42 R531; that the frame does not wrap past FFFFH: log 54). -/
def returnOuter (n k imm : Nat) (cs : Half) (ip : Word) (la : Word) (d : Desc) : M Unit := do
  needBlock (k + 2 * n)
  let sp ← peek n k
  let ss := (← peek n (k + n)).setWidth 16
  let level := selRpl cs
  if selNull ss then raiseGP0
  let (sla, sd) ← stackDesc vecGP ss level
  checkEip d.limit ip
  loadCS cs la d level
  putStackSeg ss sla sd
  loadSP n sp
  dropBytes imm
  dropOuterSegs level
  jumpTo ip

/-- Far RET in protected mode (42 R530). -/
def returnFar (imm : Nat) : M Unit := do
  let s ← get
  let n := s.opWidth.bytes
  let ip ← peek n 0
  let cs := (← peek n n).setWidth 16
  let (la, d) ← returnDesc cs
  if selRpl cs == s.cpl then
    checkEip d.limit ip
    loadCS cs la d s.cpl
    dropBytes (2 * n + imm)
    jumpTo ip
  else returnOuter n (2 * n + imm) imm cs ip la d

/-- Far RET in real and V86 mode (42 R510). -/
def returnFarReal (imm : Nat) : M Unit := do
  let n := (← get).opWidth.bytes
  let ip ← peek n 0
  let cs ← peek n n
  farReal (cs.setWidth 16) ip
  dropBytes (2 * n + imm)

end Sys2Proof.Machine
end

