-- ==== Sys2Proof/Machine/Task.lean ====
section
/-! DEFINITION. The task state segment and the task switch (spec 42 R528, R529, R540 to R547, 20 R240, R241; log 33). -/

namespace Sys2Proof.Machine

/-- What causes a task switch (42 R543): a JMP, a nesting transfer (CALL, interrupt, exception), or IRET. -/
inductive SwitchKind where
  | jump
  | nest
  | back
  deriving DecidableEq, Repr

/-! ### Saving (42 R542) -/

def dwords : List Word → List Byte
  | [] => []
  | v :: vs => toBytes 4 v.toNat ++ dwords vs

def halves : List Word → List Byte
  | [] => []
  | v :: vs => toBytes 2 v.toNat ++ halves vs

def linWriteBytes (la : Word) (n : Nat) (bs : List Byte) : M Unit := do
  let pas ← physAddrs la bs.length true false
  physWriteList n pas bs

/-- The general registers and the segment selectors in TSS order. -/
def State.tssRegs (s : State) : List Word :=
  [s.regs.eax, s.regs.ecx, s.regs.edx, s.regs.ebx, s.regs.esp, s.regs.ebp, s.regs.esi, s.regs.edi]

def State.tssSegs (s : State) : List Word :=
  [s.segs.es, s.segs.cs, s.segs.ss, s.segs.ds].map fun r => r.selector.setWidth 32

/-- Write the old task's state into its TSS; selector slots are zero-extended (93 S7). -/
def saveTask (image : Flags) (eip : Word) : M Unit := do
  let s ← get
  if s.tr.is386 then
    linWriteBytes (s.tr.base + 0x20#32) 4
      (dwords ([eip, image.toWord] ++ s.tssRegs ++ s.tssSegs ++
        [s.segs.fs.selector.setWidth 32, s.segs.gs.selector.setWidth 32]))
  else
    linWriteBytes (s.tr.base + 0xE#32) 2 (halves ([eip, image.toWord] ++ s.tssRegs ++ s.tssSegs))

/-! ### The new state (42 R544, R547) -/

/-- What a TSS holds for the task it starts. -/
structure TaskImage where
  eip : Word
  flags : Flags
  regs : Regs
  es : Half
  cs : Half
  ss : Half
  ds : Half
  fs : Half
  gs : Half
  ldt : Half
  cr3 : Option Word
  trap : Bool
  deriving DecidableEq, Repr

/-- The field of `w` bits at byte `k` of a block read as one number. -/
def field (w : Nat) (v k : Nat) : BitVec w := BitVec.ofNat w (v / 2 ^ (8 * k))

/-- A word loaded into a dword register: its upper half is undefined (42 R547). -/
def wideHalf (v : Half) : M Word := do return (← draw 16) ++ v

def readTask (base : Word) (is386 : Bool) : M TaskImage := do
  if is386 then
    let v ← linRead (base + 0x1C#32) 74
    let d (k : Nat) : Word := field 32 v (k - 0x1C)
    let h (k : Nat) : Half := field 16 v (k - 0x1C)
    return { eip := d 0x20, flags := Flags.ofWord (d 0x24),
             regs := { eax := d 0x28, ecx := d 0x2C, edx := d 0x30, ebx := d 0x34, esp := d 0x38, ebp := d 0x3C,
                       esi := d 0x40, edi := d 0x44 },
             es := h 0x48, cs := h 0x4C, ss := h 0x50, ds := h 0x54, fs := h 0x58, gs := h 0x5C, ldt := h 0x60,
             cr3 := some (d 0x1C &&& 0xFFFFF000#32), trap := (h 0x64).getLsbD 0 }
  else
    let v ← linRead (base + 0xE#32) 30
    let h (k : Nat) : Half := field 16 v (k - 0xE)
    let eax ← wideHalf (h 0x12)
    let ecx ← wideHalf (h 0x14)
    let edx ← wideHalf (h 0x16)
    let ebx ← wideHalf (h 0x18)
    let esp ← wideHalf (h 0x1A)
    let ebp ← wideHalf (h 0x1C)
    let esi ← wideHalf (h 0x1E)
    let edi ← wideHalf (h 0x20)
    return { eip := (h 0xE).setWidth 32, flags := Flags.ofWord ((h 0x10).setWidth 32),
             regs := { eax := eax, ecx := ecx, edx := edx, ebx := ebx, esp := esp, ebp := ebp, esi := esi, edi := edi },
             es := h 0x22, cs := h 0x24, ss := h 0x26, ds := h 0x28, fs := 0#16, gs := 0#16, ldt := h 0x2A,
             cr3 := none, trap := false }

/-- A segment register before its selector has been checked (42 R548). -/
def SegReg.unchecked (r : SegReg) (sel : Half) : SegReg := { r with selector := sel, usable := false }

/-- CR3 from the new TSS, where its kind has one (42 R544, R547). -/
def State.repaged (s : State) : Option Word → State
  | some v => s.withCr3 v
  | none => s

/-- The state of the committed switch, before R545's checks (42 R543, R544, 60 R814). -/
def State.switched (s : State) (nest : Bool) (tr : TaskReg) (t : TaskImage) : State :=
  { s.repaged t.cr3 with
    tr := tr
    cr0 := { s.cr0 with TS := true }
    ldtr := { s.ldtr with selector := t.ldt, valid := false }
    eip := t.eip
    flags := { t.flags with NT := nest || t.flags.NT }
    regs := t.regs
    segs := { es := s.segs.es.unchecked t.es, cs := s.segs.cs.unchecked t.cs,
              ss := s.segs.ss.unchecked t.ss, ds := s.segs.ds.unchecked t.ds, fs := s.segs.fs.unchecked t.fs,
              gs := s.segs.gs.unchecked t.gs }
    dr := { s.dr with dr7 := s.dr.dr7 &&& 0xFFFFFFAA#32 }
    insn := { (s.repaged t.cr3).insn with keepRF := true } }

/-! ### Validation (42 R545) -/

def checkLdt (sel : Half) : M Unit := do
  if selNull sel then return ()
  if selLocal sel then raiseSel vecTS sel
  let (_, d) ← fetchDesc vecTS sel
  if d.sysType != 2 || !d.present then raiseSel vecTS sel
  modify fun s => { s with ldtr := { selector := sel, base := d.base, limit := d.limit, valid := true } }

/-- Load all six segment registers in V86 fashion (10 R45). -/
def loadAllV86 (es cs ss ds fs gs : Half) : M Unit :=
  let r (x : Half) : SegReg := .real x (realBase x) 3#2
  modify fun s => { s with segs := { es := r es, cs := r cs, ss := r ss, ds := r ds, fs := r fs, gs := r gs } }

def checkTaskCS (sel : Half) : M Unit := do
  if selNull sel then raiseSel vecTS sel
  let (la, d) ← fetchDesc vecTS sel
  if !d.reachable sel (selRpl sel) then raiseSel vecTS sel
  if !d.present then raiseSel vecNP sel
  loadCS sel la d (selRpl sel)

def checkTaskSS (sel : Half) : M Unit := do
  if selNull sel then raiseSel vecTS sel
  let (la, d) ← stackDesc vecTS sel (← get).cpl
  putStackSeg sel la d

/-- The checks in the order of 42 R545: the CPL is the old task's until the LDT selector has been checked. -/
def validateTask (t : TaskImage) : M Unit := do
  checkLdt t.ldt
  if t.flags.VM then loadAllV86 t.es t.cs t.ss t.ds t.fs t.gs
  else
    setCpl (selRpl t.cs)
    checkTaskCS t.cs
    checkTaskSS t.ss
    loadDataSeg vecTS .ds t.ds
    loadDataSeg vecTS .es t.es
    loadDataSeg vecTS .fs t.fs
    loadDataSeg vecTS .gs t.gs

/-! ### The switch (42 R540) -/

/-- Set or clear the Busy bit of the TSS descriptor at `la` (42 R543). -/
def putBusy (la : Word) (busy : Bool) : M Unit := do
  let b := BitVec.ofNat 8 (← linRead (la + 5#32) 1)
  linWrite (la + 5#32) 1 (if busy then b ||| 2#8 else b &&& 0xFD#8).toNat

/-- The smallest limit of a TSS (42 R541). -/
def tssMinLimit (is386 : Bool) : Nat := if is386 then 0x67 else 0x2B

def Desc.isTss386 (d : Desc) : Bool := bit d.hi 11

/-- Switch to the task of `sel`, whose checked descriptor `d` lies at `la`; `image` and `eip` are saved for the old
task. What the spec leaves open of the old descriptor's Busy bit and of the T-bit trap is in log 33. -/
def taskSwitch (kind : SwitchKind) (sel : Half) (la : Word) (d : Desc) (image : Flags) (eip : Word) : M Unit := do
  let s ← get
  let new386 := d.isTss386
  if d.limit.toNat < tssMinLimit new386 then raiseSel vecTS sel
  if s.tr.limit.toNat < tssMinLimit s.tr.is386 then raiseSel vecTS s.tr.selector
  saveTask { image with NT := image.NT && kind != .back } eip
  if kind != .nest then
    match s.descAddr s.tr.selector with
    | some old => putBusy old false
    | none => raiseSel vecTS s.tr.selector
  if kind != .back then putBusy la true
  if kind == .nest then linWrite d.base 2 s.tr.selector.toNat
  let t ← readTask d.base new386
  modify fun s => s.switched (kind == .nest) { selector := sel, base := d.base, limit := d.limit, is386 := new386 } t
  inNewTask (validateTask t)
  if t.trap then modify fun s => { s with pendingDb := s.pendingDb ||| 0x8000#32 }
  flushQueue

/-! ### Targets that are tasks (42 R528, R529, R533) -/

/-- The TSS a task gate names (42 R528). -/
def gateTss (gate : Desc) : M (Half × Word × Desc) := do
  let sel := gate.gateSel
  if selNull sel || selLocal sel then raiseSel vecGP sel
  let (la, d) ← fetchDesc vecGP sel
  if !d.availableTss then raiseSel vecGP sel
  if !d.present then raiseSel vecNP sel
  return (sel, la, d)

/-- A switch made by JMP or CALL: the old task resumes after the instruction. -/
def switchFrom (call : Bool) (sel : Half) (la : Word) (d : Desc) : M Unit := do
  let s ← get
  taskSwitch (if call then .nest else .jump) sel la d s.flags s.nextEip

def farToTss (call : Bool) (sel : Half) (la : Word) (d : Desc) : M Unit := do
  let cpl := (← get).cpl
  if decide (d.dpl < cpl) || decide (d.dpl < selRpl sel) then raiseSel vecGP sel
  if !d.present then raiseSel vecNP sel
  switchFrom call sel la d

def farToTaskGate (call : Bool) (sel : Half) (gate : Desc) : M Unit := do
  let cpl := (← get).cpl
  if decide (gate.dpl < cpl) || decide (gate.dpl < selRpl sel) then raiseSel vecGP sel
  if !gate.present then raiseSel vecNP sel
  let (tss, la, d) ← gateTss gate
  switchFrom call tss la d

/-- Far JMP and CALL in protected mode, by the type of the descriptor (42 R521). -/
def farProtected (call : Bool) (sel : Half) (off : Word) : M Unit := do
  if selNull sel then raiseGP0
  let (la, d) ← fetchDesc vecGP sel
  if d.isCode then farToCode call sel off la d
  else if d.availableTss then farToTss call sel la d
  else if d.sysType == 4 || d.sysType == 12 then farThroughGate call sel d
  else if d.sysType == 5 then farToTaskGate call sel d
  else raiseSel vecGP sel

/-- Far JMP (42 R506). -/
def farJump (sel : Half) (off : Word) : M Unit := do
  if (← get).protMode then farProtected false sel off else farReal sel off

/-- Far CALL (42 R508). -/
def farCall (sel : Half) (off : Word) : M Unit := do
  let s ← get
  if s.protMode then farProtected true sel off
  else
    checkEip 0xFFFF#32 off
    pushReturn s.opWidth.bytes s.segs.cs.selector s.nextEip
    farReal sel off

/-- IRET from a nested task (42 R533). -/
def returnTask : M Unit := do
  let s ← get
  let link := BitVec.ofNat 16 (← linRead s.tr.base 2)
  if selNull link || selLocal link then raiseSel vecTS link
  let (la, d) ← fetchDesc vecTS link
  if !(d.sysType == 3 || d.sysType == 11) then raiseSel vecTS link
  if !d.present then raiseSel vecNP link
  taskSwitch .back link la d s.flags s.nextEip

end Sys2Proof.Machine
end

