-- ==== Sys2Proof/Machine/Ops.lean ====
section
/-! DEFINITION. Taking an exception or interrupt in every mode, the return from one, and how an instruction is run: its
prefixes, its completion, its faults (spec 60 R720 to R772, 42 R515, R533, 30 R253 to R258). The operations on registers
and memory this file builds on: Access, Operands, Descriptor, Transfer, Task. -/

namespace Sys2Proof.Machine

/-- The outcome of a step. -/
abbrev Answer := Host.Outcome State Fault Refusal

/-! ### Events (60 R710) -/

inductive EventKind where
  | exception
  | software
  | nmi
  | intr
  deriving DecidableEq, Repr

/-- An event to deliver; `setRF` as 60 R722 (e) says, `endsGD` for the general-detect fault, on whose entry DR7.GD is
cleared (60 R741 (e)). -/
structure Event where
  kind : EventKind
  vector : Byte
  code : ErrCode
  setRF : Bool
  endsGD : Bool := false
  deriving DecidableEq, Repr

/-- A software interrupt pushes no error code (60 R731). -/
def Event.ofSoftware (vector : Byte) : Event := { kind := .software, vector := vector, code := .none, setRF := false }

/-- An exception as an event: the image of a fault has RF = 1 (60 R722 (e); log 25), which suppresses a code breakpoint
on the instruction when the handler returns, also one that has not been taken (log 50). -/
def Exc.event (e : Exc) : Event :=
  { kind := .exception, vector := e.vector, code := e.code, setRF := e.vector != vecMF && e.vector != vecDF,
    endsGD := bit e.dr6 13 }

/-- A double fault; its error code is always 0, without an EXT bit (60 R748). -/
def Exc.doubleFault : Exc := { vector := vecDF, code := .sel 0#16, cr2 := none, dr6 := 0#32 }

def Event.doubleFault : Event := Exc.doubleFault.event

/-- CR2 and DR6 record an exception (60 R723, R741). -/
def Exc.record (e : Exc) (s : State) : State :=
  { s with cr2 := e.cr2.getD s.cr2, dr := { s.dr with dr6 := s.dr.dr6 ||| e.dr6 } }

/-! ### Frames (60 R730, R731, R763 to R767) -/

def ErrCode.items : ErrCode → Nat
  | .none => 0
  | _ => 1

/-- Push an error code as an item of `g` bytes; its other bits are undefined (60 R730, R754). -/
def pushCode (g : Nat) : ErrCode → M Unit
  | .none => pure ()
  | .sel c => pushSel g c
  | .page c => do push g ((← draw 29) ++ c)

/-- The EFLAGS image of an event. -/
def State.eventImage (s : State) (ev : Event) : Flags := { s.flags with RF := s.flags.RF || ev.setRF }

/-- The flags after entry through a gate (60 R766): an interrupt gate clears IF too. -/
def Flags.entered (f : Flags) (interruptGate : Bool) : Flags :=
  { f with TF := false, NT := false, VM := false, RF := false, IF := f.IF && !interruptGate }

/-- The three items of every frame. -/
def pushFrame (g : Nat) (image : Flags) (cs : Half) (eip : Word) : M Unit := do
  push g image.toWord
  pushReturn g cs eip

/-- A data segment register on the way from V86 mode to a handler (60 R765). -/
def SegReg.nulled (r : SegReg) : SegReg := { r with selector := 0#16, usable := false }

/-- Entry at the interrupted level (60 R763). -/
def enterSame (g : Nat) (ev : Event) (s : State) : M Unit := do
  needRoom g (3 + ev.code.items)
  pushFrame g (s.eventImage ev) s.segs.cs.selector s.eip
  pushCode g ev.code

/-- Entry at an inner level (60 R764). -/
def enterInner (g : Nat) (ev : Event) (s : State) (level : BitVec 2) : M Unit := do
  enterLevel level (← innerStack level g (5 + ev.code.items))
  pushSel g s.segs.ss.selector
  push g s.regs.esp
  pushFrame g (s.eventImage ev) s.segs.cs.selector s.eip
  pushCode g ev.code

/-- Entry from V86 mode (60 R765): all of ESP is loaded, whatever the width of the stack, where the TSS gives a dword
(log 37). -/
def enterFromV86 (ev : Event) (s : State) : M Unit := do
  let stack ← innerStack 0#2 4 (9 + ev.code.items)
  modifyFlags fun f => { f with VM := false }
  enterLevel 0#2 stack
  if stack.wide then setReg .w32 .esp stack.esp
  pushSel 4 s.segs.gs.selector
  pushSel 4 s.segs.fs.selector
  pushSel 4 s.segs.ds.selector
  pushSel 4 s.segs.es.selector
  pushSel 4 s.segs.ss.selector
  push 4 s.regs.esp
  pushFrame 4 (s.eventImage ev) s.segs.cs.selector s.eip
  pushCode 4 ev.code
  modify fun t => { t with segs := { t.segs with ds := t.segs.ds.nulled, es := t.segs.es.nulled,
                                                 fs := t.segs.fs.nulled, gs := t.segs.gs.nulled } }

/-- The handler's code segment (60 R762), entered on the stack its privilege asks for; the offset is checked before that
stack (log 51). -/
def enterProcedure (ev : Event) (gate : Desc) : M Unit := do
  let s ← get
  let sel := gate.gateSel
  let g := if gate.gate386 then 4 else 2
  if selNull sel then raiseGP0
  let (la, d) ← fetchDesc vecGP sel
  if !d.isCode || decide (s.cpl < d.dpl) then raiseSel vecGP sel
  if !d.present then raiseSel vecNP sel
  if s.v86 && (d.conforming || d.dpl != 0#2) then raiseSel vecGP sel
  checkEip d.limit gate.gateOff
  let same := d.conforming || d.dpl == s.cpl
  if s.v86 then
    if !gate.gate386 then refuse .gate286FromV86
    enterFromV86 ev s
  else if same then enterSame g ev s
  else enterInner g ev s d.dpl
  loadCS sel la d (if same then s.cpl else d.dpl)
  modifyFlags fun f => f.entered (gate.sysType % 2 == 0)
  jumpTo gate.gateOff

/-- A handler that is a task: the error code goes on its stack (60 R768), and the queue is empty after that push
(20 R234). Where that push or the check of EIP faults in a new task whose T bit is set, the trap of 42 R546 stays
pending, to be taken after that fault has been delivered; a fault of the segment checks before drops it. R546 says of
neither (DESIGN CHOICE; log 33). -/
def enterTask (ev : Event) (gate : Desc) : M Unit := do
  let s ← get
  let (sel, la, d) ← gateTss gate
  taskSwitch .nest sel la d (s.eventImage ev) s.eip
  inNewTask do
    pushCode (if d.isTss386 then 4 else 2) ev.code
    let t ← get
    checkEip t.segs.cs.limit t.eip
  flushQueue

/-- #GP or #NP naming IDT entry `v` (60 R730). -/
def raiseIdt {α : Type} (vector : Byte) (v : Byte) : M α := raiseCode vector (BitVec.ofNat 16 (8 * v.toNat + 2))

/-- Delivery through the IDT (60 R760, R761); its accesses are made at supervisor level (60 R770). -/
def deliverProtected (ev : Event) : M Unit := do
  modify fun s => { s with insn := { s.insn with system := true } }
  let s ← get
  if s.idtr.limit.toNat < 8 * ev.vector.toNat + 7 then raiseIdt vecGP ev.vector
  let gate ← readDesc (s.idtr.base + BitVec.ofNat 32 (8 * ev.vector.toNat))
  let t := gate.sysType
  if !(t == 5 || t == 6 || t == 7 || t == 14 || t == 15) then raiseIdt vecGP ev.vector
  if ev.kind == .software && decide (gate.dpl < s.cpl) then raiseIdt vecGP ev.vector
  if !gate.present then raiseIdt vecNP ev.vector
  if t == 5 then enterTask ev gate else enterProcedure ev gate

/-- Delivery in real mode (60 R769): the vector is read after the pushes. CS takes limit FFFFH and the attributes of
Table 9-2 as in a far transfer, though R769 and 70 R832 name its selector and base only (DESIGN CHOICE; log 23). A
vector beyond the IDT limit is a double fault (92 D25); a queued INT n may meet it after PE has been set (70 R860), and
the protected gate then gets its error code. -/
def deliverReal (ev : Event) : M Unit := do
  let s ← get
  if s.idtr.limit.toNat < 4 * ev.vector.toNat + 3 then throw (.exc .doubleFault)
  push 2 (s.eventImage ev).toWord
  modifyFlags fun f => { f with IF := false, TF := false }
  push 2 (s.segs.cs.selector.setWidth 32)
  push 2 s.eip
  let v ← linRead (s.idtr.base + BitVec.ofNat 32 (4 * ev.vector.toNat)) 4
  farReal (BitVec.ofNat 16 (v / 2 ^ 16)) ((BitVec.ofNat 16 v).setWidth 32)

/-- The debug registers on entry to a debug exception: the causes of pending traps go to DR6; the general-detect fault
clears DR7.GD (60 R741; log 44). -/
def DebugRegs.entered (d : DebugRegs) (causes : Word) (endsGD : Bool) : DebugRegs :=
  { d with dr6 := d.dr6 ||| causes, dr7 := if endsGD then d.dr7 &&& 0xFFFFDFFF#32 else d.dr7 }

/-- What the acknowledgement of an event changes: an NMI blocks further NMIs, INTR is answered, pending debug traps end
(60 R725, R727; log 21, 22). -/
def State.acknowledged (s : State) (ev : Event) : State :=
  match ev.kind with
  | .nmi => { s with nmiPending := false, nmiBlocked := true }
  | .intr => { s with intr := none }
  | .exception =>
    if ev.vector == vecDB then { s with pendingDb := 0#32, dr := s.dr.entered s.pendingDb ev.endsGD } else s
  | .software => s

/-- Deliver an event whose saved EIP is the state's. -/
def deliverOnce (ev : Event) : M Unit := do
  modify fun s => s.acknowledged ev
  if (← get).peNow then deliverProtected ev else deliverReal ev

/-! ### Faults during delivery (60 R748, R770, R771) -/

def contributory (v : Byte) : Bool := v == vecDE || v == vecTS || v == vecNP || v == vecSS || v == vecGP

/-- The pairs that are a double fault. -/
def doubles (first second : Byte) : Bool :=
  (contributory first && contributory second) || (first == vecPF && (contributory second || second == vecPF))

/-- What follows exception `e` met while delivering `ev`: `none` is shutdown. In real mode only a vector beyond the
IDT limit leads to another delivery (92 D25). -/
def nextEvent (real : Bool) (ev : Event) (e : Exc) : Option Event :=
  if ev.kind == .exception && ev.vector == vecDF then none
  else if e.vector == vecDF then some .doubleFault
  else if real then none
  else if ev.kind == .exception && doubles ev.vector e.vector then some .doubleFault
  else some e.event

/-- Memory bits the processor set in its structures stay set (60 R722 (c)). -/
def keepBits (map : List PhysRegion) (m : List Host.Cell) : List Host.Cell → List Host.Cell
  | [] => m
  | (a, bits) :: ks =>
    keepBits map (if (physKind map a).isNone then Memory.write m a (Memory.read m a ||| bits) else m) ks

/-- The state before the instruction, with what a fault does not undo (60 R722; log 28). -/
def rollback (s t : State) : State :=
  { s with mem := keepBits s.physMap s.mem t.insn.kept, tlb := t.tlb, draws := t.draws, trace := t.trace,
           insn := Insn.start, inhibitInt := false, inhibitAll := false, repeating := none }

/-- Between instructions, after an event or an instruction that has ended: no inhibit of MOV SS, POP SS or STI stands.
That an NMI, a debug trap or a code breakpoint taken right after STI ends the inhibit of INTR, though no instruction has
executed since, is the model's choice (DESIGN CHOICE; log 27). -/
def State.between (s : State) : State :=
  { s with insn := Insn.start, inhibitInt := false, inhibitAll := false, repeating := none }

/-- The state of a step that began in `s` and only waited: the instruction has not executed, so what the one before it
inhibits stays inhibited (60 R725; log 27). -/
def State.waited (s t : State) : State :=
  { t.between with inhibitInt := s.inhibitInt, inhibitAll := s.inhibitAll }

/-- An event whose delivery met an exception recurs when that exception's handler returns, by IRET: an NMI stays pending
and blocked till then, a debug trap and an INTR are put aside, the last one put aside first to recur (60 R748;
log 48). -/
def State.setAside (s : State) (ev : Event) : State :=
  match ev.kind with
  | .nmi => { s with nmiBlocked := true }
  | .intr => { s with intr := none, heldIntr := s.intr.toList ++ s.heldIntr }
  | .exception => if ev.vector == vecDB then { s with pendingDb := 0#32, heldDb := s.heldDb ||| s.pendingDb } else s
  | .software => s

/-- What IRET makes pending again. -/
def State.resumed (s : State) : State :=
  { s with nmiBlocked := false, pendingDb := s.pendingDb ||| s.heldDb, heldDb := 0#32,
           intr := if s.intr.isNone then s.heldIntr.head? else s.intr,
           heldIntr := if s.intr.isNone then s.heldIntr.tail else s.heldIntr }

def State.shutDown (s : State) : State := { s with run := .shutdown }

/-- One attempt at delivery: the outcome, or the next event to deliver and the state it finds. -/
inductive Delivery where
  | done (o : Answer)
  | more (ev : Event) (s : State)

def State.follow (s : State) : Option Event → Delivery
  | none => .done (.next s.shutDown)
  | some ev => .more ev s

/-- Try to deliver `ev`. An exception that comes after the commit of a task switch is taken in the new task (42 R548);
that `ev` then counts as delivered, and does not recur, is the model's choice (DESIGN CHOICE; log 48). In real mode an
NMI, an INTR or a debug trap whose vector lies beyond the IDT limit leads to a double fault (60 R769, 92 D25): that it
is put aside all the same, to recur at the IRET of that handler, is the model's choice too (DESIGN CHOICE; log 48).
Delivery ends where EIP is loaded: a fault of the fetch of the handler's first instruction is that instruction's own and
makes no double fault, though R748 lets delivery run to that fetch (DESIGN CHOICE; log 55). -/
def attempt (ev : Event) (s : State) : Delivery :=
  match deliverOnce ev { s with insn := { Insn.start with ext := ev.kind != .software } } with
  | .ok _ t => .done (.next { t.between with run := .running })
  | .error (.exc e) t => (e.record ((rollback s t).setAside ev)).follow (nextEvent (!s.cr0.PE) ev e)
  | .error (.excHere e) t => (e.record t.between).follow (nextEvent (!t.cr0.PE) ev e)
  | .error .shutdown t => .done (.next (rollback s t).shutDown)
  | .error .wait t => .done (.next t.between)
  | .error (.refuse r) _ => .done (.refused r)

/-- TAKE AN EVENT: deliver it, and what its delivery raises, at most `fuel` deep (four is the most that can happen). -/
def takeEvent : Nat → Event → State → Answer
  | 0, _, s => .next s.shutDown
  | k + 1, ev, s =>
    match attempt ev s with
    | .done o => o
    | .more ev s => takeEvent k ev s

def eventFuel : Nat := 8

/-- Take exception `e` in state `s`, whose EIP is the one to save. -/
def takeException (e : Exc) (s : State) : Answer := takeEvent eventFuel e.event (e.record s)

/-! ### Return from an interrupt (42 R515, R533) -/

/-- EFLAGS from an image, as the privilege level allows (42 R533, 43 R593). -/
def Flags.load (old : Flags) (v : Word) (cpl : BitVec 2) (rf : Bool) : Flags :=
  let new := Flags.ofWord v
  { new with
    IF := if cpl ≤ old.IOPL then new.IF else old.IF
    IOPL := if cpl == 0#2 then new.IOPL else old.IOPL
    VM := old.VM
    RF := if rf then new.RF else old.RF }

/-- A loaded RF lasts until the next instruction has completed (60 R722 (e)). -/
def keepRF : M Unit := modify fun s => { s with insn := { s.insn with keepRF := true } }

def loadReturnFlags (n : Nat) (fl : Word) (cpl : BitVec 2) : M Unit := do
  modifyFlags fun f => f.load fl cpl (n == 4)
  if n == 4 then keepRF

def iretReal : M Unit := do
  let s ← get
  if s.v86 && s.flags.IOPL != 3#2 then raiseGP0
  let n := s.opWidth.bytes
  let ip ← peek n 0
  let cs ← peek n n
  let fl ← peek n (2 * n)
  farReal (cs.setWidth 16) ip
  dropBytes (3 * n)
  loadReturnFlags n fl s.cpl

/-- Return to V86 mode: six more dwords are popped. -/
def iretToV86 (ip fl : Word) (cs : Half) : M Unit := do
  let esp ← peek 4 12
  let ss ← peek 4 16
  let es ← peek 4 20
  let ds ← peek 4 24
  let fs ← peek 4 28
  let gs ← peek 4 32
  loadAllV86 (es.setWidth 16) cs (ss.setWidth 16) (ds.setWidth 16) (fs.setWidth 16) (gs.setWidth 16)
  modifyFlags fun _ => Flags.ofWord fl
  setReg .w32 .esp esp
  keepRF
  jumpTo (ip &&& 0xFFFF#32)

def iretProtected : M Unit := do
  let s ← get
  if s.flags.NT then returnTask
  else
    let n := s.opWidth.bytes
    let ip ← peek n 0
    let cs := (← peek n n).setWidth 16
    let fl ← peek n (2 * n)
    if n == 4 && bit fl 17 && s.cpl == 0#2 then iretToV86 ip fl cs
    else
      let (la, d) ← returnDesc cs
      if selRpl cs == s.cpl then
        checkEip d.limit ip
        loadCS cs la d s.cpl
        dropBytes (3 * n)
        jumpTo ip
      else returnOuter n (3 * n) 0 cs ip la d
      loadReturnFlags n fl s.cpl

/-- IRET; it ends the blocking of NMI (60 R727), and what was put aside is pending again. -/
def interruptReturn : M Unit := do
  modify State.resumed
  if (← get).protMode then iretProtected else iretReal

/-- INT n, INT 3, INTO: the saved EIP is that of the next instruction (42 R512). -/
def softwareInterrupt (vector : Byte) : M Unit := do
  advance
  deliverOnce (.ofSoftware vector)

/-! ### Running one instruction -/

/-- The inhibits of the instruction before end when this one begins (10 R72, 43 R591), of a repeated one with its first
element (log 27). -/
def State.started (s : State) : State := { s with inhibitInt := false, inhibitAll := false, repeating := none }

/-- Prefixes the instruction does not allow (30 R253, R255, R258). -/
def checkPrefixes (lockable string : Bool) : M Unit := do
  let s ← get
  let i := s.insn
  if (i.rep && i.repne) || (i.lock && (i.rep || i.repne)) then refuse .prefixCombination
  if (i.rep || i.repne) && !string then refuse .repBeforeOther
  if i.lock && (!lockable || (s.cpl != 0#2 && Config.lockNeedsCpl0)) then raiseUD
  modify State.started

/-- A note made by the instruction before linear address `next` is still of use at `here`: `here` is at most as far on
as the queue is deep, or back at the repeated instruction that made it (20 R233). -/
def noteLives (here next : Word) : Bool :=
  decide ((here + BitVec.ofNat 32 Config.maxInsnLen - next).toNat < Config.prefetchDepth + Config.maxInsnLen)

/-- Forget queued bytes and modes further back than the queue is deep. -/
def State.pruned (s : State) : State :=
  let here := s.segs.cs.base + s.eip
  { s with staleBytes := s.staleBytes.filter fun e => noteLives here e.next
           staleModes := s.staleModes.filter fun e => noteLives here e.next }

/-- While bytes of the coprocessor are outstanding, an instruction ends with any number of them stored (70 R865;
log 17). -/
def State.coprocessed (s : State) : State :=
  if s.lateBytes.isEmpty then s
  else { s with draws := s.draws + 1 }.landed ((Config.free 32 s.draws).toNat % (s.lateBytes.length + 1))

/-- The end of an instruction that began in `s`: a single-step trap is due when TF was set all along; RF is cleared
(60 R741 (a), R722 (e); log 26). -/
def complete (s t : State) : State :=
  { t with
    flags := { t.flags with RF := t.insn.keepRF && t.flags.RF }
    pendingDb := if s.flags.TF && t.flags.TF then t.pendingDb ||| 0x4000#32 else t.pendingDb
    insn := Insn.start }.coprocessed.pruned

/-- The outcome of an instruction from what its meaning answers. Where a JMP or CALL has switched tasks and the new
task's selectors then fault (42 R548), a data breakpoint that its far pointer operand met stays pending, to be taken
after that fault has been delivered, and no single-step trap is due: R548 and 60 R741 do not say whether such an
instruction counts as completed (DESIGN CHOICE; log 35). -/
def settle (s : State) (r : EStateM.Result Stop State Unit) : Answer :=
  match r with
  | .ok _ t => .next (complete s t)
  | .error (.exc e) t => takeException e (rollback s t)
  | .error (.excHere e) t => takeException e t.between
  | .error .shutdown t => .next (rollback s t).shutDown
  | .error .wait t => .next (s.waited t)
  | .error (.refuse r) _ => .refused r

def instruction (lockable string : Bool) (body : M Unit) (s : State) : Answer :=
  settle s ((do checkPrefixes lockable string; body) s)

/-- An instruction after which the next one follows. -/
def plainInsn (body : M Unit) (s : State) : Answer :=
  instruction false false (do body; advance) s

/-- The same, where LOCK is allowed with a memory destination (20 R226). -/
def lockInsn (mem : Bool) (body : M Unit) (s : State) : Answer :=
  instruction mem false (do body; advance) s

/-- An instruction that sets EIP itself. -/
def transferInsn (body : M Unit) (s : State) : Answer :=
  instruction false false body s

/-- A string instruction, which may be repeated. -/
def stringInsn (body : M Unit) (s : State) : Answer :=
  instruction false true body s

end Sys2Proof.Machine
end

