-- ==== Sys2Proof/Machine/Arith.lean ====
section
/-! DEFINITION. Integer arithmetic and logic, decimal adjust, BOUND (spec 41 R402 to R420, R436 to R442). -/

namespace Sys2Proof.Machine

/-! ### Two-operand operations (41 R402 to R406, R416 to R418, R420) -/

/-- The destination is r/m: it is read, and written back but by CMP. -/
def aluRM (op : AluOp) (w : Width) (rm : RM) (b : Word) : M Unit := do
  let (p, a) ← modifyRM w rm
  putPlace w p (← alu op w a b)

/-- CMP and TEST write nothing and need no write permission (R406, R420). -/
def aluOnly (op : AluOp) (w : Width) (rm : RM) (b : Word) : M Unit := do
  let a ← readRM w rm
  let _ ← alu op w a b

/-- The destination is a register, the source r/m. -/
def aluReg (op : AluOp) (w : Width) (reg : RegNo) (rm : RM) : M Unit := do
  let a ← getReg w reg
  let b ← readRM w rm
  setReg w reg (← alu op w a b)

/-- CMP with a register first operand. -/
def aluRegOnly (op : AluOp) (w : Width) (reg : RegNo) (rm : RM) : M Unit := do
  let a ← getReg w reg
  let b ← readRM w rm
  let _ ← alu op w a b

/-- An immediate byte at width `w`, sign-extended (R402). -/
def signByte (w : Width) (imm : Byte) : Word := w.trunc (imm.signExtend 32)

/-! ADD (R402) -/

def execAddEbGb (rm : RM) (reg : RegNo) (s : State) : Answer := lockInsn rm.isMem (aluRM .add .w8 rm (s.reg .w8 reg)) s
def execAddEvGv (rm : RM) (reg : RegNo) (s : State) : Answer :=
  lockInsn rm.isMem (aluRM .add s.opWidth rm (s.reg s.opWidth reg)) s
def execAddGbEb (reg : RegNo) (rm : RM) (s : State) : Answer := plainInsn (aluReg .add .w8 reg rm) s
def execAddGvEv (reg : RegNo) (rm : RM) (s : State) : Answer := plainInsn (aluReg .add s.opWidth reg rm) s
def execAddAlIb (imm : Byte) (s : State) : Answer := plainInsn (aluRM .add .w8 (.reg .eax) (imm.setWidth 32)) s
def execAddEaxIv (imm : ImmV) (s : State) : Answer :=
  plainInsn (aluRM .add s.opWidth (.reg .eax) (s.opWidth.trunc imm.toWord)) s
def execAddEbIb (rm : RM) (imm : Byte) (s : State) : Answer := lockInsn rm.isMem (aluRM .add .w8 rm (imm.setWidth 32)) s
def execAddEvIv (rm : RM) (imm : ImmV) (s : State) : Answer :=
  lockInsn rm.isMem (aluRM .add s.opWidth rm (s.opWidth.trunc imm.toWord)) s
def execAddEvIb (rm : RM) (imm : Byte) (s : State) : Answer :=
  lockInsn rm.isMem (aluRM .add s.opWidth rm (signByte s.opWidth imm)) s

/-! ADC (R403) -/

def execAdcEbGb (rm : RM) (reg : RegNo) (s : State) : Answer := lockInsn rm.isMem (aluRM .adc .w8 rm (s.reg .w8 reg)) s
def execAdcEvGv (rm : RM) (reg : RegNo) (s : State) : Answer :=
  lockInsn rm.isMem (aluRM .adc s.opWidth rm (s.reg s.opWidth reg)) s
def execAdcGbEb (reg : RegNo) (rm : RM) (s : State) : Answer := plainInsn (aluReg .adc .w8 reg rm) s
def execAdcGvEv (reg : RegNo) (rm : RM) (s : State) : Answer := plainInsn (aluReg .adc s.opWidth reg rm) s
def execAdcAlIb (imm : Byte) (s : State) : Answer := plainInsn (aluRM .adc .w8 (.reg .eax) (imm.setWidth 32)) s
def execAdcEaxIv (imm : ImmV) (s : State) : Answer :=
  plainInsn (aluRM .adc s.opWidth (.reg .eax) (s.opWidth.trunc imm.toWord)) s
def execAdcEbIb (rm : RM) (imm : Byte) (s : State) : Answer := lockInsn rm.isMem (aluRM .adc .w8 rm (imm.setWidth 32)) s
def execAdcEvIv (rm : RM) (imm : ImmV) (s : State) : Answer :=
  lockInsn rm.isMem (aluRM .adc s.opWidth rm (s.opWidth.trunc imm.toWord)) s
def execAdcEvIb (rm : RM) (imm : Byte) (s : State) : Answer :=
  lockInsn rm.isMem (aluRM .adc s.opWidth rm (signByte s.opWidth imm)) s

/-! SUB (R404) -/

def execSubEbGb (rm : RM) (reg : RegNo) (s : State) : Answer := lockInsn rm.isMem (aluRM .sub .w8 rm (s.reg .w8 reg)) s
def execSubEvGv (rm : RM) (reg : RegNo) (s : State) : Answer :=
  lockInsn rm.isMem (aluRM .sub s.opWidth rm (s.reg s.opWidth reg)) s
def execSubGbEb (reg : RegNo) (rm : RM) (s : State) : Answer := plainInsn (aluReg .sub .w8 reg rm) s
def execSubGvEv (reg : RegNo) (rm : RM) (s : State) : Answer := plainInsn (aluReg .sub s.opWidth reg rm) s
def execSubAlIb (imm : Byte) (s : State) : Answer := plainInsn (aluRM .sub .w8 (.reg .eax) (imm.setWidth 32)) s
def execSubEaxIv (imm : ImmV) (s : State) : Answer :=
  plainInsn (aluRM .sub s.opWidth (.reg .eax) (s.opWidth.trunc imm.toWord)) s
def execSubEbIb (rm : RM) (imm : Byte) (s : State) : Answer := lockInsn rm.isMem (aluRM .sub .w8 rm (imm.setWidth 32)) s
def execSubEvIv (rm : RM) (imm : ImmV) (s : State) : Answer :=
  lockInsn rm.isMem (aluRM .sub s.opWidth rm (s.opWidth.trunc imm.toWord)) s
def execSubEvIb (rm : RM) (imm : Byte) (s : State) : Answer :=
  lockInsn rm.isMem (aluRM .sub s.opWidth rm (signByte s.opWidth imm)) s

/-! SBB (R405) -/

def execSbbEbGb (rm : RM) (reg : RegNo) (s : State) : Answer := lockInsn rm.isMem (aluRM .sbb .w8 rm (s.reg .w8 reg)) s
def execSbbEvGv (rm : RM) (reg : RegNo) (s : State) : Answer :=
  lockInsn rm.isMem (aluRM .sbb s.opWidth rm (s.reg s.opWidth reg)) s
def execSbbGbEb (reg : RegNo) (rm : RM) (s : State) : Answer := plainInsn (aluReg .sbb .w8 reg rm) s
def execSbbGvEv (reg : RegNo) (rm : RM) (s : State) : Answer := plainInsn (aluReg .sbb s.opWidth reg rm) s
def execSbbAlIb (imm : Byte) (s : State) : Answer := plainInsn (aluRM .sbb .w8 (.reg .eax) (imm.setWidth 32)) s
def execSbbEaxIv (imm : ImmV) (s : State) : Answer :=
  plainInsn (aluRM .sbb s.opWidth (.reg .eax) (s.opWidth.trunc imm.toWord)) s
def execSbbEbIb (rm : RM) (imm : Byte) (s : State) : Answer := lockInsn rm.isMem (aluRM .sbb .w8 rm (imm.setWidth 32)) s
def execSbbEvIv (rm : RM) (imm : ImmV) (s : State) : Answer :=
  lockInsn rm.isMem (aluRM .sbb s.opWidth rm (s.opWidth.trunc imm.toWord)) s
def execSbbEvIb (rm : RM) (imm : Byte) (s : State) : Answer :=
  lockInsn rm.isMem (aluRM .sbb s.opWidth rm (signByte s.opWidth imm)) s

/-! CMP (R406) -/

def execCmpEbGb (rm : RM) (reg : RegNo) (s : State) : Answer := plainInsn (aluOnly .cmp .w8 rm (s.reg .w8 reg)) s
def execCmpEvGv (rm : RM) (reg : RegNo) (s : State) : Answer :=
  plainInsn (aluOnly .cmp s.opWidth rm (s.reg s.opWidth reg)) s
def execCmpGbEb (reg : RegNo) (rm : RM) (s : State) : Answer := plainInsn (aluRegOnly .cmp .w8 reg rm) s
def execCmpGvEv (reg : RegNo) (rm : RM) (s : State) : Answer := plainInsn (aluRegOnly .cmp s.opWidth reg rm) s
def execCmpAlIb (imm : Byte) (s : State) : Answer := plainInsn (aluOnly .cmp .w8 (.reg .eax) (imm.setWidth 32)) s
def execCmpEaxIv (imm : ImmV) (s : State) : Answer :=
  plainInsn (aluOnly .cmp s.opWidth (.reg .eax) (s.opWidth.trunc imm.toWord)) s
def execCmpEbIb (rm : RM) (imm : Byte) (s : State) : Answer := plainInsn (aluOnly .cmp .w8 rm (imm.setWidth 32)) s
def execCmpEvIv (rm : RM) (imm : ImmV) (s : State) : Answer :=
  plainInsn (aluOnly .cmp s.opWidth rm (s.opWidth.trunc imm.toWord)) s
def execCmpEvIb (rm : RM) (imm : Byte) (s : State) : Answer :=
  plainInsn (aluOnly .cmp s.opWidth rm (signByte s.opWidth imm)) s

/-! AND (R416) -/

def execAndEbGb (rm : RM) (reg : RegNo) (s : State) : Answer := lockInsn rm.isMem (aluRM .and .w8 rm (s.reg .w8 reg)) s
def execAndEvGv (rm : RM) (reg : RegNo) (s : State) : Answer :=
  lockInsn rm.isMem (aluRM .and s.opWidth rm (s.reg s.opWidth reg)) s
def execAndGbEb (reg : RegNo) (rm : RM) (s : State) : Answer := plainInsn (aluReg .and .w8 reg rm) s
def execAndGvEv (reg : RegNo) (rm : RM) (s : State) : Answer := plainInsn (aluReg .and s.opWidth reg rm) s
def execAndAlIb (imm : Byte) (s : State) : Answer := plainInsn (aluRM .and .w8 (.reg .eax) (imm.setWidth 32)) s
def execAndEaxIv (imm : ImmV) (s : State) : Answer :=
  plainInsn (aluRM .and s.opWidth (.reg .eax) (s.opWidth.trunc imm.toWord)) s
def execAndEbIb (rm : RM) (imm : Byte) (s : State) : Answer := lockInsn rm.isMem (aluRM .and .w8 rm (imm.setWidth 32)) s
def execAndEvIv (rm : RM) (imm : ImmV) (s : State) : Answer :=
  lockInsn rm.isMem (aluRM .and s.opWidth rm (s.opWidth.trunc imm.toWord)) s
def execAndEvIb (rm : RM) (imm : Byte) (s : State) : Answer :=
  lockInsn rm.isMem (aluRM .and s.opWidth rm (signByte s.opWidth imm)) s

/-! OR (R417) -/

def execOrEbGb (rm : RM) (reg : RegNo) (s : State) : Answer := lockInsn rm.isMem (aluRM .or .w8 rm (s.reg .w8 reg)) s
def execOrEvGv (rm : RM) (reg : RegNo) (s : State) : Answer :=
  lockInsn rm.isMem (aluRM .or s.opWidth rm (s.reg s.opWidth reg)) s
def execOrGbEb (reg : RegNo) (rm : RM) (s : State) : Answer := plainInsn (aluReg .or .w8 reg rm) s
def execOrGvEv (reg : RegNo) (rm : RM) (s : State) : Answer := plainInsn (aluReg .or s.opWidth reg rm) s
def execOrAlIb (imm : Byte) (s : State) : Answer := plainInsn (aluRM .or .w8 (.reg .eax) (imm.setWidth 32)) s
def execOrEaxIv (imm : ImmV) (s : State) : Answer :=
  plainInsn (aluRM .or s.opWidth (.reg .eax) (s.opWidth.trunc imm.toWord)) s
def execOrEbIb (rm : RM) (imm : Byte) (s : State) : Answer := lockInsn rm.isMem (aluRM .or .w8 rm (imm.setWidth 32)) s
def execOrEvIv (rm : RM) (imm : ImmV) (s : State) : Answer :=
  lockInsn rm.isMem (aluRM .or s.opWidth rm (s.opWidth.trunc imm.toWord)) s
def execOrEvIb (rm : RM) (imm : Byte) (s : State) : Answer :=
  lockInsn rm.isMem (aluRM .or s.opWidth rm (signByte s.opWidth imm)) s

/-! XOR (R418) -/

def execXorEbGb (rm : RM) (reg : RegNo) (s : State) : Answer := lockInsn rm.isMem (aluRM .xor .w8 rm (s.reg .w8 reg)) s
def execXorEvGv (rm : RM) (reg : RegNo) (s : State) : Answer :=
  lockInsn rm.isMem (aluRM .xor s.opWidth rm (s.reg s.opWidth reg)) s
def execXorGbEb (reg : RegNo) (rm : RM) (s : State) : Answer := plainInsn (aluReg .xor .w8 reg rm) s
def execXorGvEv (reg : RegNo) (rm : RM) (s : State) : Answer := plainInsn (aluReg .xor s.opWidth reg rm) s
def execXorAlIb (imm : Byte) (s : State) : Answer := plainInsn (aluRM .xor .w8 (.reg .eax) (imm.setWidth 32)) s
def execXorEaxIv (imm : ImmV) (s : State) : Answer :=
  plainInsn (aluRM .xor s.opWidth (.reg .eax) (s.opWidth.trunc imm.toWord)) s
def execXorEbIb (rm : RM) (imm : Byte) (s : State) : Answer := lockInsn rm.isMem (aluRM .xor .w8 rm (imm.setWidth 32)) s
def execXorEvIv (rm : RM) (imm : ImmV) (s : State) : Answer :=
  lockInsn rm.isMem (aluRM .xor s.opWidth rm (s.opWidth.trunc imm.toWord)) s
def execXorEvIb (rm : RM) (imm : Byte) (s : State) : Answer :=
  lockInsn rm.isMem (aluRM .xor s.opWidth rm (signByte s.opWidth imm)) s

/-! TEST (R420) -/

def execTestEbGb (rm : RM) (reg : RegNo) (s : State) : Answer := plainInsn (aluOnly .and .w8 rm (s.reg .w8 reg)) s
def execTestEvGv (rm : RM) (reg : RegNo) (s : State) : Answer :=
  plainInsn (aluOnly .and s.opWidth rm (s.reg s.opWidth reg)) s
def execTestAlIb (imm : Byte) (s : State) : Answer := plainInsn (aluOnly .and .w8 (.reg .eax) (imm.setWidth 32)) s
def execTestEaxIv (imm : ImmV) (s : State) : Answer :=
  plainInsn (aluOnly .and s.opWidth (.reg .eax) (s.opWidth.trunc imm.toWord)) s
def execTestEbIb (rm : RM) (imm : Byte) (s : State) : Answer := plainInsn (aluOnly .and .w8 rm (imm.setWidth 32)) s
def execTestEvIv (rm : RM) (imm : ImmV) (s : State) : Answer :=
  plainInsn (aluOnly .and s.opWidth rm (s.opWidth.trunc imm.toWord)) s

/-! ### One-operand operations (41 R407 to R409, R419) -/

/-- A read-modify-write whose result and flags `g` gives from the operand. -/
def unaryRM (g : Word → Flags → Word × Flags) (w : Width) (rm : RM) : M Unit := do
  let (p, a) ← modifyRM w rm
  let r := g a (← get).flags
  modifyFlags fun _ => r.2
  putPlace w p r.1

/-- R409. -/
def negFlags (w : Width) (a : Word) (f : Flags) : Word × Flags := subFlags w 0#32 a false f
/-- R419. -/
def notFlags (w : Width) (a : Word) (f : Flags) : Word × Flags := (w.trunc (~~~a), f)

def execIncEax (s : State) : Answer := plainInsn (unaryRM (incFlags s.opWidth) s.opWidth (.reg .eax)) s
def execIncEcx (s : State) : Answer := plainInsn (unaryRM (incFlags s.opWidth) s.opWidth (.reg .ecx)) s
def execIncEdx (s : State) : Answer := plainInsn (unaryRM (incFlags s.opWidth) s.opWidth (.reg .edx)) s
def execIncEbx (s : State) : Answer := plainInsn (unaryRM (incFlags s.opWidth) s.opWidth (.reg .ebx)) s
def execIncEsp (s : State) : Answer := plainInsn (unaryRM (incFlags s.opWidth) s.opWidth (.reg .esp)) s
def execIncEbp (s : State) : Answer := plainInsn (unaryRM (incFlags s.opWidth) s.opWidth (.reg .ebp)) s
def execIncEsi (s : State) : Answer := plainInsn (unaryRM (incFlags s.opWidth) s.opWidth (.reg .esi)) s
def execIncEdi (s : State) : Answer := plainInsn (unaryRM (incFlags s.opWidth) s.opWidth (.reg .edi)) s

def execDecEax (s : State) : Answer := plainInsn (unaryRM (decFlags s.opWidth) s.opWidth (.reg .eax)) s
def execDecEcx (s : State) : Answer := plainInsn (unaryRM (decFlags s.opWidth) s.opWidth (.reg .ecx)) s
def execDecEdx (s : State) : Answer := plainInsn (unaryRM (decFlags s.opWidth) s.opWidth (.reg .edx)) s
def execDecEbx (s : State) : Answer := plainInsn (unaryRM (decFlags s.opWidth) s.opWidth (.reg .ebx)) s
def execDecEsp (s : State) : Answer := plainInsn (unaryRM (decFlags s.opWidth) s.opWidth (.reg .esp)) s
def execDecEbp (s : State) : Answer := plainInsn (unaryRM (decFlags s.opWidth) s.opWidth (.reg .ebp)) s
def execDecEsi (s : State) : Answer := plainInsn (unaryRM (decFlags s.opWidth) s.opWidth (.reg .esi)) s
def execDecEdi (s : State) : Answer := plainInsn (unaryRM (decFlags s.opWidth) s.opWidth (.reg .edi)) s

def execIncEb (rm : RM) (s : State) : Answer := lockInsn rm.isMem (unaryRM (incFlags .w8) .w8 rm) s
def execIncEv (rm : RM) (s : State) : Answer :=
  lockInsn rm.isMem (unaryRM (incFlags s.opWidth) s.opWidth rm) s
def execDecEb (rm : RM) (s : State) : Answer := lockInsn rm.isMem (unaryRM (decFlags .w8) .w8 rm) s
def execDecEv (rm : RM) (s : State) : Answer :=
  lockInsn rm.isMem (unaryRM (decFlags s.opWidth) s.opWidth rm) s
def execNegEb (rm : RM) (s : State) : Answer := lockInsn rm.isMem (unaryRM (negFlags .w8) .w8 rm) s
def execNegEv (rm : RM) (s : State) : Answer :=
  lockInsn rm.isMem (unaryRM (negFlags s.opWidth) s.opWidth rm) s
def execNotEb (rm : RM) (s : State) : Answer := lockInsn rm.isMem (unaryRM (notFlags .w8) .w8 rm) s
def execNotEv (rm : RM) (s : State) : Answer :=
  lockInsn rm.isMem (unaryRM (notFlags s.opWidth) s.opWidth rm) s

/-! ### Multiplication and division (41 R410 to R415) -/

/-- AX, DX:AX or EDX:EAX (R410). -/
def State.wide (s : State) (w : Width) : Nat :=
  match w with
  | .w8 => (s.reg .w16 .eax).toNat
  | w => (s.reg w .edx).toNat * 2 ^ w.bits + (s.reg w .eax).toNat

/-- The low and high halves of a result: AL and AH, AX and DX, EAX and EDX. -/
def putHalves (w : Width) (lo hi : Word) : M Unit := do
  setReg w .eax lo
  setReg w (match w with | .w8 => .esp | _ => .edx) hi

/-- A double-width product. -/
def putProduct (w : Width) (v : Nat) : M Unit :=
  putHalves w (BitVec.ofNat 32 (v % 2 ^ w.bits)) (BitVec.ofNat 32 (v / 2 ^ w.bits % 2 ^ w.bits))

/-- R410. -/
def mulUnsigned (w : Width) (rm : RM) : M Unit := do
  let b ← readRM w rm
  let p := ((← get).reg w .eax).toNat * b.toNat
  putProduct w p
  mulFlags (decide (2 ^ w.bits ≤ p))

/-- R411. -/
def mulSigned (w : Width) (rm : RM) : M Unit := do
  let b ← readRM w rm
  let p := w.signed ((← get).reg w .eax) * w.signed b
  putProduct w (p % (2 ^ (2 * w.bits) : Nat)).toNat
  mulFlags (!w.fits p)

/-- The truncated signed product of two values (R412, R413). -/
def mulTo (w : Width) (reg : RegNo) (a b : Word) : M Unit := do
  let p := w.signed a * w.signed b
  setReg w reg (w.ofInt p)
  mulFlags (!w.fits p)

def mulReg (w : Width) (reg : RegNo) (rm : RM) : M Unit := do
  let b ← readRM w rm
  mulTo w reg ((← get).reg w reg) b

def mulImm (w : Width) (reg : RegNo) (rm : RM) (imm : Word) : M Unit := do
  let a ← readRM w rm
  mulTo w reg a imm

/-- R414. -/
def divUnsigned (w : Width) (rm : RM) : M Unit := do
  let b := (← readRM w rm).toNat
  let d := (← get).wide w
  if b == 0 || decide (2 ^ w.bits ≤ d / b) then raise vecDE
  putHalves w (BitVec.ofNat 32 (d / b)) (BitVec.ofNat 32 (d % b))
  undefinedFlags

/-- A `2w`-bit number as signed. -/
def signedWide (w : Width) (v : Nat) : Int :=
  if v < 2 ^ (2 * w.bits - 1) then v else (v : Int) - (2 ^ (2 * w.bits) : Nat)

/-- R415: the quotient is truncated toward zero. -/
def divSigned (w : Width) (rm : RM) : M Unit := do
  let b := w.signed (← readRM w rm)
  let d := signedWide w ((← get).wide w)
  if b == 0 || !w.fits (d.tdiv b) then raise vecDE
  putHalves w (w.ofInt (d.tdiv b)) (w.ofInt (d.tmod b))
  undefinedFlags

def execMulEb (rm : RM) (s : State) : Answer := plainInsn (mulUnsigned .w8 rm) s
def execMulEv (rm : RM) (s : State) : Answer := plainInsn (mulUnsigned s.opWidth rm) s
def execImulEb (rm : RM) (s : State) : Answer := plainInsn (mulSigned .w8 rm) s
def execImulEv (rm : RM) (s : State) : Answer := plainInsn (mulSigned s.opWidth rm) s
def execDivEb (rm : RM) (s : State) : Answer := plainInsn (divUnsigned .w8 rm) s
def execDivEv (rm : RM) (s : State) : Answer := plainInsn (divUnsigned s.opWidth rm) s
def execIdivEb (rm : RM) (s : State) : Answer := plainInsn (divSigned .w8 rm) s
def execIdivEv (rm : RM) (s : State) : Answer := plainInsn (divSigned s.opWidth rm) s
def execImulGvEv (reg : RegNo) (rm : RM) (s : State) : Answer := plainInsn (mulReg s.opWidth reg rm) s
def execImulGvEvIv (reg : RegNo) (rm : RM) (imm : ImmV) (s : State) : Answer :=
  plainInsn (mulImm s.opWidth reg rm (s.opWidth.trunc imm.toWord)) s
def execImulGvEvIb (reg : RegNo) (rm : RM) (imm : Byte) (s : State) : Answer :=
  plainInsn (mulImm s.opWidth reg rm (signByte s.opWidth imm)) s

/-! ### Decimal adjust (41 R436 to R441; log 12, 42, 43) -/

/-- DAA and DAS: AL, AF and CF as `g` gives them, OF undefined. -/
def adjustPacked (g : Word → Bool → Bool → Word × Bool × Bool) : M Unit := do
  let s ← get
  let (al, af, cf) := g (s.reg .w8 .eax) s.flags.AF s.flags.CF
  let o ← drawBool
  setReg .w8 .eax al
  modifyFlags fun f => { f with AF := af, CF := cf, OF := o }.setSZP .w8 al

/-- AAA and AAS: AL and AH are adjusted separately by 6 and 1, up or down. -/
def adjustUnpacked (up : Bool) : M Unit := do
  let s ← get
  let al := s.reg .w8 .eax
  let ah := s.reg .w8 .esp
  let adj := decide (al.toNat % 16 > 9) || s.flags.AF
  let al' := if adj then (if up then al + 6#32 else al - 6#32) else al
  let ah' := if adj then (if up then ah + 1#32 else ah - 1#32) else ah
  let o ← drawBool
  let sf ← drawBool
  let z ← drawBool
  let p ← drawBool
  setReg .w8 .eax (al' &&& 0xF#32)
  setReg .w8 .esp ah'
  modifyFlags fun f => { f with AF := adj, CF := adj, OF := o, SF := sf, ZF := z, PF := p }

/-- The flags of AAM and AAD. -/
def adjustFlags (al : Word) : M Unit := do
  let o ← drawBool
  let a ← drawBool
  let c ← drawBool
  modifyFlags fun f => { f with OF := o, AF := a, CF := c }.setSZP .w8 al

/-- R440. -/
def adjustMul (imm : Byte) : M Unit := do
  let al := ((← get).reg .w8 .eax).toNat
  if imm == 0#8 then raise vecDE
  setReg .w8 .esp (BitVec.ofNat 32 (al / imm.toNat))
  setReg .w8 .eax (BitVec.ofNat 32 (al % imm.toNat))
  adjustFlags (BitVec.ofNat 32 (al % imm.toNat))

/-- R441. -/
def adjustDiv (imm : Byte) : M Unit := do
  let s ← get
  let al := BitVec.ofNat 32 (((s.reg .w8 .eax).toNat + (s.reg .w8 .esp).toNat * imm.toNat) % 256)
  setReg .w16 .eax al
  adjustFlags al

def execDaa (s : State) : Answer := plainInsn (adjustPacked daaResult) s
def execDas (s : State) : Answer := plainInsn (adjustPacked dasResult) s
def execAaa (s : State) : Answer := plainInsn (adjustUnpacked true) s
def execAas (s : State) : Answer := plainInsn (adjustUnpacked false) s
def execAamIb (imm : Byte) (s : State) : Answer := plainInsn (adjustMul imm) s
def execAadIb (imm : Byte) (s : State) : Answer := plainInsn (adjustDiv imm) s

/-! ### BOUND (41 R442) -/

def checkBounds (reg : RegNo) (mem : Mem) : M Unit := do
  let s ← get
  let w := s.opWidth
  let a := s.ea mem
  let lo := w.signed (← memReadW w a.1 a.2)
  let hi := w.signed (← memReadW w a.1 (a.2 + BitVec.ofNat 32 w.bytes))
  let i := w.signed (s.reg w reg)
  if i < lo || hi < i then raise vecBR

def execBoundGvMa (reg : RegNo) (mem : Mem) (s : State) : Answer := plainInsn (checkBounds reg mem) s

end Sys2Proof.Machine
end

