-- ==== Sys2Proof/Machine/Move.lean ====
section
/-! DEFINITION. Data movement: MOV, XCHG, PUSH, POP, pointers, conversions, stack frames, SETcc (spec 40). -/

namespace Sys2Proof.Machine

/-! ### MOV (40 R330 to R338) -/

/-- `WriteRM(w, x[reg])` (R330). -/
def movToRM (w : Width) (rm : RM) (reg : RegNo) : M Unit := do writeRM w rm (← getReg w reg)

/-- `x[reg] <- ReadRM(w)` (R330). -/
def movFromRM (w : Width) (reg : RegNo) (rm : RM) : M Unit := do setReg w reg (← readRM w rm)

def execMovEbGb (rm : RM) (reg : RegNo) (s : State) : Answer := plainInsn (movToRM .w8 rm reg) s
def execMovEvGv (rm : RM) (reg : RegNo) (s : State) : Answer :=
  plainInsn (movToRM s.opWidth rm reg) s
def execMovGbEb (reg : RegNo) (rm : RM) (s : State) : Answer :=
  plainInsn (movFromRM .w8 reg rm) s
def execMovGvEv (reg : RegNo) (rm : RM) (s : State) : Answer :=
  plainInsn (movFromRM s.opWidth reg rm) s
/-- R332. -/
def execMovEbIb (rm : RM) (imm : Byte) (s : State) : Answer :=
  plainInsn (writeRM .w8 rm (imm.setWidth 32)) s
def execMovEvIv (rm : RM) (imm : ImmV) (s : State) : Answer :=
  plainInsn (writeRM s.opWidth rm imm.toWord) s
/-- R333. -/
def execMovR8Ib (reg : RegNo) (imm : Byte) (s : State) : Answer :=
  plainInsn (setReg .w8 reg (imm.setWidth 32)) s
def execMovRIv (reg : RegNo) (imm : ImmV) (s : State) : Answer :=
  plainInsn (setReg s.opWidth reg imm.toWord) s

/-- The accumulator from a direct offset, and back (R334). -/
def movFromOff (w : Width) (off : ImmV) : M Unit := do
  setReg w .eax (← memReadW w ((← get).overridden .ds) off.toWord)
def movToOff (w : Width) (off : ImmV) : M Unit := do
  let s ← get
  memWriteW w (s.overridden .ds) off.toWord (s.reg w .eax)

def execMovAlOb (off : ImmV) (s : State) : Answer := plainInsn (movFromOff .w8 off) s
def execMovEaxOv (off : ImmV) (s : State) : Answer := plainInsn (movFromOff s.opWidth off) s
def execMovObAl (off : ImmV) (s : State) : Answer := plainInsn (movToOff .w8 off) s
def execMovOvEax (off : ImmV) (s : State) : Answer := plainInsn (movToOff s.opWidth off) s

/-- R335. -/
def movToSeg (seg : SegNo) (rm : RM) : M Unit := do
  let v ← readRM .w16 rm
  loadSeg seg (v.setWidth 16)
  inhibitAfterSS seg

/-- Store a 16-bit register: memory and 16-bit destinations take 16 bits, the upper half of a 32-bit register
destination is undefined (R336, 44 R616, R618, R620). -/
def storeHalf (rm : RM) (v : Half) : M Unit :=
  match rm with
  | .reg n => do
    if (← get).sizes.op32 then
      let hi ← draw 16
      setReg .w32 n (hi ++ v)
    else setReg .w16 n (v.setWidth 32)
  | .mem _ => writeRM .w16 rm (v.setWidth 32)

def execMovSwEw (seg : SegNo) (rm : RM) (s : State) : Answer := plainInsn (movToSeg seg rm) s
def execMovEwSw (rm : RM) (seg : SegNo) (s : State) : Answer :=
  plainInsn (storeHalf rm (s.seg seg).selector) s

/-- Zero and sign extension of a `v`-wide operand (R337, R338). -/
def movExtend (sign : Bool) (v w : Width) (reg : RegNo) (rm : RM) : M Unit := do
  let x ← readRM v rm
  setReg w reg (if sign then v.sext x else x)

def execMovzxGvEb (reg : RegNo) (rm : RM) (s : State) : Answer :=
  plainInsn (movExtend false .w8 s.opWidth reg rm) s
def execMovzxGvEw (reg : RegNo) (rm : RM) (s : State) : Answer :=
  plainInsn (movExtend false .w16 s.opWidth reg rm) s
def execMovsxGvEb (reg : RegNo) (rm : RM) (s : State) : Answer :=
  plainInsn (movExtend true .w8 s.opWidth reg rm) s
def execMovsxGvEw (reg : RegNo) (rm : RM) (s : State) : Answer :=
  plainInsn (movExtend true .w16 s.opWidth reg rm) s

/-! ### XCHG (40 R339) -/

def xchgRM (w : Width) (rm : RM) (reg : RegNo) : M Unit := do
  let (p, v) ← modifyRM w rm
  let r ← getReg w reg
  putPlace w p r
  setReg w reg v

def execXchgEbGb (rm : RM) (reg : RegNo) (s : State) : Answer :=
  lockInsn rm.isMem (xchgRM .w8 rm reg) s
def execXchgEvGv (rm : RM) (reg : RegNo) (s : State) : Answer :=
  lockInsn rm.isMem (xchgRM s.opWidth rm reg) s
def execXchgEaxEcx (s : State) : Answer :=
  plainInsn (xchgRM s.opWidth (.reg .ecx) .eax) s
def execXchgEaxEdx (s : State) : Answer :=
  plainInsn (xchgRM s.opWidth (.reg .edx) .eax) s
def execXchgEaxEbx (s : State) : Answer :=
  plainInsn (xchgRM s.opWidth (.reg .ebx) .eax) s
def execXchgEaxEsp (s : State) : Answer :=
  plainInsn (xchgRM s.opWidth (.reg .esp) .eax) s
def execXchgEaxEbp (s : State) : Answer :=
  plainInsn (xchgRM s.opWidth (.reg .ebp) .eax) s
def execXchgEaxEsi (s : State) : Answer :=
  plainInsn (xchgRM s.opWidth (.reg .esi) .eax) s
def execXchgEaxEdi (s : State) : Answer :=
  plainInsn (xchgRM s.opWidth (.reg .edi) .eax) s

/-! ### PUSH and POP (40 R340 to R348) -/

/-- Push a value of the operand size. -/
def pushV (v : Word) : M Unit := do push (← get).opWidth.bytes v

/-- R343. -/
def pushSegReg (seg : SegNo) : M Unit := do
  let s ← get
  pushSel s.opWidth.bytes (s.seg seg).selector

/-- R341. -/
def pushRM (rm : RM) : M Unit := do
  let v ← readRM (← get).opWidth rm
  pushV v

def execPushR (reg : RegNo) (s : State) : Answer := plainInsn (pushV (s.reg s.opWidth reg)) s
def execPushEv (rm : RM) (s : State) : Answer := plainInsn (pushRM rm) s
/-- R342. -/
def execPushIv (imm : ImmV) (s : State) : Answer := plainInsn (pushV imm.toWord) s
def execPushIb (imm : Byte) (s : State) : Answer := plainInsn (pushV (imm.signExtend 32)) s
def execPushEs (s : State) : Answer := plainInsn (pushSegReg .es) s
def execPushCs (s : State) : Answer := plainInsn (pushSegReg .cs) s
def execPushSs (s : State) : Answer := plainInsn (pushSegReg .ss) s
def execPushDs (s : State) : Answer := plainInsn (pushSegReg .ds) s
def execPushFs (s : State) : Answer := plainInsn (pushSegReg .fs) s
def execPushGs (s : State) : Answer := plainInsn (pushSegReg .gs) s

/-- Pop a value of the operand size. -/
def popV : M Word := do pop (← get).opWidth.bytes

/-- R344, R345: the destination is written, and its address formed, after the pop. -/
def popRM (rm : RM) : M Unit := do
  let v ← popV
  writeRM (← get).opWidth rm v

/-- R346: the stack pointer moves after the load, for POP SS at the new stack's width (log 37). -/
def popSegReg (seg : SegNo) : M Unit := do
  let n := (← get).opWidth.bytes
  let v ← peek n 0
  loadSeg seg (v.setWidth 16)
  dropBytes n
  inhibitAfterSS seg

def execPopR (reg : RegNo) (s : State) : Answer := plainInsn (popRM (.reg reg)) s
def execPopEv (rm : RM) (s : State) : Answer := plainInsn (popRM rm) s
def execPopEs (s : State) : Answer := plainInsn (popSegReg .es) s
def execPopSs (s : State) : Answer := plainInsn (popSegReg .ss) s
def execPopDs (s : State) : Answer := plainInsn (popSegReg .ds) s
def execPopFs (s : State) : Answer := plainInsn (popSegReg .fs) s
def execPopGs (s : State) : Answer := plainInsn (popSegReg .gs) s

/-- The small stack pointers at which PUSHA and PUSHAD do not push in real mode (R347; log 29). -/
def pushaPeculiar (s : State) : M Unit := do
  let sp := s.sp.toNat
  if !s.peNow then
    if sp == 1 || sp == 3 || sp == 5 then throw .shutdown
    if sp == 7 || sp == 9 || sp == 11 || sp == 13 || sp == 15 then raiseGP0

/-- R347: the whole block is checked before anything is written, slot by slot in the order of the pushes, of each its
limit and then its page (20 R131, R169). -/
def pushRegs : M Unit := do
  let s ← get
  pushaPeculiar s
  pushBlock s.opWidth.bytes
    [s.regs.eax, s.regs.ecx, s.regs.edx, s.regs.ebx, s.regs.esp, s.regs.ebp, s.regs.esi, s.regs.edi]

/-- R348: the slot of the saved stack pointer is read and discarded. -/
def popRegs : M Unit := do
  let w := (← get).opWidth
  let n := w.bytes
  let di ← peek n 0
  let si ← peek n n
  let bp ← peek n (2 * n)
  let _ ← peek n (3 * n)
  let bx ← peek n (4 * n)
  let dx ← peek n (5 * n)
  let cx ← peek n (6 * n)
  let ax ← peek n (7 * n)
  dropBytes (8 * n)
  setReg w .edi di
  setReg w .esi si
  setReg w .ebp bp
  setReg w .ebx bx
  setReg w .edx dx
  setReg w .ecx cx
  setReg w .eax ax

def execPusha (s : State) : Answer := plainInsn pushRegs s
def execPopa (s : State) : Answer := plainInsn popRegs s

/-! ### Addresses and pointers (40 R349 to R351) -/

/-- R349. -/
def execLeaGvM (reg : RegNo) (mem : Mem) (s : State) : Answer :=
  plainInsn (setReg s.opWidth reg (s.regs.offset mem)) s

/-- R350. -/
def loadPointer (seg : SegNo) (reg : RegNo) (mem : Mem) : M Unit := do
  let (off, sel) ← farPointer mem
  loadSeg seg sel
  setReg (← get).opWidth reg off

def execLdsGvMp (reg : RegNo) (mem : Mem) (s : State) : Answer :=
  plainInsn (loadPointer .ds reg mem) s
def execLesGvMp (reg : RegNo) (mem : Mem) (s : State) : Answer :=
  plainInsn (loadPointer .es reg mem) s
def execLfsGvMp (reg : RegNo) (mem : Mem) (s : State) : Answer :=
  plainInsn (loadPointer .fs reg mem) s
def execLgsGvMp (reg : RegNo) (mem : Mem) (s : State) : Answer :=
  plainInsn (loadPointer .gs reg mem) s
def execLssGvMp (reg : RegNo) (mem : Mem) (s : State) : Answer :=
  plainInsn (loadPointer .ss reg mem) s

/-- R351. -/
def translateByte : M Unit := do
  let s ← get
  let off := s.adWidth.trunc (s.regs.ebx + s.reg .w8 .eax)
  setReg .w8 .eax (← memReadW .w8 (s.overridden .ds) off)

def execXlat (s : State) : Answer := plainInsn translateByte s

/-! ### Conversions and flag bytes (40 R352 to R355) -/

/-- AH as a byte register number (00 R11). -/
abbrev ah : RegNo := .esp

/-- R352. -/
def convertByte : M Unit := do
  let s ← get
  if s.sizes.op32 then setReg .w32 .eax (Width.w16.sext (s.reg .w16 .eax))
  else setReg .w16 .eax (Width.w8.sext (s.reg .w8 .eax))

/-- R353. -/
def convertWord : M Unit := do
  let s ← get
  setReg s.opWidth .edx (if s.opWidth.msb (s.reg s.opWidth .eax) then 0xFFFFFFFF#32 else 0#32)

def execCbw (s : State) : Answer := plainInsn convertByte s
def execCwd (s : State) : Answer := plainInsn convertWord s
/-- R354. -/
def execLahf (s : State) : Answer := plainInsn (setReg .w8 ah (s.flags.toWord &&& 0xFF#32)) s

/-- R355. -/
def Flags.withAh (f : Flags) (v : Word) : Flags :=
  { f with SF := bit v 7, ZF := bit v 6, AF := bit v 4, PF := bit v 2, CF := bit v 0 }

def execSahf (s : State) : Answer := plainInsn (modifyFlags fun f => f.withAh (s.reg .w8 ah)) s

/-! ### Stack frames (40 R356, R357) -/

/-- Copy `k` frame pointers (R356; log 40). -/
def copyFrames (w : Width) : Nat → M Unit
  | 0 => pure ()
  | k + 1 => do
    let bp := w.trunc ((← get).reg w .ebp - BitVec.ofNat 32 w.bytes)
    setReg w .ebp bp
    let v ← memRead .ss bp w.bytes
    push w.bytes (BitVec.ofNat 32 v)
    copyFrames w k

/-- R356: with a 32-bit operand size and a 16-bit stack the frame pointer is the 16-bit stack pointer, zero-extended
(log 40). -/
def enterFrame (size : Half) (level : Nat) : M Unit := do
  let s ← get
  let w := s.opWidth
  push w.bytes (s.reg w .ebp)
  let frame := (← get).sp
  if level > 0 then
    copyFrames w (level - 1)
    push w.bytes frame
  setReg w .ebp frame
  setSP ((← get).sp - size.setWidth 32)

def leaveFrame : M Unit := do
  let s ← get
  setSP (s.reg s.stackWidth .ebp)
  let v ← popV
  setReg s.opWidth .ebp v

def execEnterIwIb (imm : Half) (imm2 : Byte) (s : State) : Answer :=
  plainInsn (enterFrame imm (imm2.toNat % 32)) s
def execLeave (s : State) : Answer := plainInsn leaveFrame s

/-! ### SETcc and NOP (40 R358, R359) -/

def execSetccEb (cc : Cond) (rm : RM) (s : State) : Answer :=
  plainInsn (writeRM .w8 rm (if cc.holds s.flags then 1#32 else 0#32)) s
def execNop (s : State) : Answer := plainInsn (pure ()) s

end Sys2Proof.Machine
end

