-- ==== Sys2Proof/Machine/Control.lean ====
section
/-! DEFINITION. Control transfer: jumps, loops, calls, returns, software interrupts (spec 42 R495 to R515). -/

namespace Sys2Proof.Machine

/-! ### Jumps (42 R495 to R501) -/

/-- R496. -/
def jumpRM (rm : RM) : M Unit := do
  let t ← readRM (← get).opWidth rm
  setEip t

/-- The loop counter, CX or ECX by the address size (R498). -/
def State.counter (s : State) : Word := s.reg s.adWidth .ecx

/-- R499 to R501: jump while the decremented counter is not 0 and `c` holds. -/
def loopWhile (c : Bool) (d : Word) : M Unit := do
  let s ← get
  let n := s.adWidth.trunc (s.counter - 1#32)
  setReg s.adWidth .ecx n
  branch (n != 0#32 && c) d

def execJmpJb (rel : Byte) (s : State) : Answer := transferInsn (branch true (rel.signExtend 32)) s
def execJmpJv (rel : ImmV) (s : State) : Answer := transferInsn (branch true rel.signed) s
def execJmpEv (rm : RM) (s : State) : Answer := transferInsn (jumpRM rm) s
/-- R497. -/
def execJccJb (cc : Cond) (rel : Byte) (s : State) : Answer :=
  transferInsn (branch (cc.holds s.flags) (rel.signExtend 32)) s
def execJccJv (cc : Cond) (rel : ImmV) (s : State) : Answer := transferInsn (branch (cc.holds s.flags) rel.signed) s
/-- R498. -/
def execJcxzJb (rel : Byte) (s : State) : Answer := transferInsn (branch (s.counter == 0#32) (rel.signExtend 32)) s
def execLoopJb (rel : Byte) (s : State) : Answer := transferInsn (loopWhile true (rel.signExtend 32)) s
def execLoopeJb (rel : Byte) (s : State) : Answer := transferInsn (loopWhile s.flags.ZF (rel.signExtend 32)) s
def execLoopneJb (rel : Byte) (s : State) : Answer := transferInsn (loopWhile (!s.flags.ZF) (rel.signExtend 32)) s

/-! ### Near calls and returns (42 R502 to R505) -/

/-- The target is checked before the return offset is pushed. -/
def callNear (t : Word) : M Unit := do
  let t ← nearTarget t
  let s ← get
  push s.opWidth.bytes s.nextEip
  jumpTo t

/-- R503: the operand is read before the push. -/
def callRM (rm : RM) : M Unit := do
  let t ← readRM (← get).opWidth rm
  callNear t

/-- The check is made before the stack pointer is committed. -/
def returnNear (imm : Nat) : M Unit := do
  let n := (← get).opWidth.bytes
  let t ← nearTarget (← peek n 0)
  dropBytes (n + imm)
  jumpTo t

def execCallJv (rel : ImmV) (s : State) : Answer := transferInsn (callNear (s.relTarget rel.signed)) s
def execCallEv (rm : RM) (s : State) : Answer := transferInsn (callRM rm) s
def execRet (s : State) : Answer := transferInsn (returnNear 0) s
def execRetIw (imm : Half) (s : State) : Answer := transferInsn (returnNear imm.toNat) s

/-! ### Far transfers (42 R506 to R511) -/

def farIndirect (go : Half → Word → M Unit) (mem : Mem) : M Unit := do
  let (off, sel) ← farPointer mem
  go sel off

def farReturn (imm : Nat) : M Unit := do
  if (← get).protMode then returnFar imm else returnFarReal imm

def execJmpFarAp (off : ImmV) (sel : Half) (s : State) : Answer := transferInsn (farJump sel off.toWord) s
def execJmpFarMp (mem : Mem) (s : State) : Answer := transferInsn (farIndirect farJump mem) s
def execCallFarAp (off : ImmV) (sel : Half) (s : State) : Answer := transferInsn (farCall sel off.toWord) s
def execCallFarMp (mem : Mem) (s : State) : Answer := transferInsn (farIndirect farCall mem) s
def execRetf (s : State) : Answer := transferInsn (farReturn 0) s
def execRetfIw (imm : Half) (s : State) : Answer := transferInsn (farReturn imm.toNat) s

/-! ### Software interrupts and IRET (42 R512 to R515) -/

/-- INT n is IOPL-sensitive in V86 mode (R512). -/
def interruptN (vector : Byte) : M Unit := do
  let s ← get
  if s.v86 && s.flags.IOPL != 3#2 then raiseGP0
  softwareInterrupt vector

/-- R514. -/
def interruptOverflow : M Unit := do
  if (← get).flags.OF then softwareInterrupt vecOF else advance

def execIntIb (imm : Byte) (s : State) : Answer := transferInsn (interruptN imm) s
/-- R513: not IOPL-sensitive. -/
def execInt3 (s : State) : Answer := transferInsn (softwareInterrupt vecBP) s
def execInto (s : State) : Answer := transferInsn interruptOverflow s
def execIret (s : State) : Answer := transferInsn interruptReturn s

end Sys2Proof.Machine
end

