-- ==== Sys2Proof/Machine/FlagInsns.lean ====
section
/-! DEFINITION. Instructions on flags: CLC to STD, CLI, STI, PUSHF, POPF (spec 43 R580 to R593), and the prefix bytes
(spec 30 R252 to R261). -/

namespace Sys2Proof.Machine

/-! ### Single flags (43 R580 to R584) -/

def execClc (s : State) : Answer := plainInsn (modifyFlags fun f => { f with CF := false }) s
def execStc (s : State) : Answer := plainInsn (modifyFlags fun f => { f with CF := true }) s
def execCmc (s : State) : Answer := plainInsn (modifyFlags fun f => { f with CF := !f.CF }) s
def execCld (s : State) : Answer := plainInsn (modifyFlags fun f => { f with DF := false }) s
def execStd (s : State) : Answer := plainInsn (modifyFlags fun f => { f with DF := true }) s

/-! ### IF (43 R590, R591) -/

/-- CPL at most IOPL: always so in real mode, in V86 mode only with IOPL 3. -/
def needIopl : M Unit := do
  let s ← get
  if s.flags.IOPL < s.cpl then raiseGP0

def clearIF : M Unit := do
  needIopl
  modifyFlags fun f => { f with IF := false }

/-- STI; INTR is held off until after the next instruction (60 R725; log 27). -/
def setIF : M Unit := do
  needIopl
  modify fun s => { s with inhibitInt := true, flags := { s.flags with IF := true } }

def execCli (s : State) : Answer := plainInsn clearIF s
def execSti (s : State) : Answer := plainInsn setIF s

/-! ### PUSHF and POPF (43 R592, R593) -/

/-- In V86 mode with IOPL below 3: #GP(0) (60 R800). -/
def needV86Iopl : M Unit := do
  let s ← get
  if s.v86 && s.flags.IOPL != 3#2 then raiseGP0

/-- Bits 17 and 16 of the image are undefined. -/
def pushFlags : M Unit := do
  needV86Iopl
  let f := (← get).flags
  let vm ← drawBool
  let rf ← drawBool
  pushV { f with VM := vm, RF := rf }.toWord

def popFlags : M Unit := do
  needV86Iopl
  let v ← popV
  let cpl := (← get).cpl
  modifyFlags fun f => f.load v cpl false

def execPushf (s : State) : Answer := plainInsn pushFlags s
def execPopf (s : State) : Answer := plainInsn popFlags s

/-! ### Prefix bytes (30 R252 to R261; log 20): they are recorded, and no instruction is completed -/

def notePrefix (g : Insn → Insn) (s : State) : Answer := .next { s with insn := g s.insn }

def execOpSizePrefix (s : State) : Answer := notePrefix (fun i => { i with opSize := true }) s
def execAddrSizePrefix (s : State) : Answer := notePrefix (fun i => { i with adSize := true }) s
def execLockPrefix (s : State) : Answer := notePrefix (fun i => { i with lock := true }) s
def execRepPrefix (s : State) : Answer := notePrefix (fun i => { i with rep := true }) s
def execRepnePrefix (s : State) : Answer := notePrefix (fun i => { i with repne := true }) s
def execEsPrefix (s : State) : Answer := notePrefix (fun i => { i with seg := some .es }) s
def execCsPrefix (s : State) : Answer := notePrefix (fun i => { i with seg := some .cs }) s
def execSsPrefix (s : State) : Answer := notePrefix (fun i => { i with seg := some .ss }) s
def execDsPrefix (s : State) : Answer := notePrefix (fun i => { i with seg := some .ds }) s
def execFsPrefix (s : State) : Answer := notePrefix (fun i => { i with seg := some .fs }) s
def execGsPrefix (s : State) : Answer := notePrefix (fun i => { i with seg := some .gs }) s

end Sys2Proof.Machine
end

