-- ==== Sys2Proof/Decode.lean ====
section
/-! DEFINITION. Instruction bytes to `Instr` and back (spec 30 R250 to R311). The decoder is total: bytes that are no
instruction are refused by `DecErr.invalid` (30 R300, R303; log 9), bytes that end too soon by `DecErr.short`. A prefix
byte decodes to the constructor of its own row; `Machine/Step.lean` goes on to the next byte (30 R310 step 2). -/

namespace Sys2Proof

/-! ### Numbers of the fields -/

def RegNo.num : RegNo → BitVec 3
  | .eax => 0#3 | .ecx => 1#3 | .edx => 2#3 | .ebx => 3#3 | .esp => 4#3 | .ebp => 5#3 | .esi => 6#3 | .edi => 7#3

def RegNo.ofNum (n : BitVec 3) : RegNo :=
  match n.toNat with
  | 0 => .eax | 1 => .ecx | 2 => .edx | 3 => .ebx | 4 => .esp | 5 => .ebp | 6 => .esi | _ => .edi

def SegNo.num : SegNo → BitVec 3
  | .es => 0#3 | .cs => 1#3 | .ss => 2#3 | .ds => 3#3 | .fs => 4#3 | .gs => 5#3

/-- Segment register numbers 6 and 7 do not exist (30 R280). -/
def SegNo.ofNum? (n : BitVec 3) : Option SegNo :=
  match n.toNat with
  | 0 => some .es | 1 => some .cs | 2 => some .ss | 3 => some .ds | 4 => some .fs | 5 => some .gs | _ => none

def CrNo.num : CrNo → BitVec 3
  | .cr0 => 0#3 | .cr2 => 2#3 | .cr3 => 3#3

/-- CR1 and CR4 to CR7 are invalid (30 R280, 10 R62). -/
def CrNo.ofNum? (n : BitVec 3) : Option CrNo :=
  match n.toNat with
  | 0 => some .cr0 | 2 => some .cr2 | 3 => some .cr3 | _ => none

def DrNo.num : DrNo → BitVec 3
  | .dr0 => 0#3 | .dr1 => 1#3 | .dr2 => 2#3 | .dr3 => 3#3 | .dr4 => 4#3 | .dr5 => 5#3 | .dr6 => 6#3 | .dr7 => 7#3

def DrNo.ofNum (n : BitVec 3) : DrNo :=
  match n.toNat with
  | 0 => .dr0 | 1 => .dr1 | 2 => .dr2 | 3 => .dr3 | 4 => .dr4 | 5 => .dr5 | 6 => .dr6 | _ => .dr7

def TrNo.num : TrNo → BitVec 3
  | .tr6 => 6#3 | .tr7 => 7#3

/-- Test registers other than TR6 and TR7 are invalid (30 R280). -/
def TrNo.ofNum? (n : BitVec 3) : Option TrNo :=
  match n.toNat with
  | 6 => some .tr6 | 7 => some .tr7 | _ => none

def Cond.num4 : Cond → BitVec 4
  | .o => 0#4 | .no => 1#4 | .b => 2#4 | .nb => 3#4 | .z => 4#4 | .nz => 5#4 | .be => 6#4 | .nbe => 7#4
  | .s => 8#4 | .ns => 9#4 | .p => 10#4 | .np => 11#4 | .l => 12#4 | .nl => 13#4 | .le => 14#4 | .nle => 15#4

def Cond.ofNum (n : Nat) : Cond :=
  match n with
  | 0 => .o | 1 => .no | 2 => .b | 3 => .nb | 4 => .z | 5 => .nz | 6 => .be | 7 => .nbe
  | 8 => .s | 9 => .ns | 10 => .p | 11 => .np | 12 => .l | 13 => .nl | 14 => .le | _ => .nle

def Ea16.num : Ea16 → BitVec 3
  | .bxSi => 0#3 | .bxDi => 1#3 | .bpSi => 2#3 | .bpDi => 3#3 | .si => 4#3 | .di => 5#3 | .bp => 6#3 | .bx => 7#3

def Ea16.ofNum (n : BitVec 3) : Ea16 :=
  match n.toNat with
  | 0 => .bxSi | 1 => .bxDi | 2 => .bpSi | 3 => .bpDi | 4 => .si | 5 => .di | 6 => .bp | _ => .bx

/-! ### Reading fields, in continuation style -/

/-- Why bytes are no instruction: `invalid rest` (an invalid opcode, `rest` the bytes not looked at), or `short` (more
bytes are needed). -/
inductive DecErr where
  | invalid (rest : List Byte)
  | short
  deriving DecidableEq, Repr

/-- What decoding a byte string gives: an instruction and the bytes after it. -/
abbrev Dec := Except DecErr (Instr × List Byte)

def invalid (rest : List Byte) : Dec := .error (.invalid rest)

/-- Little-endian words (20 R135). -/
def le16 (b0 b1 : Byte) : Half := b1 ++ b0

def le32 (b0 b1 b2 b3 : Byte) : Word := b3 ++ b2 ++ (b1 ++ b0)

def withByte (bs : List Byte) (k : Byte → List Byte → Dec) : Dec :=
  match bs with
  | b :: rest => k b rest
  | [] => .error .short

def with16 (bs : List Byte) (k : Half → List Byte → Dec) : Dec :=
  match bs with
  | b0 :: b1 :: rest => k (le16 b0 b1) rest
  | _ => .error .short

def with32 (bs : List Byte) (k : Word → List Byte → Dec) : Dec :=
  match bs with
  | b0 :: b1 :: b2 :: b3 :: rest => k (le32 b0 b1 b2 b3) rest
  | _ => .error .short

/-- A field whose width is a size attribute (30 R264). -/
def withV (big : Bool) (bs : List Byte) (k : ImmV → List Byte → Dec) : Dec :=
  if big then with32 bs fun v rest => k (.v32 v) rest else with16 bs fun v rest => k (.v16 v) rest

/-- The fields of a ModRM byte, and of a SIB byte in the same places (30 R270, R273). -/
def mrMod (b : Byte) : BitVec 2 := b.extractLsb' 6 2

def mrReg (b : Byte) : BitVec 3 := b.extractLsb' 3 3

def mrRm (b : Byte) : BitVec 3 := b.extractLsb' 0 3

/-- The memory forms of 16-bit addressing (30 R272); `mod` is not 3. -/
def withMem16 (mod : BitVec 2) (rm : BitVec 3) (bs : List Byte) (k : Mem → List Byte → Dec) : Dec :=
  if mod == 0#2 then
    if rm == 6#3 then with16 bs fun d bs => k (.dir16 d) bs else k (.ind16 (.ofNum rm) .none) bs
  else if mod == 1#2 then withByte bs fun d bs => k (.ind16 (.ofNum rm) (.d8 d)) bs
  else with16 bs fun d bs => k (.ind16 (.ofNum rm) (.full d)) bs

/-- A displacement by `mod` 0, 1 or 2 (30 R271). -/
def withDisp32 (mod : BitVec 2) (bs : List Byte) (k : Disp 32 → List Byte → Dec) : Dec :=
  if mod == 0#2 then k .none bs
  else if mod == 1#2 then withByte bs fun d bs => k (.d8 d) bs
  else with32 bs fun d bs => k (.full d) bs

/-- The forms with a SIB byte (30 R273). -/
def withSib (mod : BitVec 2) (bs : List Byte) (k : Mem → List Byte → Dec) : Dec :=
  withByte bs fun s bs =>
    if mod == 0#2 && mrRm s == 5#3 then with32 bs fun d bs => k (.sibDisp (mrMod s) (.ofNum (mrReg s)) d) bs
    else withDisp32 mod bs fun d bs => k (.sib (mrMod s) (.ofNum (mrReg s)) (.ofNum (mrRm s)) d) bs

/-- The memory forms of 32-bit addressing (30 R271); `mod` is not 3. -/
def withMem32 (mod : BitVec 2) (rm : BitVec 3) (bs : List Byte) (k : Mem → List Byte → Dec) : Dec :=
  if rm == 4#3 then withSib mod bs k
  else if mod == 0#2 && rm == 5#3 then with32 bs fun d bs => k (.dir32 d) bs
  else withDisp32 mod bs fun d bs => k (.ind32 (.ofNum rm) d) bs

/-- ModRM with what follows it: the `reg` field and the r/m operand (30 R270). -/
def withRM (z : Sizes) (bs : List Byte) (k : BitVec 3 → RM → List Byte → Dec) : Dec :=
  withByte bs fun m bs =>
    if mrMod m == 3#2 then k (mrReg m) (.reg (.ofNum (mrRm m))) bs
    else if z.ad32 then withMem32 (mrMod m) (mrRm m) bs fun o bs => k (mrReg m) (.mem o) bs
    else withMem16 (mrMod m) (mrRm m) bs fun o bs => k (mrReg m) (.mem o) bs

/-- ModRM that must name memory (30 R276). -/
def withMem (z : Sizes) (bs : List Byte) (k : BitVec 3 → Mem → List Byte → Dec) : Dec :=
  withRM z bs fun x rm bs =>
    match rm with
    | .mem m => k x m bs
    | .reg _ => invalid bs

/-- ModRM of MOV to and from special registers: `mod` is ignored (30 R276, R304). -/
def withReg (bs : List Byte) (k : BitVec 3 → RegNo → List Byte → Dec) : Dec :=
  withByte bs fun m bs => k (mrReg m) (.ofNum (mrRm m)) bs

def withSeg (x : BitVec 3) (bs : List Byte) (k : SegNo → Dec) : Dec :=
  match SegNo.ofNum? x with
  | some s => k s
  | none => invalid bs

/-- The destination of MOV Sreg: not CS (30 R280). -/
def withLoadSeg (x : BitVec 3) (bs : List Byte) (k : SegNo → Dec) : Dec :=
  withSeg x bs fun seg => if seg == .cs then invalid bs else k seg

def withCr (x : BitVec 3) (bs : List Byte) (k : CrNo → Dec) : Dec :=
  match CrNo.ofNum? x with
  | some c => k c
  | none => invalid bs

def withDr (x : BitVec 3) (_ : List Byte) (k : DrNo → Dec) : Dec :=
  k (DrNo.ofNum x)

def withTr (x : BitVec 3) (bs : List Byte) (k : TrNo → Dec) : Dec :=
  match TrNo.ofNum? x with
  | some t => k t
  | none => invalid bs

/-- A group member that must name memory (30 R276). -/
def memOnly (rm : RM) (bs : List Byte) (k : Mem → Dec) : Dec :=
  match rm with
  | .mem m => k m
  | .reg _ => invalid bs

/-! ### The groups (30 R286 to R290) -/

/-- Group 1, opcode 80 (30 R287). -/
def group80 (z : Sizes) (bs : List Byte) : Dec :=
  withRM z bs fun x rm bs =>
    match x.toNat with
    | 0 => withByte bs fun imm bs => .ok (.addEbIb rm imm, bs)
    | 1 => withByte bs fun imm bs => .ok (.orEbIb rm imm, bs)
    | 2 => withByte bs fun imm bs => .ok (.adcEbIb rm imm, bs)
    | 3 => withByte bs fun imm bs => .ok (.sbbEbIb rm imm, bs)
    | 4 => withByte bs fun imm bs => .ok (.andEbIb rm imm, bs)
    | 5 => withByte bs fun imm bs => .ok (.subEbIb rm imm, bs)
    | 6 => withByte bs fun imm bs => .ok (.xorEbIb rm imm, bs)
    | _ => withByte bs fun imm bs => .ok (.cmpEbIb rm imm, bs)

/-- Group 1, opcode 81 (30 R287). -/
def group81 (z : Sizes) (bs : List Byte) : Dec :=
  withRM z bs fun x rm bs =>
    match x.toNat with
    | 0 => withV z.op32 bs fun imm bs => .ok (.addEvIv rm imm, bs)
    | 1 => withV z.op32 bs fun imm bs => .ok (.orEvIv rm imm, bs)
    | 2 => withV z.op32 bs fun imm bs => .ok (.adcEvIv rm imm, bs)
    | 3 => withV z.op32 bs fun imm bs => .ok (.sbbEvIv rm imm, bs)
    | 4 => withV z.op32 bs fun imm bs => .ok (.andEvIv rm imm, bs)
    | 5 => withV z.op32 bs fun imm bs => .ok (.subEvIv rm imm, bs)
    | 6 => withV z.op32 bs fun imm bs => .ok (.xorEvIv rm imm, bs)
    | _ => withV z.op32 bs fun imm bs => .ok (.cmpEvIv rm imm, bs)

/-- Group 1, opcode 83 (30 R287). -/
def group83 (z : Sizes) (bs : List Byte) : Dec :=
  withRM z bs fun x rm bs =>
    match x.toNat with
    | 0 => withByte bs fun imm bs => .ok (.addEvIb rm imm, bs)
    | 1 => withByte bs fun imm bs => .ok (.orEvIb rm imm, bs)
    | 2 => withByte bs fun imm bs => .ok (.adcEvIb rm imm, bs)
    | 3 => withByte bs fun imm bs => .ok (.sbbEvIb rm imm, bs)
    | 4 => withByte bs fun imm bs => .ok (.andEvIb rm imm, bs)
    | 5 => withByte bs fun imm bs => .ok (.subEvIb rm imm, bs)
    | 6 => withByte bs fun imm bs => .ok (.xorEvIb rm imm, bs)
    | _ => withByte bs fun imm bs => .ok (.cmpEvIb rm imm, bs)

/-- Group 2, opcode C0 (30 R288); `/6` is undocumented (30 R303). -/
def groupC0 (z : Sizes) (bs : List Byte) : Dec :=
  withRM z bs fun x rm bs =>
    match x.toNat with
    | 0 => withByte bs fun imm bs => .ok (.rolEbIb rm imm, bs)
    | 1 => withByte bs fun imm bs => .ok (.rorEbIb rm imm, bs)
    | 2 => withByte bs fun imm bs => .ok (.rclEbIb rm imm, bs)
    | 3 => withByte bs fun imm bs => .ok (.rcrEbIb rm imm, bs)
    | 4 => withByte bs fun imm bs => .ok (.shlEbIb rm imm, bs)
    | 5 => withByte bs fun imm bs => .ok (.shrEbIb rm imm, bs)
    | 7 => withByte bs fun imm bs => .ok (.sarEbIb rm imm, bs)
    | _ => invalid bs

/-- Group 2, opcode C1 (30 R288); `/6` is undocumented (30 R303). -/
def groupC1 (z : Sizes) (bs : List Byte) : Dec :=
  withRM z bs fun x rm bs =>
    match x.toNat with
    | 0 => withByte bs fun imm bs => .ok (.rolEvIb rm imm, bs)
    | 1 => withByte bs fun imm bs => .ok (.rorEvIb rm imm, bs)
    | 2 => withByte bs fun imm bs => .ok (.rclEvIb rm imm, bs)
    | 3 => withByte bs fun imm bs => .ok (.rcrEvIb rm imm, bs)
    | 4 => withByte bs fun imm bs => .ok (.shlEvIb rm imm, bs)
    | 5 => withByte bs fun imm bs => .ok (.shrEvIb rm imm, bs)
    | 7 => withByte bs fun imm bs => .ok (.sarEvIb rm imm, bs)
    | _ => invalid bs

/-- Group 2, opcode D0 (30 R288); `/6` is undocumented (30 R303). -/
def groupD0 (z : Sizes) (bs : List Byte) : Dec :=
  withRM z bs fun x rm bs =>
    match x.toNat with
    | 0 => .ok (.rolEb1 rm, bs)
    | 1 => .ok (.rorEb1 rm, bs)
    | 2 => .ok (.rclEb1 rm, bs)
    | 3 => .ok (.rcrEb1 rm, bs)
    | 4 => .ok (.shlEb1 rm, bs)
    | 5 => .ok (.shrEb1 rm, bs)
    | 7 => .ok (.sarEb1 rm, bs)
    | _ => invalid bs

/-- Group 2, opcode D1 (30 R288); `/6` is undocumented (30 R303). -/
def groupD1 (z : Sizes) (bs : List Byte) : Dec :=
  withRM z bs fun x rm bs =>
    match x.toNat with
    | 0 => .ok (.rolEv1 rm, bs)
    | 1 => .ok (.rorEv1 rm, bs)
    | 2 => .ok (.rclEv1 rm, bs)
    | 3 => .ok (.rcrEv1 rm, bs)
    | 4 => .ok (.shlEv1 rm, bs)
    | 5 => .ok (.shrEv1 rm, bs)
    | 7 => .ok (.sarEv1 rm, bs)
    | _ => invalid bs

/-- Group 2, opcode D2 (30 R288); `/6` is undocumented (30 R303). -/
def groupD2 (z : Sizes) (bs : List Byte) : Dec :=
  withRM z bs fun x rm bs =>
    match x.toNat with
    | 0 => .ok (.rolEbCl rm, bs)
    | 1 => .ok (.rorEbCl rm, bs)
    | 2 => .ok (.rclEbCl rm, bs)
    | 3 => .ok (.rcrEbCl rm, bs)
    | 4 => .ok (.shlEbCl rm, bs)
    | 5 => .ok (.shrEbCl rm, bs)
    | 7 => .ok (.sarEbCl rm, bs)
    | _ => invalid bs

/-- Group 2, opcode D3 (30 R288); `/6` is undocumented (30 R303). -/
def groupD3 (z : Sizes) (bs : List Byte) : Dec :=
  withRM z bs fun x rm bs =>
    match x.toNat with
    | 0 => .ok (.rolEvCl rm, bs)
    | 1 => .ok (.rorEvCl rm, bs)
    | 2 => .ok (.rclEvCl rm, bs)
    | 3 => .ok (.rcrEvCl rm, bs)
    | 4 => .ok (.shlEvCl rm, bs)
    | 5 => .ok (.shrEvCl rm, bs)
    | 7 => .ok (.sarEvCl rm, bs)
    | _ => invalid bs

/-- Group 3, opcode F6 (30 R288); `/1` is undocumented (30 R303). -/
def groupF6 (z : Sizes) (bs : List Byte) : Dec :=
  withRM z bs fun x rm bs =>
    match x.toNat with
    | 0 => withByte bs fun imm bs => .ok (.testEbIb rm imm, bs)
    | 2 => .ok (.notEb rm, bs)
    | 3 => .ok (.negEb rm, bs)
    | 4 => .ok (.mulEb rm, bs)
    | 5 => .ok (.imulEb rm, bs)
    | 6 => .ok (.divEb rm, bs)
    | 7 => .ok (.idivEb rm, bs)
    | _ => invalid bs

/-- Group 3, opcode F7 (30 R288); `/1` is undocumented (30 R303). -/
def groupF7 (z : Sizes) (bs : List Byte) : Dec :=
  withRM z bs fun x rm bs =>
    match x.toNat with
    | 0 => withV z.op32 bs fun imm bs => .ok (.testEvIv rm imm, bs)
    | 2 => .ok (.notEv rm, bs)
    | 3 => .ok (.negEv rm, bs)
    | 4 => .ok (.mulEv rm, bs)
    | 5 => .ok (.imulEv rm, bs)
    | 6 => .ok (.divEv rm, bs)
    | 7 => .ok (.idivEv rm, bs)
    | _ => invalid bs

/-- Group 4, opcode FE (30 R288). -/
def groupFE (z : Sizes) (bs : List Byte) : Dec :=
  withRM z bs fun x rm bs =>
    match x.toNat with
    | 0 => .ok (.incEb rm, bs)
    | 1 => .ok (.decEb rm, bs)
    | _ => invalid bs

/-- Group 5, opcode FF (30 R288). -/
def groupFF (z : Sizes) (bs : List Byte) : Dec :=
  withRM z bs fun x rm bs =>
    match x.toNat with
    | 0 => .ok (.incEv rm, bs)
    | 1 => .ok (.decEv rm, bs)
    | 2 => .ok (.callEv rm, bs)
    | 3 => memOnly rm bs fun mem => .ok (.callFarMp mem, bs)
    | 4 => .ok (.jmpEv rm, bs)
    | 5 => memOnly rm bs fun mem => .ok (.jmpFarMp mem, bs)
    | 6 => .ok (.pushEv rm, bs)
    | _ => invalid bs

/-- Opcode 8F: only `/0` (30 R287). -/
def group8F (z : Sizes) (bs : List Byte) : Dec :=
  withRM z bs fun x rm bs =>
    match x.toNat with
    | 0 => .ok (.popEv rm, bs)
    | _ => invalid bs

/-- Opcode C6: only `/0` (30 R288). -/
def groupC6 (z : Sizes) (bs : List Byte) : Dec :=
  withRM z bs fun x rm bs =>
    match x.toNat with
    | 0 => withByte bs fun imm bs => .ok (.movEbIb rm imm, bs)
    | _ => invalid bs

/-- Opcode C7: only `/0` (30 R288). -/
def groupC7 (z : Sizes) (bs : List Byte) : Dec :=
  withRM z bs fun x rm bs =>
    match x.toNat with
    | 0 => withV z.op32 bs fun imm bs => .ok (.movEvIv rm imm, bs)
    | _ => invalid bs

/-- Group 6, opcode 0F 00 (30 R290). -/
def group0F00 (z : Sizes) (bs : List Byte) : Dec :=
  withRM z bs fun x rm bs =>
    match x.toNat with
    | 0 => .ok (.sldtEw rm, bs)
    | 1 => .ok (.strEw rm, bs)
    | 2 => .ok (.lldtEw rm, bs)
    | 3 => .ok (.ltrEw rm, bs)
    | 4 => .ok (.verrEw rm, bs)
    | 5 => .ok (.verwEw rm, bs)
    | _ => invalid bs

/-- Group 7, opcode 0F 01 (30 R290). -/
def group0F01 (z : Sizes) (bs : List Byte) : Dec :=
  withRM z bs fun x rm bs =>
    match x.toNat with
    | 0 => memOnly rm bs fun mem => .ok (.sgdtMs mem, bs)
    | 1 => memOnly rm bs fun mem => .ok (.sidtMs mem, bs)
    | 2 => memOnly rm bs fun mem => .ok (.lgdtMs mem, bs)
    | 3 => memOnly rm bs fun mem => .ok (.lidtMs mem, bs)
    | 4 => .ok (.smswEw rm, bs)
    | 6 => .ok (.lmswEw rm, bs)
    | _ => invalid bs

/-- Group 8, opcode 0F BA (30 R290). -/
def group0FBA (z : Sizes) (bs : List Byte) : Dec :=
  withRM z bs fun x rm bs =>
    match x.toNat with
    | 4 => withByte bs fun imm bs => .ok (.btEvIb rm imm, bs)
    | 5 => withByte bs fun imm bs => .ok (.btsEvIb rm imm, bs)
    | 6 => withByte bs fun imm bs => .ok (.btrEvIb rm imm, bs)
    | 7 => withByte bs fun imm bs => .ok (.btcEvIb rm imm, bs)
    | _ => invalid bs

/-! ### The rows with one constructor per register -/

/-- `INC` of a register (30 R286). -/
def incReg (r : RegNo) : Instr :=
  match r with
  | .eax => .incEax
  | .ecx => .incEcx
  | .edx => .incEdx
  | .ebx => .incEbx
  | .esp => .incEsp
  | .ebp => .incEbp
  | .esi => .incEsi
  | .edi => .incEdi

/-- `DEC` of a register (30 R286). -/
def decReg (r : RegNo) : Instr :=
  match r with
  | .eax => .decEax
  | .ecx => .decEcx
  | .edx => .decEdx
  | .ebx => .decEbx
  | .esp => .decEsp
  | .ebp => .decEbp
  | .esi => .decEsi
  | .edi => .decEdi

/-- `XCHG EAX` with a register; with EAX itself it is NOP (30 R287, 40 R359). -/
def xchgReg (r : RegNo) : Instr :=
  match r with
  | .eax => .nop
  | .ecx => .xchgEaxEcx
  | .edx => .xchgEaxEdx
  | .ebx => .xchgEaxEbx
  | .esp => .xchgEaxEsp
  | .ebp => .xchgEaxEbp
  | .esi => .xchgEaxEsi
  | .edi => .xchgEaxEdi

/-- `FADD ST,ST(i)` (45 R690). -/
def faddStSti (r : RegNo) : Instr :=
  match r with
  | .eax => .faddStSt0
  | .ecx => .faddStSt1
  | .edx => .faddStSt2
  | .ebx => .faddStSt3
  | .esp => .faddStSt4
  | .ebp => .faddStSt5
  | .esi => .faddStSt6
  | .edi => .faddStSt7

/-- `FADD ST(i),ST` (45 R690). -/
def faddStiSt (r : RegNo) : Instr :=
  match r with
  | .eax => .faddSt0St
  | .ecx => .faddSt1St
  | .edx => .faddSt2St
  | .ebx => .faddSt3St
  | .esp => .faddSt4St
  | .ebp => .faddSt5St
  | .esi => .faddSt6St
  | .edi => .faddSt7St

/-- `FMUL ST,ST(i)` (45 R690). -/
def fmulStSti (r : RegNo) : Instr :=
  match r with
  | .eax => .fmulStSt0
  | .ecx => .fmulStSt1
  | .edx => .fmulStSt2
  | .ebx => .fmulStSt3
  | .esp => .fmulStSt4
  | .ebp => .fmulStSt5
  | .esi => .fmulStSt6
  | .edi => .fmulStSt7

/-- `FMUL ST(i),ST` (45 R690). -/
def fmulStiSt (r : RegNo) : Instr :=
  match r with
  | .eax => .fmulSt0St
  | .ecx => .fmulSt1St
  | .edx => .fmulSt2St
  | .ebx => .fmulSt3St
  | .esp => .fmulSt4St
  | .ebp => .fmulSt5St
  | .esi => .fmulSt6St
  | .edi => .fmulSt7St

/-- An ESC operation with a memory operand (45 R690). -/
def escMem (op x : BitVec 3) (m : Mem) : Instr :=
  match op.toNat, x.toNat with
  | 0, 0 => .faddM32 m
  | 0, 1 => .fmulM32 m
  | 1, 5 => .fldcwM m
  | 1, 6 => .fstenvM m
  | 1, 7 => .fnstcwM m
  | 4, 0 => .faddM64 m
  | 4, 1 => .fmulM64 m
  | 5, 4 => .frstorM m
  | 5, 6 => .fsaveM m
  | 5, 7 => .fnstswM m
  | _, _ => .esc op x (.mem m)

/-- An ESC operation without one (45 R690). -/
def escReg (op x : BitVec 3) (r : RegNo) : Instr :=
  match op.toNat, x.toNat, r with
  | 0, 0, r => faddStSti r
  | 0, 1, r => fmulStSti r
  | 1, 0, .eax => .fldSt0
  | 1, 4, .eax => .fchs
  | 1, 5, .eax => .fld1
  | 1, 5, .esi => .fldz
  | 1, 7, .edx => .fsqrt
  | 3, 4, .edx => .fnclex
  | 3, 4, .ebx => .fninit
  | 3, 4, .esp => .fsetpm
  | 4, 0, r => faddStiSt r
  | 4, 1, r => fmulStiSt r
  | 6, 3, .ecx => .fcompp
  | 6, 7, .ecx => .fdivp
  | 7, 4, .eax => .fnstswAx
  | _, _, r => .esc op x (.reg r)

/-- Opcodes D8 to DF, `op` their low three bits (30 R295). With mod = 3 every encoding is an operation without a memory
operand, one that 45 R690 does not list included, also where mod != 3 has a listed operation (R690's last sentence; log
16). -/
def decodeEsc (op : BitVec 3) (z : Sizes) (bs : List Byte) : Dec :=
  withRM z bs fun x rm bs =>
    match rm with
    | .mem m => .ok (escMem op x m, bs)
    | .reg r => .ok (escReg op x r, bs)

/-! ### The two-byte map (30 R290) -/

/-- Opcodes 0F 00 to 0F 0F (30 R290). -/
def row0F0 (l : Nat) (z : Sizes) (bs : List Byte) : Dec :=
  match l with
  | 0x0 => group0F00 z bs
  | 0x1 => group0F01 z bs
  | 0x2 => withRM z bs fun x rm bs => .ok (.larGvEw (.ofNum x) rm, bs)
  | 0x3 => withRM z bs fun x rm bs => .ok (.lslGvEw (.ofNum x) rm, bs)
  | 0x6 => .ok (.clts, bs)
  | _ => invalid bs

/-- Opcodes 0F 20 to 0F 2F (30 R290). -/
def row0F2 (l : Nat) (z : Sizes) (bs : List Byte) : Dec :=
  match l with
  | 0x0 => withReg bs fun x reg bs => withCr x bs fun cr => .ok (.movRdCd reg cr, bs)
  | 0x1 => withReg bs fun x reg bs => withDr x bs fun dr => .ok (.movRdDd reg dr, bs)
  | 0x2 => withReg bs fun x reg bs => withCr x bs fun cr => .ok (.movCdRd cr reg, bs)
  | 0x3 => withReg bs fun x reg bs => withDr x bs fun dr => .ok (.movDdRd dr reg, bs)
  | 0x4 => withReg bs fun x reg bs => withTr x bs fun tr => .ok (.movRdTd reg tr, bs)
  | 0x6 => withReg bs fun x reg bs => withTr x bs fun tr => .ok (.movTdRd tr reg, bs)
  | _ => invalid bs

/-- Opcodes 0F A0 to 0F AF (30 R290). -/
def row0FA (l : Nat) (z : Sizes) (bs : List Byte) : Dec :=
  match l with
  | 0x0 => .ok (.pushFs, bs)
  | 0x1 => .ok (.popFs, bs)
  | 0x3 => withRM z bs fun x rm bs => .ok (.btEvGv rm (.ofNum x), bs)
  | 0x4 => withRM z bs fun x rm bs => withByte bs fun imm bs => .ok (.shldEvGvIb rm (.ofNum x) imm, bs)
  | 0x5 => withRM z bs fun x rm bs => .ok (.shldEvGvCl rm (.ofNum x), bs)
  | 0x8 => .ok (.pushGs, bs)
  | 0x9 => .ok (.popGs, bs)
  | 0xB => withRM z bs fun x rm bs => .ok (.btsEvGv rm (.ofNum x), bs)
  | 0xC => withRM z bs fun x rm bs => withByte bs fun imm bs => .ok (.shrdEvGvIb rm (.ofNum x) imm, bs)
  | 0xD => withRM z bs fun x rm bs => .ok (.shrdEvGvCl rm (.ofNum x), bs)
  | 0xF => withRM z bs fun x rm bs => .ok (.imulGvEv (.ofNum x) rm, bs)
  | _ => invalid bs

/-- Opcodes 0F B0 to 0F BF (30 R290). -/
def row0FB (l : Nat) (z : Sizes) (bs : List Byte) : Dec :=
  match l with
  | 0x2 => withMem z bs fun x mem bs => .ok (.lssGvMp (.ofNum x) mem, bs)
  | 0x3 => withRM z bs fun x rm bs => .ok (.btrEvGv rm (.ofNum x), bs)
  | 0x4 => withMem z bs fun x mem bs => .ok (.lfsGvMp (.ofNum x) mem, bs)
  | 0x5 => withMem z bs fun x mem bs => .ok (.lgsGvMp (.ofNum x) mem, bs)
  | 0x6 => withRM z bs fun x rm bs => .ok (.movzxGvEb (.ofNum x) rm, bs)
  | 0x7 => withRM z bs fun x rm bs => .ok (.movzxGvEw (.ofNum x) rm, bs)
  | 0xA => group0FBA z bs
  | 0xB => withRM z bs fun x rm bs => .ok (.btcEvGv rm (.ofNum x), bs)
  | 0xC => withRM z bs fun x rm bs => .ok (.bsfGvEv (.ofNum x) rm, bs)
  | 0xD => withRM z bs fun x rm bs => .ok (.bsrGvEv (.ofNum x) rm, bs)
  | 0xE => withRM z bs fun x rm bs => .ok (.movsxGvEb (.ofNum x) rm, bs)
  | 0xF => withRM z bs fun x rm bs => .ok (.movsxGvEw (.ofNum x) rm, bs)
  | _ => invalid bs

/-- The two-byte map by the high digit `h` and the low digit `l` of the second byte (30 R290). -/
def decode0F (h l : Nat) (z : Sizes) (bs : List Byte) : Dec :=
  match h with
  | 0x0 => row0F0 l z bs
  | 0x2 => row0F2 l z bs
  | 0x8 => withV z.op32 bs fun rel bs => .ok (.jccJv (.ofNum l) rel, bs)
  | 0x9 => withRM z bs fun _ rm bs => .ok (.setccEb (.ofNum l) rm, bs)
  | 0xA => row0FA l z bs
  | 0xB => row0FB l z bs
  | _ => invalid bs

/-! ### The one-byte map (30 R285 to R288) -/

/-- Opcodes 00 to 0F (30 R285). -/
def row0 (l : Nat) (z : Sizes) (bs : List Byte) : Dec :=
  match l with
  | 0x0 => withRM z bs fun x rm bs => .ok (.addEbGb rm (.ofNum x), bs)
  | 0x1 => withRM z bs fun x rm bs => .ok (.addEvGv rm (.ofNum x), bs)
  | 0x2 => withRM z bs fun x rm bs => .ok (.addGbEb (.ofNum x) rm, bs)
  | 0x3 => withRM z bs fun x rm bs => .ok (.addGvEv (.ofNum x) rm, bs)
  | 0x4 => withByte bs fun imm bs => .ok (.addAlIb imm, bs)
  | 0x5 => withV z.op32 bs fun imm bs => .ok (.addEaxIv imm, bs)
  | 0x6 => .ok (.pushEs, bs)
  | 0x7 => .ok (.popEs, bs)
  | 0x8 => withRM z bs fun x rm bs => .ok (.orEbGb rm (.ofNum x), bs)
  | 0x9 => withRM z bs fun x rm bs => .ok (.orEvGv rm (.ofNum x), bs)
  | 0xA => withRM z bs fun x rm bs => .ok (.orGbEb (.ofNum x) rm, bs)
  | 0xB => withRM z bs fun x rm bs => .ok (.orGvEv (.ofNum x) rm, bs)
  | 0xC => withByte bs fun imm bs => .ok (.orAlIb imm, bs)
  | 0xD => withV z.op32 bs fun imm bs => .ok (.orEaxIv imm, bs)
  | 0xE => .ok (.pushCs, bs)
  | _ => withByte bs fun b bs => decode0F (b.toNat / 16) (b.toNat % 16) z bs

/-- Opcodes 10 to 1F (30 R285). -/
def row1 (l : Nat) (z : Sizes) (bs : List Byte) : Dec :=
  match l with
  | 0x0 => withRM z bs fun x rm bs => .ok (.adcEbGb rm (.ofNum x), bs)
  | 0x1 => withRM z bs fun x rm bs => .ok (.adcEvGv rm (.ofNum x), bs)
  | 0x2 => withRM z bs fun x rm bs => .ok (.adcGbEb (.ofNum x) rm, bs)
  | 0x3 => withRM z bs fun x rm bs => .ok (.adcGvEv (.ofNum x) rm, bs)
  | 0x4 => withByte bs fun imm bs => .ok (.adcAlIb imm, bs)
  | 0x5 => withV z.op32 bs fun imm bs => .ok (.adcEaxIv imm, bs)
  | 0x6 => .ok (.pushSs, bs)
  | 0x7 => .ok (.popSs, bs)
  | 0x8 => withRM z bs fun x rm bs => .ok (.sbbEbGb rm (.ofNum x), bs)
  | 0x9 => withRM z bs fun x rm bs => .ok (.sbbEvGv rm (.ofNum x), bs)
  | 0xA => withRM z bs fun x rm bs => .ok (.sbbGbEb (.ofNum x) rm, bs)
  | 0xB => withRM z bs fun x rm bs => .ok (.sbbGvEv (.ofNum x) rm, bs)
  | 0xC => withByte bs fun imm bs => .ok (.sbbAlIb imm, bs)
  | 0xD => withV z.op32 bs fun imm bs => .ok (.sbbEaxIv imm, bs)
  | 0xE => .ok (.pushDs, bs)
  | _ => .ok (.popDs, bs)

/-- Opcodes 20 to 2F (30 R285). -/
def row2 (l : Nat) (z : Sizes) (bs : List Byte) : Dec :=
  match l with
  | 0x0 => withRM z bs fun x rm bs => .ok (.andEbGb rm (.ofNum x), bs)
  | 0x1 => withRM z bs fun x rm bs => .ok (.andEvGv rm (.ofNum x), bs)
  | 0x2 => withRM z bs fun x rm bs => .ok (.andGbEb (.ofNum x) rm, bs)
  | 0x3 => withRM z bs fun x rm bs => .ok (.andGvEv (.ofNum x) rm, bs)
  | 0x4 => withByte bs fun imm bs => .ok (.andAlIb imm, bs)
  | 0x5 => withV z.op32 bs fun imm bs => .ok (.andEaxIv imm, bs)
  | 0x6 => .ok (.esPrefix, bs)
  | 0x7 => .ok (.daa, bs)
  | 0x8 => withRM z bs fun x rm bs => .ok (.subEbGb rm (.ofNum x), bs)
  | 0x9 => withRM z bs fun x rm bs => .ok (.subEvGv rm (.ofNum x), bs)
  | 0xA => withRM z bs fun x rm bs => .ok (.subGbEb (.ofNum x) rm, bs)
  | 0xB => withRM z bs fun x rm bs => .ok (.subGvEv (.ofNum x) rm, bs)
  | 0xC => withByte bs fun imm bs => .ok (.subAlIb imm, bs)
  | 0xD => withV z.op32 bs fun imm bs => .ok (.subEaxIv imm, bs)
  | 0xE => .ok (.csPrefix, bs)
  | _ => .ok (.das, bs)

/-- Opcodes 30 to 3F (30 R285). -/
def row3 (l : Nat) (z : Sizes) (bs : List Byte) : Dec :=
  match l with
  | 0x0 => withRM z bs fun x rm bs => .ok (.xorEbGb rm (.ofNum x), bs)
  | 0x1 => withRM z bs fun x rm bs => .ok (.xorEvGv rm (.ofNum x), bs)
  | 0x2 => withRM z bs fun x rm bs => .ok (.xorGbEb (.ofNum x) rm, bs)
  | 0x3 => withRM z bs fun x rm bs => .ok (.xorGvEv (.ofNum x) rm, bs)
  | 0x4 => withByte bs fun imm bs => .ok (.xorAlIb imm, bs)
  | 0x5 => withV z.op32 bs fun imm bs => .ok (.xorEaxIv imm, bs)
  | 0x6 => .ok (.ssPrefix, bs)
  | 0x7 => .ok (.aaa, bs)
  | 0x8 => withRM z bs fun x rm bs => .ok (.cmpEbGb rm (.ofNum x), bs)
  | 0x9 => withRM z bs fun x rm bs => .ok (.cmpEvGv rm (.ofNum x), bs)
  | 0xA => withRM z bs fun x rm bs => .ok (.cmpGbEb (.ofNum x) rm, bs)
  | 0xB => withRM z bs fun x rm bs => .ok (.cmpGvEv (.ofNum x) rm, bs)
  | 0xC => withByte bs fun imm bs => .ok (.cmpAlIb imm, bs)
  | 0xD => withV z.op32 bs fun imm bs => .ok (.cmpEaxIv imm, bs)
  | 0xE => .ok (.dsPrefix, bs)
  | _ => .ok (.aas, bs)

/-- Opcodes 60 to 6F (30 R286). -/
def row6 (l : Nat) (z : Sizes) (bs : List Byte) : Dec :=
  match l with
  | 0x0 => .ok (.pusha, bs)
  | 0x1 => .ok (.popa, bs)
  | 0x2 => withMem z bs fun x mem bs => .ok (.boundGvMa (.ofNum x) mem, bs)
  | 0x3 => withRM z bs fun x rm bs => .ok (.arplEwGw rm (.ofNum x), bs)
  | 0x4 => .ok (.fsPrefix, bs)
  | 0x5 => .ok (.gsPrefix, bs)
  | 0x6 => .ok (.opSizePrefix, bs)
  | 0x7 => .ok (.addrSizePrefix, bs)
  | 0x8 => withV z.op32 bs fun imm bs => .ok (.pushIv imm, bs)
  | 0x9 => withRM z bs fun x rm bs => withV z.op32 bs fun imm bs => .ok (.imulGvEvIv (.ofNum x) rm imm, bs)
  | 0xA => withByte bs fun imm bs => .ok (.pushIb imm, bs)
  | 0xB => withRM z bs fun x rm bs => withByte bs fun imm bs => .ok (.imulGvEvIb (.ofNum x) rm imm, bs)
  | 0xC => .ok (.insb, bs)
  | 0xD => .ok (.insv, bs)
  | 0xE => .ok (.outsb, bs)
  | _ => .ok (.outsv, bs)

/-- Opcodes 80 to 8F (30 R287). -/
def row8 (l : Nat) (z : Sizes) (bs : List Byte) : Dec :=
  match l with
  | 0x0 => group80 z bs
  | 0x1 => group81 z bs
  | 0x3 => group83 z bs
  | 0x4 => withRM z bs fun x rm bs => .ok (.testEbGb rm (.ofNum x), bs)
  | 0x5 => withRM z bs fun x rm bs => .ok (.testEvGv rm (.ofNum x), bs)
  | 0x6 => withRM z bs fun x rm bs => .ok (.xchgEbGb rm (.ofNum x), bs)
  | 0x7 => withRM z bs fun x rm bs => .ok (.xchgEvGv rm (.ofNum x), bs)
  | 0x8 => withRM z bs fun x rm bs => .ok (.movEbGb rm (.ofNum x), bs)
  | 0x9 => withRM z bs fun x rm bs => .ok (.movEvGv rm (.ofNum x), bs)
  | 0xA => withRM z bs fun x rm bs => .ok (.movGbEb (.ofNum x) rm, bs)
  | 0xB => withRM z bs fun x rm bs => .ok (.movGvEv (.ofNum x) rm, bs)
  | 0xC => withRM z bs fun x rm bs => withSeg x bs fun seg => .ok (.movEwSw rm seg, bs)
  | 0xD => withMem z bs fun x mem bs => .ok (.leaGvM (.ofNum x) mem, bs)
  | 0xE => withRM z bs fun x rm bs => withLoadSeg x bs fun seg => .ok (.movSwEw seg rm, bs)
  | 0xF => group8F z bs
  | _ => invalid bs

/-- Opcodes 90 to 9F (30 R287). -/
def row9 (l : Nat) (z : Sizes) (bs : List Byte) : Dec :=
  match l with
  | 0x0 => .ok (.nop, bs)
  | 0x1 => .ok (xchgReg .ecx, bs)
  | 0x2 => .ok (xchgReg .edx, bs)
  | 0x3 => .ok (xchgReg .ebx, bs)
  | 0x4 => .ok (xchgReg .esp, bs)
  | 0x5 => .ok (xchgReg .ebp, bs)
  | 0x6 => .ok (xchgReg .esi, bs)
  | 0x7 => .ok (xchgReg .edi, bs)
  | 0x8 => .ok (.cbw, bs)
  | 0x9 => .ok (.cwd, bs)
  | 0xA => withV z.op32 bs fun off bs => with16 bs fun sel bs => .ok (.callFarAp off sel, bs)
  | 0xB => .ok (.wait, bs)
  | 0xC => .ok (.pushf, bs)
  | 0xD => .ok (.popf, bs)
  | 0xE => .ok (.sahf, bs)
  | _ => .ok (.lahf, bs)

/-- Opcodes A0 to AF (30 R287). -/
def rowA (l : Nat) (z : Sizes) (bs : List Byte) : Dec :=
  match l with
  | 0x0 => withV z.ad32 bs fun off bs => .ok (.movAlOb off, bs)
  | 0x1 => withV z.ad32 bs fun off bs => .ok (.movEaxOv off, bs)
  | 0x2 => withV z.ad32 bs fun off bs => .ok (.movObAl off, bs)
  | 0x3 => withV z.ad32 bs fun off bs => .ok (.movOvEax off, bs)
  | 0x4 => .ok (.movsb, bs)
  | 0x5 => .ok (.movsv, bs)
  | 0x6 => .ok (.cmpsb, bs)
  | 0x7 => .ok (.cmpsv, bs)
  | 0x8 => withByte bs fun imm bs => .ok (.testAlIb imm, bs)
  | 0x9 => withV z.op32 bs fun imm bs => .ok (.testEaxIv imm, bs)
  | 0xA => .ok (.stosb, bs)
  | 0xB => .ok (.stosv, bs)
  | 0xC => .ok (.lodsb, bs)
  | 0xD => .ok (.lodsv, bs)
  | 0xE => .ok (.scasb, bs)
  | _ => .ok (.scasv, bs)

/-- Opcodes C0 to CF (30 R288). -/
def rowC (l : Nat) (z : Sizes) (bs : List Byte) : Dec :=
  match l with
  | 0x0 => groupC0 z bs
  | 0x1 => groupC1 z bs
  | 0x2 => with16 bs fun imm bs => .ok (.retIw imm, bs)
  | 0x3 => .ok (.ret, bs)
  | 0x4 => withMem z bs fun x mem bs => .ok (.lesGvMp (.ofNum x) mem, bs)
  | 0x5 => withMem z bs fun x mem bs => .ok (.ldsGvMp (.ofNum x) mem, bs)
  | 0x6 => groupC6 z bs
  | 0x7 => groupC7 z bs
  | 0x8 => with16 bs fun imm bs => withByte bs fun imm2 bs => .ok (.enterIwIb imm imm2, bs)
  | 0x9 => .ok (.leave, bs)
  | 0xA => with16 bs fun imm bs => .ok (.retfIw imm, bs)
  | 0xB => .ok (.retf, bs)
  | 0xC => .ok (.int3, bs)
  | 0xD => withByte bs fun imm bs => .ok (.intIb imm, bs)
  | 0xE => .ok (.into, bs)
  | _ => .ok (.iret, bs)

/-- Opcodes D0 to DF (30 R288). -/
def rowD (l : Nat) (z : Sizes) (bs : List Byte) : Dec :=
  match l with
  | 0x0 => groupD0 z bs
  | 0x1 => groupD1 z bs
  | 0x2 => groupD2 z bs
  | 0x3 => groupD3 z bs
  | 0x4 => withByte bs fun imm bs => .ok (.aamIb imm, bs)
  | 0x5 => withByte bs fun imm bs => .ok (.aadIb imm, bs)
  | 0x7 => .ok (.xlat, bs)
  | 0x8 => decodeEsc 0#3 z bs
  | 0x9 => decodeEsc 1#3 z bs
  | 0xA => decodeEsc 2#3 z bs
  | 0xB => decodeEsc 3#3 z bs
  | 0xC => decodeEsc 4#3 z bs
  | 0xD => decodeEsc 5#3 z bs
  | 0xE => decodeEsc 6#3 z bs
  | 0xF => decodeEsc 7#3 z bs
  | _ => invalid bs

/-- Opcodes E0 to EF (30 R288). -/
def rowE (l : Nat) (z : Sizes) (bs : List Byte) : Dec :=
  match l with
  | 0x0 => withByte bs fun rel bs => .ok (.loopneJb rel, bs)
  | 0x1 => withByte bs fun rel bs => .ok (.loopeJb rel, bs)
  | 0x2 => withByte bs fun rel bs => .ok (.loopJb rel, bs)
  | 0x3 => withByte bs fun rel bs => .ok (.jcxzJb rel, bs)
  | 0x4 => withByte bs fun imm bs => .ok (.inAlIb imm, bs)
  | 0x5 => withByte bs fun imm bs => .ok (.inEaxIb imm, bs)
  | 0x6 => withByte bs fun imm bs => .ok (.outIbAl imm, bs)
  | 0x7 => withByte bs fun imm bs => .ok (.outIbEax imm, bs)
  | 0x8 => withV z.op32 bs fun rel bs => .ok (.callJv rel, bs)
  | 0x9 => withV z.op32 bs fun rel bs => .ok (.jmpJv rel, bs)
  | 0xA => withV z.op32 bs fun off bs => with16 bs fun sel bs => .ok (.jmpFarAp off sel, bs)
  | 0xB => withByte bs fun rel bs => .ok (.jmpJb rel, bs)
  | 0xC => .ok (.inAlDx, bs)
  | 0xD => .ok (.inEaxDx, bs)
  | 0xE => .ok (.outDxAl, bs)
  | _ => .ok (.outDxEax, bs)

/-- Opcodes F0 to FF (30 R288). -/
def rowF (l : Nat) (z : Sizes) (bs : List Byte) : Dec :=
  match l with
  | 0x0 => .ok (.lockPrefix, bs)
  | 0x2 => .ok (.repnePrefix, bs)
  | 0x3 => .ok (.repPrefix, bs)
  | 0x4 => .ok (.hlt, bs)
  | 0x5 => .ok (.cmc, bs)
  | 0x6 => groupF6 z bs
  | 0x7 => groupF7 z bs
  | 0x8 => .ok (.clc, bs)
  | 0x9 => .ok (.stc, bs)
  | 0xA => .ok (.cli, bs)
  | 0xB => .ok (.sti, bs)
  | 0xC => .ok (.cld, bs)
  | 0xD => .ok (.std, bs)
  | 0xE => groupFE z bs
  | 0xF => groupFF z bs
  | _ => invalid bs

/-- The one-byte map by the high digit `h` and the low digit `l` of the opcode (30 R285 to R288). -/
def decode1 (h l : Nat) (z : Sizes) (bs : List Byte) : Dec :=
  match h with
  | 0x0 => row0 l z bs
  | 0x1 => row1 l z bs
  | 0x2 => row2 l z bs
  | 0x3 => row3 l z bs
  | 0x4 => if l < 8 then .ok (incReg (.ofNum (.ofNat 3 l)), bs) else .ok (decReg (.ofNum (.ofNat 3 l)), bs)
  | 0x5 => if l < 8 then .ok (.pushR (.ofNum (.ofNat 3 l)), bs) else .ok (.popR (.ofNum (.ofNat 3 l)), bs)
  | 0x6 => row6 l z bs
  | 0x7 => withByte bs fun rel bs => .ok (.jccJb (.ofNum l) rel, bs)
  | 0x8 => row8 l z bs
  | 0x9 => row9 l z bs
  | 0xA => rowA l z bs
  | 0xB => if l < 8 then withByte bs fun imm bs => .ok (.movR8Ib (.ofNum (.ofNat 3 l)) imm, bs)
    else withV z.op32 bs fun imm bs => .ok (.movRIv (.ofNum (.ofNat 3 l)) imm, bs)
  | 0xC => rowC l z bs
  | 0xD => rowD l z bs
  | 0xE => rowE l z bs
  | _ => rowF l z bs

/-- The instruction at the head of `bs`, and the bytes after it (30 R310 steps 3, 5 and 6). -/
def decode (z : Sizes) (bs : List Byte) : Dec :=
  withByte bs fun b bs => decode1 (b.toNat / 16) (b.toNat % 16) z bs

/-! ### The encoder, from the same tables -/

/-- The low and high bytes of little-endian fields (20 R135). -/
def enc16 (v : Half) : List Byte := [v.extractLsb' 0 8, v.extractLsb' 8 8]

def enc32 (v : Word) : List Byte :=
  [v.extractLsb' 0 8, v.extractLsb' 8 8, v.extractLsb' 16 8, v.extractLsb' 24 8]

def encV : ImmV → List Byte
  | .v16 v => enc16 v
  | .v32 v => enc32 v

/-- A ModRM or SIB byte (30 R270, R273). -/
def modrm (mod : BitVec 2) (reg rm : BitVec 3) : Byte := mod ++ reg ++ rm

/-- An opcode byte whose low digits hold a field. -/
def plus (base : Byte) (n : BitVec 4) : Byte := base + n.zeroExtend 8

def RegNo.num4 (r : RegNo) : BitVec 4 := r.num.zeroExtend 4

def Disp.mod {w : Nat} : Disp w → BitVec 2
  | .none => 0#2
  | .d8 _ => 1#2
  | .full _ => 2#2

def Disp.bytes16 : Disp 16 → List Byte
  | .none => []
  | .d8 d => [d]
  | .full d => enc16 d

def Disp.bytes32 : Disp 32 → List Byte
  | .none => []
  | .d8 d => [d]
  | .full d => enc32 d

/-- ModRM, SIB and displacement of a memory operand (30 R271 to R273). -/
def encMem (reg : BitVec 3) : Mem → List Byte
  | .ind16 base d => modrm d.mod reg base.num :: d.bytes16
  | .dir16 off => modrm 0#2 reg 6#3 :: enc16 off
  | .ind32 base d => modrm d.mod reg base.num :: d.bytes32
  | .dir32 off => modrm 0#2 reg 5#3 :: enc32 off
  | .sib scale index base d => modrm d.mod reg 4#3 :: modrm scale index.num base.num :: d.bytes32
  | .sibDisp scale index off => modrm 0#2 reg 4#3 :: modrm scale index.num 5#3 :: enc32 off

def encRM (reg : BitVec 3) : RM → List Byte
  | .reg r => [modrm 3#2 reg r.num]
  | .mem m => encMem reg m

/-- The bytes of an instruction, without prefixes (30 R285 to R295). -/
def encode : Instr → List Byte
  | .movEbGb rm reg => [0x88#8] ++ encRM reg.num rm
  | .movEvGv rm reg => [0x89#8] ++ encRM reg.num rm
  | .movGbEb reg rm => [0x8A#8] ++ encRM reg.num rm
  | .movGvEv reg rm => [0x8B#8] ++ encRM reg.num rm
  | .movEbIb rm imm => [0xC6#8] ++ encRM 0#3 rm ++ [imm]
  | .movEvIv rm imm => [0xC7#8] ++ encRM 0#3 rm ++ encV imm
  | .movR8Ib reg imm => [plus 0xB0#8 reg.num4] ++ [imm]
  | .movRIv reg imm => [plus 0xB8#8 reg.num4] ++ encV imm
  | .movAlOb off => [0xA0#8] ++ encV off
  | .movEaxOv off => [0xA1#8] ++ encV off
  | .movObAl off => [0xA2#8] ++ encV off
  | .movOvEax off => [0xA3#8] ++ encV off
  | .movSwEw seg rm => [0x8E#8] ++ encRM seg.num rm
  | .movEwSw rm seg => [0x8C#8] ++ encRM seg.num rm
  | .movzxGvEb reg rm => [0x0F#8, 0xB6#8] ++ encRM reg.num rm
  | .movzxGvEw reg rm => [0x0F#8, 0xB7#8] ++ encRM reg.num rm
  | .movsxGvEb reg rm => [0x0F#8, 0xBE#8] ++ encRM reg.num rm
  | .movsxGvEw reg rm => [0x0F#8, 0xBF#8] ++ encRM reg.num rm
  | .xchgEbGb rm reg => [0x86#8] ++ encRM reg.num rm
  | .xchgEvGv rm reg => [0x87#8] ++ encRM reg.num rm
  | .pushR reg => [plus 0x50#8 reg.num4]
  | .pushEv rm => [0xFF#8] ++ encRM 6#3 rm
  | .pushIv imm => [0x68#8] ++ encV imm
  | .pushIb imm => [0x6A#8] ++ [imm]
  | .popR reg => [plus 0x58#8 reg.num4]
  | .popEv rm => [0x8F#8] ++ encRM 0#3 rm
  | .leaGvM reg mem => [0x8D#8] ++ encMem reg.num mem
  | .ldsGvMp reg mem => [0xC5#8] ++ encMem reg.num mem
  | .lesGvMp reg mem => [0xC4#8] ++ encMem reg.num mem
  | .lfsGvMp reg mem => [0x0F#8, 0xB4#8] ++ encMem reg.num mem
  | .lgsGvMp reg mem => [0x0F#8, 0xB5#8] ++ encMem reg.num mem
  | .lssGvMp reg mem => [0x0F#8, 0xB2#8] ++ encMem reg.num mem
  | .enterIwIb imm imm2 => [0xC8#8] ++ enc16 imm ++ [imm2]
  | .setccEb cc rm => [0x0F#8, plus 0x90#8 cc.num4] ++ encRM 0#3 rm
  | .addEbGb rm reg => [0x00#8] ++ encRM reg.num rm
  | .addEvGv rm reg => [0x01#8] ++ encRM reg.num rm
  | .addGbEb reg rm => [0x02#8] ++ encRM reg.num rm
  | .addGvEv reg rm => [0x03#8] ++ encRM reg.num rm
  | .addAlIb imm => [0x04#8] ++ [imm]
  | .addEaxIv imm => [0x05#8] ++ encV imm
  | .addEbIb rm imm => [0x80#8] ++ encRM 0#3 rm ++ [imm]
  | .addEvIv rm imm => [0x81#8] ++ encRM 0#3 rm ++ encV imm
  | .addEvIb rm imm => [0x83#8] ++ encRM 0#3 rm ++ [imm]
  | .adcEbGb rm reg => [0x10#8] ++ encRM reg.num rm
  | .adcEvGv rm reg => [0x11#8] ++ encRM reg.num rm
  | .adcGbEb reg rm => [0x12#8] ++ encRM reg.num rm
  | .adcGvEv reg rm => [0x13#8] ++ encRM reg.num rm
  | .adcAlIb imm => [0x14#8] ++ [imm]
  | .adcEaxIv imm => [0x15#8] ++ encV imm
  | .adcEbIb rm imm => [0x80#8] ++ encRM 2#3 rm ++ [imm]
  | .adcEvIv rm imm => [0x81#8] ++ encRM 2#3 rm ++ encV imm
  | .adcEvIb rm imm => [0x83#8] ++ encRM 2#3 rm ++ [imm]
  | .subEbGb rm reg => [0x28#8] ++ encRM reg.num rm
  | .subEvGv rm reg => [0x29#8] ++ encRM reg.num rm
  | .subGbEb reg rm => [0x2A#8] ++ encRM reg.num rm
  | .subGvEv reg rm => [0x2B#8] ++ encRM reg.num rm
  | .subAlIb imm => [0x2C#8] ++ [imm]
  | .subEaxIv imm => [0x2D#8] ++ encV imm
  | .subEbIb rm imm => [0x80#8] ++ encRM 5#3 rm ++ [imm]
  | .subEvIv rm imm => [0x81#8] ++ encRM 5#3 rm ++ encV imm
  | .subEvIb rm imm => [0x83#8] ++ encRM 5#3 rm ++ [imm]
  | .sbbEbGb rm reg => [0x18#8] ++ encRM reg.num rm
  | .sbbEvGv rm reg => [0x19#8] ++ encRM reg.num rm
  | .sbbGbEb reg rm => [0x1A#8] ++ encRM reg.num rm
  | .sbbGvEv reg rm => [0x1B#8] ++ encRM reg.num rm
  | .sbbAlIb imm => [0x1C#8] ++ [imm]
  | .sbbEaxIv imm => [0x1D#8] ++ encV imm
  | .sbbEbIb rm imm => [0x80#8] ++ encRM 3#3 rm ++ [imm]
  | .sbbEvIv rm imm => [0x81#8] ++ encRM 3#3 rm ++ encV imm
  | .sbbEvIb rm imm => [0x83#8] ++ encRM 3#3 rm ++ [imm]
  | .cmpEbGb rm reg => [0x38#8] ++ encRM reg.num rm
  | .cmpEvGv rm reg => [0x39#8] ++ encRM reg.num rm
  | .cmpGbEb reg rm => [0x3A#8] ++ encRM reg.num rm
  | .cmpGvEv reg rm => [0x3B#8] ++ encRM reg.num rm
  | .cmpAlIb imm => [0x3C#8] ++ [imm]
  | .cmpEaxIv imm => [0x3D#8] ++ encV imm
  | .cmpEbIb rm imm => [0x80#8] ++ encRM 7#3 rm ++ [imm]
  | .cmpEvIv rm imm => [0x81#8] ++ encRM 7#3 rm ++ encV imm
  | .cmpEvIb rm imm => [0x83#8] ++ encRM 7#3 rm ++ [imm]
  | .incEb rm => [0xFE#8] ++ encRM 0#3 rm
  | .incEv rm => [0xFF#8] ++ encRM 0#3 rm
  | .decEb rm => [0xFE#8] ++ encRM 1#3 rm
  | .decEv rm => [0xFF#8] ++ encRM 1#3 rm
  | .notEb rm => [0xF6#8] ++ encRM 2#3 rm
  | .notEv rm => [0xF7#8] ++ encRM 2#3 rm
  | .negEb rm => [0xF6#8] ++ encRM 3#3 rm
  | .negEv rm => [0xF7#8] ++ encRM 3#3 rm
  | .mulEb rm => [0xF6#8] ++ encRM 4#3 rm
  | .mulEv rm => [0xF7#8] ++ encRM 4#3 rm
  | .imulEb rm => [0xF6#8] ++ encRM 5#3 rm
  | .imulEv rm => [0xF7#8] ++ encRM 5#3 rm
  | .divEb rm => [0xF6#8] ++ encRM 6#3 rm
  | .divEv rm => [0xF7#8] ++ encRM 6#3 rm
  | .idivEb rm => [0xF6#8] ++ encRM 7#3 rm
  | .idivEv rm => [0xF7#8] ++ encRM 7#3 rm
  | .imulGvEv reg rm => [0x0F#8, 0xAF#8] ++ encRM reg.num rm
  | .imulGvEvIv reg rm imm => [0x69#8] ++ encRM reg.num rm ++ encV imm
  | .imulGvEvIb reg rm imm => [0x6B#8] ++ encRM reg.num rm ++ [imm]
  | .andEbGb rm reg => [0x20#8] ++ encRM reg.num rm
  | .andEvGv rm reg => [0x21#8] ++ encRM reg.num rm
  | .andGbEb reg rm => [0x22#8] ++ encRM reg.num rm
  | .andGvEv reg rm => [0x23#8] ++ encRM reg.num rm
  | .andAlIb imm => [0x24#8] ++ [imm]
  | .andEaxIv imm => [0x25#8] ++ encV imm
  | .andEbIb rm imm => [0x80#8] ++ encRM 4#3 rm ++ [imm]
  | .andEvIv rm imm => [0x81#8] ++ encRM 4#3 rm ++ encV imm
  | .andEvIb rm imm => [0x83#8] ++ encRM 4#3 rm ++ [imm]
  | .orEbGb rm reg => [0x08#8] ++ encRM reg.num rm
  | .orEvGv rm reg => [0x09#8] ++ encRM reg.num rm
  | .orGbEb reg rm => [0x0A#8] ++ encRM reg.num rm
  | .orGvEv reg rm => [0x0B#8] ++ encRM reg.num rm
  | .orAlIb imm => [0x0C#8] ++ [imm]
  | .orEaxIv imm => [0x0D#8] ++ encV imm
  | .orEbIb rm imm => [0x80#8] ++ encRM 1#3 rm ++ [imm]
  | .orEvIv rm imm => [0x81#8] ++ encRM 1#3 rm ++ encV imm
  | .orEvIb rm imm => [0x83#8] ++ encRM 1#3 rm ++ [imm]
  | .xorEbGb rm reg => [0x30#8] ++ encRM reg.num rm
  | .xorEvGv rm reg => [0x31#8] ++ encRM reg.num rm
  | .xorGbEb reg rm => [0x32#8] ++ encRM reg.num rm
  | .xorGvEv reg rm => [0x33#8] ++ encRM reg.num rm
  | .xorAlIb imm => [0x34#8] ++ [imm]
  | .xorEaxIv imm => [0x35#8] ++ encV imm
  | .xorEbIb rm imm => [0x80#8] ++ encRM 6#3 rm ++ [imm]
  | .xorEvIv rm imm => [0x81#8] ++ encRM 6#3 rm ++ encV imm
  | .xorEvIb rm imm => [0x83#8] ++ encRM 6#3 rm ++ [imm]
  | .testEbGb rm reg => [0x84#8] ++ encRM reg.num rm
  | .testEvGv rm reg => [0x85#8] ++ encRM reg.num rm
  | .testAlIb imm => [0xA8#8] ++ [imm]
  | .testEaxIv imm => [0xA9#8] ++ encV imm
  | .testEbIb rm imm => [0xF6#8] ++ encRM 0#3 rm ++ [imm]
  | .testEvIv rm imm => [0xF7#8] ++ encRM 0#3 rm ++ encV imm
  | .rolEb1 rm => [0xD0#8] ++ encRM 0#3 rm
  | .rolEv1 rm => [0xD1#8] ++ encRM 0#3 rm
  | .rolEbCl rm => [0xD2#8] ++ encRM 0#3 rm
  | .rolEvCl rm => [0xD3#8] ++ encRM 0#3 rm
  | .rolEbIb rm imm => [0xC0#8] ++ encRM 0#3 rm ++ [imm]
  | .rolEvIb rm imm => [0xC1#8] ++ encRM 0#3 rm ++ [imm]
  | .rorEb1 rm => [0xD0#8] ++ encRM 1#3 rm
  | .rorEv1 rm => [0xD1#8] ++ encRM 1#3 rm
  | .rorEbCl rm => [0xD2#8] ++ encRM 1#3 rm
  | .rorEvCl rm => [0xD3#8] ++ encRM 1#3 rm
  | .rorEbIb rm imm => [0xC0#8] ++ encRM 1#3 rm ++ [imm]
  | .rorEvIb rm imm => [0xC1#8] ++ encRM 1#3 rm ++ [imm]
  | .rclEb1 rm => [0xD0#8] ++ encRM 2#3 rm
  | .rclEv1 rm => [0xD1#8] ++ encRM 2#3 rm
  | .rclEbCl rm => [0xD2#8] ++ encRM 2#3 rm
  | .rclEvCl rm => [0xD3#8] ++ encRM 2#3 rm
  | .rclEbIb rm imm => [0xC0#8] ++ encRM 2#3 rm ++ [imm]
  | .rclEvIb rm imm => [0xC1#8] ++ encRM 2#3 rm ++ [imm]
  | .rcrEb1 rm => [0xD0#8] ++ encRM 3#3 rm
  | .rcrEv1 rm => [0xD1#8] ++ encRM 3#3 rm
  | .rcrEbCl rm => [0xD2#8] ++ encRM 3#3 rm
  | .rcrEvCl rm => [0xD3#8] ++ encRM 3#3 rm
  | .rcrEbIb rm imm => [0xC0#8] ++ encRM 3#3 rm ++ [imm]
  | .rcrEvIb rm imm => [0xC1#8] ++ encRM 3#3 rm ++ [imm]
  | .shlEb1 rm => [0xD0#8] ++ encRM 4#3 rm
  | .shlEv1 rm => [0xD1#8] ++ encRM 4#3 rm
  | .shlEbCl rm => [0xD2#8] ++ encRM 4#3 rm
  | .shlEvCl rm => [0xD3#8] ++ encRM 4#3 rm
  | .shlEbIb rm imm => [0xC0#8] ++ encRM 4#3 rm ++ [imm]
  | .shlEvIb rm imm => [0xC1#8] ++ encRM 4#3 rm ++ [imm]
  | .shrEb1 rm => [0xD0#8] ++ encRM 5#3 rm
  | .shrEv1 rm => [0xD1#8] ++ encRM 5#3 rm
  | .shrEbCl rm => [0xD2#8] ++ encRM 5#3 rm
  | .shrEvCl rm => [0xD3#8] ++ encRM 5#3 rm
  | .shrEbIb rm imm => [0xC0#8] ++ encRM 5#3 rm ++ [imm]
  | .shrEvIb rm imm => [0xC1#8] ++ encRM 5#3 rm ++ [imm]
  | .sarEb1 rm => [0xD0#8] ++ encRM 7#3 rm
  | .sarEv1 rm => [0xD1#8] ++ encRM 7#3 rm
  | .sarEbCl rm => [0xD2#8] ++ encRM 7#3 rm
  | .sarEvCl rm => [0xD3#8] ++ encRM 7#3 rm
  | .sarEbIb rm imm => [0xC0#8] ++ encRM 7#3 rm ++ [imm]
  | .sarEvIb rm imm => [0xC1#8] ++ encRM 7#3 rm ++ [imm]
  | .shldEvGvIb rm reg imm => [0x0F#8, 0xA4#8] ++ encRM reg.num rm ++ [imm]
  | .shldEvGvCl rm reg => [0x0F#8, 0xA5#8] ++ encRM reg.num rm
  | .shrdEvGvIb rm reg imm => [0x0F#8, 0xAC#8] ++ encRM reg.num rm ++ [imm]
  | .shrdEvGvCl rm reg => [0x0F#8, 0xAD#8] ++ encRM reg.num rm
  | .btEvGv rm reg => [0x0F#8, 0xA3#8] ++ encRM reg.num rm
  | .btEvIb rm imm => [0x0F#8, 0xBA#8] ++ encRM 4#3 rm ++ [imm]
  | .btsEvGv rm reg => [0x0F#8, 0xAB#8] ++ encRM reg.num rm
  | .btsEvIb rm imm => [0x0F#8, 0xBA#8] ++ encRM 5#3 rm ++ [imm]
  | .btrEvGv rm reg => [0x0F#8, 0xB3#8] ++ encRM reg.num rm
  | .btrEvIb rm imm => [0x0F#8, 0xBA#8] ++ encRM 6#3 rm ++ [imm]
  | .btcEvGv rm reg => [0x0F#8, 0xBB#8] ++ encRM reg.num rm
  | .btcEvIb rm imm => [0x0F#8, 0xBA#8] ++ encRM 7#3 rm ++ [imm]
  | .bsfGvEv reg rm => [0x0F#8, 0xBC#8] ++ encRM reg.num rm
  | .bsrGvEv reg rm => [0x0F#8, 0xBD#8] ++ encRM reg.num rm
  | .aamIb imm => [0xD4#8] ++ [imm]
  | .aadIb imm => [0xD5#8] ++ [imm]
  | .boundGvMa reg mem => [0x62#8] ++ encMem reg.num mem
  | .jmpJb rel => [0xEB#8] ++ [rel]
  | .jmpJv rel => [0xE9#8] ++ encV rel
  | .jmpEv rm => [0xFF#8] ++ encRM 4#3 rm
  | .jccJb cc rel => [plus 0x70#8 cc.num4] ++ [rel]
  | .jccJv cc rel => [0x0F#8, plus 0x80#8 cc.num4] ++ encV rel
  | .jcxzJb rel => [0xE3#8] ++ [rel]
  | .loopJb rel => [0xE2#8] ++ [rel]
  | .loopeJb rel => [0xE1#8] ++ [rel]
  | .loopneJb rel => [0xE0#8] ++ [rel]
  | .callJv rel => [0xE8#8] ++ encV rel
  | .callEv rm => [0xFF#8] ++ encRM 2#3 rm
  | .retIw imm => [0xC2#8] ++ enc16 imm
  | .jmpFarAp off sel => [0xEA#8] ++ encV off ++ enc16 sel
  | .jmpFarMp mem => [0xFF#8] ++ encMem 5#3 mem
  | .callFarAp off sel => [0x9A#8] ++ encV off ++ enc16 sel
  | .callFarMp mem => [0xFF#8] ++ encMem 3#3 mem
  | .retfIw imm => [0xCA#8] ++ enc16 imm
  | .intIb imm => [0xCD#8] ++ [imm]
  | .inAlIb imm => [0xE4#8] ++ [imm]
  | .inEaxIb imm => [0xE5#8] ++ [imm]
  | .outIbAl imm => [0xE6#8] ++ [imm]
  | .outIbEax imm => [0xE7#8] ++ [imm]
  | .sgdtMs mem => [0x0F#8, 0x01#8] ++ encMem 0#3 mem
  | .sidtMs mem => [0x0F#8, 0x01#8] ++ encMem 1#3 mem
  | .lgdtMs mem => [0x0F#8, 0x01#8] ++ encMem 2#3 mem
  | .lidtMs mem => [0x0F#8, 0x01#8] ++ encMem 3#3 mem
  | .smswEw rm => [0x0F#8, 0x01#8] ++ encRM 4#3 rm
  | .lmswEw rm => [0x0F#8, 0x01#8] ++ encRM 6#3 rm
  | .sldtEw rm => [0x0F#8, 0x00#8] ++ encRM 0#3 rm
  | .strEw rm => [0x0F#8, 0x00#8] ++ encRM 1#3 rm
  | .lldtEw rm => [0x0F#8, 0x00#8] ++ encRM 2#3 rm
  | .ltrEw rm => [0x0F#8, 0x00#8] ++ encRM 3#3 rm
  | .verrEw rm => [0x0F#8, 0x00#8] ++ encRM 4#3 rm
  | .verwEw rm => [0x0F#8, 0x00#8] ++ encRM 5#3 rm
  | .larGvEw reg rm => [0x0F#8, 0x02#8] ++ encRM reg.num rm
  | .lslGvEw reg rm => [0x0F#8, 0x03#8] ++ encRM reg.num rm
  | .movRdCd reg cr => [0x0F#8, 0x20#8] ++ encRM cr.num (.reg reg)
  | .movCdRd cr reg => [0x0F#8, 0x22#8] ++ encRM cr.num (.reg reg)
  | .movRdDd reg dr => [0x0F#8, 0x21#8] ++ encRM dr.num (.reg reg)
  | .movDdRd dr reg => [0x0F#8, 0x23#8] ++ encRM dr.num (.reg reg)
  | .movRdTd reg tr => [0x0F#8, 0x24#8] ++ encRM tr.num (.reg reg)
  | .movTdRd tr reg => [0x0F#8, 0x26#8] ++ encRM tr.num (.reg reg)
  | .arplEwGw rm reg => [0x63#8] ++ encRM reg.num rm
  | .esc op ext rm => [plus 0xD8#8 (op.zeroExtend 4)] ++ encRM ext rm
  | .fnstswM mem => [0xDD#8] ++ encMem 7#3 mem
  | .fnstcwM mem => [0xD9#8] ++ encMem 7#3 mem
  | .fsaveM mem => [0xDD#8] ++ encMem 6#3 mem
  | .frstorM mem => [0xDD#8] ++ encMem 4#3 mem
  | .fstenvM mem => [0xD9#8] ++ encMem 6#3 mem
  | .fldcwM mem => [0xD9#8] ++ encMem 5#3 mem
  | .faddM32 mem => [0xD8#8] ++ encMem 0#3 mem
  | .faddM64 mem => [0xDC#8] ++ encMem 0#3 mem
  | .fmulM32 mem => [0xD8#8] ++ encMem 1#3 mem
  | .fmulM64 mem => [0xDC#8] ++ encMem 1#3 mem
  | .xchgEaxEcx => [0x91#8]
  | .xchgEaxEdx => [0x92#8]
  | .xchgEaxEbx => [0x93#8]
  | .xchgEaxEsp => [0x94#8]
  | .xchgEaxEbp => [0x95#8]
  | .xchgEaxEsi => [0x96#8]
  | .xchgEaxEdi => [0x97#8]
  | .pushEs => [0x06#8]
  | .pushCs => [0x0E#8]
  | .pushSs => [0x16#8]
  | .pushDs => [0x1E#8]
  | .pushFs => [0x0F#8, 0xA0#8]
  | .pushGs => [0x0F#8, 0xA8#8]
  | .popEs => [0x07#8]
  | .popSs => [0x17#8]
  | .popDs => [0x1F#8]
  | .popFs => [0x0F#8, 0xA1#8]
  | .popGs => [0x0F#8, 0xA9#8]
  | .pusha => [0x60#8]
  | .popa => [0x61#8]
  | .xlat => [0xD7#8]
  | .cbw => [0x98#8]
  | .cwd => [0x99#8]
  | .lahf => [0x9F#8]
  | .sahf => [0x9E#8]
  | .leave => [0xC9#8]
  | .nop => [0x90#8]
  | .incEax => [0x40#8]
  | .incEcx => [0x41#8]
  | .incEdx => [0x42#8]
  | .incEbx => [0x43#8]
  | .incEsp => [0x44#8]
  | .incEbp => [0x45#8]
  | .incEsi => [0x46#8]
  | .incEdi => [0x47#8]
  | .decEax => [0x48#8]
  | .decEcx => [0x49#8]
  | .decEdx => [0x4A#8]
  | .decEbx => [0x4B#8]
  | .decEsp => [0x4C#8]
  | .decEbp => [0x4D#8]
  | .decEsi => [0x4E#8]
  | .decEdi => [0x4F#8]
  | .daa => [0x27#8]
  | .das => [0x2F#8]
  | .aaa => [0x37#8]
  | .aas => [0x3F#8]
  | .ret => [0xC3#8]
  | .retf => [0xCB#8]
  | .int3 => [0xCC#8]
  | .into => [0xCE#8]
  | .iret => [0xCF#8]
  | .movsb => [0xA4#8]
  | .movsv => [0xA5#8]
  | .cmpsb => [0xA6#8]
  | .cmpsv => [0xA7#8]
  | .stosb => [0xAA#8]
  | .stosv => [0xAB#8]
  | .lodsb => [0xAC#8]
  | .lodsv => [0xAD#8]
  | .scasb => [0xAE#8]
  | .scasv => [0xAF#8]
  | .insb => [0x6C#8]
  | .insv => [0x6D#8]
  | .outsb => [0x6E#8]
  | .outsv => [0x6F#8]
  | .repPrefix => [0xF3#8]
  | .repnePrefix => [0xF2#8]
  | .inAlDx => [0xEC#8]
  | .inEaxDx => [0xED#8]
  | .outDxAl => [0xEE#8]
  | .outDxEax => [0xEF#8]
  | .clc => [0xF8#8]
  | .stc => [0xF9#8]
  | .cmc => [0xF5#8]
  | .cld => [0xFC#8]
  | .std => [0xFD#8]
  | .cli => [0xFA#8]
  | .sti => [0xFB#8]
  | .pushf => [0x9C#8]
  | .popf => [0x9D#8]
  | .clts => [0x0F#8, 0x06#8]
  | .hlt => [0xF4#8]
  | .wait => [0x9B#8]
  | .fninit => [0xDB#8, 0xE3#8]
  | .fld1 => [0xD9#8, 0xE8#8]
  | .fldz => [0xD9#8, 0xEE#8]
  | .fdivp => [0xDE#8, 0xF9#8]
  | .fldSt0 => [0xD9#8, 0xC0#8]
  | .fchs => [0xD9#8, 0xE0#8]
  | .fcompp => [0xDE#8, 0xD9#8]
  | .fsetpm => [0xDB#8, 0xE4#8]
  | .fnstswAx => [0xDF#8, 0xE0#8]
  | .fnclex => [0xDB#8, 0xE2#8]
  | .fsqrt => [0xD9#8, 0xFA#8]
  | .opSizePrefix => [0x66#8]
  | .addrSizePrefix => [0x67#8]
  | .lockPrefix => [0xF0#8]
  | .esPrefix => [0x26#8]
  | .csPrefix => [0x2E#8]
  | .ssPrefix => [0x36#8]
  | .dsPrefix => [0x3E#8]
  | .fsPrefix => [0x64#8]
  | .gsPrefix => [0x65#8]
  | .faddStSt0 => [0xD8#8, 0xC0#8]
  | .faddStSt1 => [0xD8#8, 0xC1#8]
  | .faddStSt2 => [0xD8#8, 0xC2#8]
  | .faddStSt3 => [0xD8#8, 0xC3#8]
  | .faddStSt4 => [0xD8#8, 0xC4#8]
  | .faddStSt5 => [0xD8#8, 0xC5#8]
  | .faddStSt6 => [0xD8#8, 0xC6#8]
  | .faddStSt7 => [0xD8#8, 0xC7#8]
  | .faddSt0St => [0xDC#8, 0xC0#8]
  | .faddSt1St => [0xDC#8, 0xC1#8]
  | .faddSt2St => [0xDC#8, 0xC2#8]
  | .faddSt3St => [0xDC#8, 0xC3#8]
  | .faddSt4St => [0xDC#8, 0xC4#8]
  | .faddSt5St => [0xDC#8, 0xC5#8]
  | .faddSt6St => [0xDC#8, 0xC6#8]
  | .faddSt7St => [0xDC#8, 0xC7#8]
  | .fmulStSt0 => [0xD8#8, 0xC8#8]
  | .fmulStSt1 => [0xD8#8, 0xC9#8]
  | .fmulStSt2 => [0xD8#8, 0xCA#8]
  | .fmulStSt3 => [0xD8#8, 0xCB#8]
  | .fmulStSt4 => [0xD8#8, 0xCC#8]
  | .fmulStSt5 => [0xD8#8, 0xCD#8]
  | .fmulStSt6 => [0xD8#8, 0xCE#8]
  | .fmulStSt7 => [0xD8#8, 0xCF#8]
  | .fmulSt0St => [0xDC#8, 0xC8#8]
  | .fmulSt1St => [0xDC#8, 0xC9#8]
  | .fmulSt2St => [0xDC#8, 0xCA#8]
  | .fmulSt3St => [0xDC#8, 0xCB#8]
  | .fmulSt4St => [0xDC#8, 0xCC#8]
  | .fmulSt5St => [0xDC#8, 0xCD#8]
  | .fmulSt6St => [0xDC#8, 0xCE#8]
  | .fmulSt7St => [0xDC#8, 0xCF#8]

/-! ### The host's view -/

/-- The bytes of the `nbits`-bit number `w`, least significant first. -/
def bytesOfNat (nbits w : Nat) : List Byte :=
  (List.range (nbits / 8)).map fun k => BitVec.ofNat 8 (w / 2 ^ (8 * k))

/-- The longest instruction's bytes, the given ones first and zeros after them. -/
def fetchImage (nbits w : Nat) : List Byte :=
  (bytesOfNat nbits w ++ List.replicate Config.maxInsnLen 0#8).take Config.maxInsnLen

/-- The instruction the decoder reads from table word `w`, under the sizes in force after RESET, 16 and 16
(30 R262). -/
def decodeTableWord (nbits w : Nat) : Option Instr :=
  match decode ⟨false, false⟩ (fetchImage nbits w) with
  | .ok (i, _) => some i
  | .error _ => none

end Sys2Proof
end

