-- ==== Sys2Proof/Machine/Numerics.lean ====
section
/-! DEFINITION. WAIT and the numerics instructions as the 80386 sees them: the tests, the memory operand, the pointers
it records; what the coprocessor computes is an oracle (spec 45; log 16, 17). -/

namespace Sys2Proof.Machine

/-- BUSY# and ERROR# take new levels when the coprocessor works (92 D14); once it is not busy, all it had to store is
in memory (70 R865). -/
def State.withLines (s : State) (busy error : Bool) : State :=
  let t := { s with npx := { s.npx with busy := busy, error := error } }
  if busy then t else t.landed t.lateBytes.length

def redrawLines : M Unit := do
  let b ← drawBool
  let e ← drawBool
  modify fun s => s.withLines b e

def State.hasNpx (s : State) : Bool := s.npx.kind != .none

/-- Without a coprocessor both lines are inactive (45 R685). -/
def State.npxBusy (s : State) : Bool := s.hasNpx && s.npx.busy
def State.npxError (s : State) : Bool := s.hasNpx && s.npx.error

/-- Wait for BUSY#: the instruction is tried again in the next step, and interrupts are taken between (45 R685). Its
own bytes count as queued where the coprocessor stores over them (20 R233; log 17). -/
def waitReady : M Unit := do
  if (← get).npxBusy then
    modify fun s => { s with insn := { s.insn with len := 0 } }
    redrawLines
    throw .wait

/-- R682 steps 2 and 3; the no-wait forms do not test ERROR#. -/
def escTests (noWait : Bool) : M Unit := do
  let s ← get
  if s.cr0.EM || s.cr0.TS then raise vecNM
  if !noWait && s.npxError then raise vecMF

/-- Bytes the coprocessor produces, or that nothing produces (45 R683). -/
def drawBytes : Nat → M (List Byte)
  | 0 => pure []
  | n + 1 => do
    let b ← draw 8
    let bs ← drawBytes n
    return b :: bs

/-- The bytes an operand has, and whether it is stored (45 R684, R689, 92 D35); `none` for no access. -/
def operandSize (wide : Bool) : Config.EscOperand → Option (Nat × Bool)
  | .none => none
  | .read n => some (n, false)
  | .write n => some (n, true)
  | .env st => some (if wide then 28 else 14, st)
  | .state st => some (if wide then 108 else 94, st)

/-- What the 80386 records of the instruction and its operand (10 R68). -/
def recordPointers (op11 : BitVec 11) (operand : Option (Half × Word)) : M Unit :=
  modify fun s => { s with npx := { s.npx with
    insnSel := s.segs.cs.selector, insnOff := s.eip, opcode := op11,
    opSel := (operand.map Prod.fst).getD s.npx.opSel, opOff := (operand.map Prod.snd).getD s.npx.opOff } }

/-- Give the instruction to the coprocessor (R682 step 5). -/
def passOn : M Unit := do
  if (← get).hasNpx then redrawLines

/-- An ESC instruction without a memory operand (R682). -/
def escReg (noWait : Bool) (op11 : BitVec 11) : M Unit := do
  escTests noWait
  if !noWait then waitReady
  recordPointers op11 none
  passOn

/-- The coprocessor stores a result itself, which may be late, but for FNSTSW and FNSTCW, which the 80386 stores before
the next instruction (70 R865). -/
def storesLate (noWait : Bool) : Config.EscOperand → Bool
  | .write _ => !noWait
  | _ => true

/-- Store the result bytes, or leave them to a busy coprocessor. -/
def putResult (late : Bool) (n : Nat) (pas : List Word) (bs : List Byte) : M Unit := do
  let s ← get
  if late && s.npxBusy then
    let more := (pas.zip bs).map fun p => { pa := p.1, bytes := n, value := p.2 : LateByte }
    set { s with lateBytes := s.lateBytes ++ more }
  else physWriteList n pas bs

/-- An ESC instruction with a memory operand, checked whole before the instruction is passed on (R682, R684), once the
coprocessor is not busy (log 17). -/
def escMem (noWait : Bool) (op11 : BitVec 11) (mem : Mem) (kind : Config.EscOperand) : M Unit := do
  escTests noWait
  if !noWait then waitReady
  let s ← get
  let a := s.ea mem
  let pointers := recordPointers op11 (some ((s.seg a.1).selector, a.2))
  match operandSize s.sizes.op32 kind with
  | none =>
    pointers
    passOn
  | some (n, st) =>
    let pas ← memAddrs a.1 a.2 n (!st) st
    if st then
      let bs ← drawBytes n
      pointers
      passOn
      putResult (storesLate noWait kind) n pas bs
    else
      let _ ← physReadList pas
      pointers
      passOn

/-- The 11-bit operation code: the low three opcode bits and the ModRM byte (45 R680). -/
def opCode (op : BitVec 3) (modrm : Byte) : BitVec 11 := op ++ modrm

/-- The ModRM byte of a memory operand of a numerics instruction. -/
def memModRM (ext : BitVec 3) (mem : Mem) : Byte := (encMem ext mem).headD 0#8

def escMemOp (noWait : Bool) (op ext : BitVec 3) (mem : Mem) (kind : Config.EscOperand) : M Unit :=
  escMem noWait (opCode op (memModRM ext mem)) mem kind

/-- Any other numerics instruction (45 R690): the size of its memory operand is open (log 16). -/
def execEsc (op ext : BitVec 3) (rm : RM) (s : State) : Answer :=
  match rm with
  | .reg n => plainInsn (escReg false (opCode op (modrm 3#2 ext n.num))) s
  | .mem m => plainInsn (escMemOp false op ext m (Config.escOperand op ext)) s

/-! ### WAIT (45 R685) -/

/-- Each try makes all the tests, so an error that comes up meanwhile is reported at this WAIT (log 17). -/
def waitInsn : M Unit := do
  let s ← get
  if s.cr0.MP && s.cr0.TS then raise vecNM
  if s.npxError then raise vecMF
  waitReady

def execWait (s : State) : Answer := plainInsn waitInsn s

/-! ### The instructions the spec lists (45 R690) -/

/-- The 80386 ignores FSETPM after the tests for #NM (45 R689). -/
def setPm : M Unit := do
  let s ← get
  if s.cr0.EM || s.cr0.TS then raise vecNM

def execFsetpm (s : State) : Answer := plainInsn setPm s

/-- FNSTSW AX: the status word is the coprocessor's. -/
def storeStatusAx : M Unit := do
  escReg true (opCode 7#3 0xE0#8)
  setReg .w16 .eax ((← draw 16).setWidth 32)

def execFnstswAx (s : State) : Answer := plainInsn storeStatusAx s

def execFnstswM (mem : Mem) (s : State) : Answer := plainInsn (escMemOp true 5#3 7#3 mem (.write 2)) s
def execFnstcwM (mem : Mem) (s : State) : Answer := plainInsn (escMemOp true 1#3 7#3 mem (.write 2)) s
def execFsaveM (mem : Mem) (s : State) : Answer := plainInsn (escMemOp true 5#3 6#3 mem (.state true)) s
def execFrstorM (mem : Mem) (s : State) : Answer := plainInsn (escMemOp false 5#3 4#3 mem (.state false)) s
def execFstenvM (mem : Mem) (s : State) : Answer := plainInsn (escMemOp true 1#3 6#3 mem (.env true)) s
def execFldcwM (mem : Mem) (s : State) : Answer := plainInsn (escMemOp false 1#3 5#3 mem (.read 2)) s
def execFaddM32 (mem : Mem) (s : State) : Answer := plainInsn (escMemOp false 0#3 0#3 mem (.read 4)) s
def execFaddM64 (mem : Mem) (s : State) : Answer := plainInsn (escMemOp false 4#3 0#3 mem (.read 8)) s
def execFmulM32 (mem : Mem) (s : State) : Answer := plainInsn (escMemOp false 0#3 1#3 mem (.read 4)) s
def execFmulM64 (mem : Mem) (s : State) : Answer := plainInsn (escMemOp false 4#3 1#3 mem (.read 8)) s
def execFninit (s : State) : Answer := plainInsn (escReg true (opCode 3#3 0xE3#8)) s
def execFld1 (s : State) : Answer := plainInsn (escReg false (opCode 1#3 0xE8#8)) s
def execFldz (s : State) : Answer := plainInsn (escReg false (opCode 1#3 0xEE#8)) s
def execFdivp (s : State) : Answer := plainInsn (escReg false (opCode 6#3 0xF9#8)) s
def execFldSt0 (s : State) : Answer := plainInsn (escReg false (opCode 1#3 0xC0#8)) s
def execFchs (s : State) : Answer := plainInsn (escReg false (opCode 1#3 0xE0#8)) s
def execFcompp (s : State) : Answer := plainInsn (escReg false (opCode 6#3 0xD9#8)) s
def execFnclex (s : State) : Answer := plainInsn (escReg true (opCode 3#3 0xE2#8)) s
def execFsqrt (s : State) : Answer := plainInsn (escReg false (opCode 1#3 0xFA#8)) s
def execFaddStSt0 (s : State) : Answer := plainInsn (escReg false (opCode 0#3 0xC0#8)) s
def execFaddStSt1 (s : State) : Answer := plainInsn (escReg false (opCode 0#3 0xC1#8)) s
def execFaddStSt2 (s : State) : Answer := plainInsn (escReg false (opCode 0#3 0xC2#8)) s
def execFaddStSt3 (s : State) : Answer := plainInsn (escReg false (opCode 0#3 0xC3#8)) s
def execFaddStSt4 (s : State) : Answer := plainInsn (escReg false (opCode 0#3 0xC4#8)) s
def execFaddStSt5 (s : State) : Answer := plainInsn (escReg false (opCode 0#3 0xC5#8)) s
def execFaddStSt6 (s : State) : Answer := plainInsn (escReg false (opCode 0#3 0xC6#8)) s
def execFaddStSt7 (s : State) : Answer := plainInsn (escReg false (opCode 0#3 0xC7#8)) s
def execFaddSt0St (s : State) : Answer := plainInsn (escReg false (opCode 4#3 0xC0#8)) s
def execFaddSt1St (s : State) : Answer := plainInsn (escReg false (opCode 4#3 0xC1#8)) s
def execFaddSt2St (s : State) : Answer := plainInsn (escReg false (opCode 4#3 0xC2#8)) s
def execFaddSt3St (s : State) : Answer := plainInsn (escReg false (opCode 4#3 0xC3#8)) s
def execFaddSt4St (s : State) : Answer := plainInsn (escReg false (opCode 4#3 0xC4#8)) s
def execFaddSt5St (s : State) : Answer := plainInsn (escReg false (opCode 4#3 0xC5#8)) s
def execFaddSt6St (s : State) : Answer := plainInsn (escReg false (opCode 4#3 0xC6#8)) s
def execFaddSt7St (s : State) : Answer := plainInsn (escReg false (opCode 4#3 0xC7#8)) s
def execFmulStSt0 (s : State) : Answer := plainInsn (escReg false (opCode 0#3 0xC8#8)) s
def execFmulStSt1 (s : State) : Answer := plainInsn (escReg false (opCode 0#3 0xC9#8)) s
def execFmulStSt2 (s : State) : Answer := plainInsn (escReg false (opCode 0#3 0xCA#8)) s
def execFmulStSt3 (s : State) : Answer := plainInsn (escReg false (opCode 0#3 0xCB#8)) s
def execFmulStSt4 (s : State) : Answer := plainInsn (escReg false (opCode 0#3 0xCC#8)) s
def execFmulStSt5 (s : State) : Answer := plainInsn (escReg false (opCode 0#3 0xCD#8)) s
def execFmulStSt6 (s : State) : Answer := plainInsn (escReg false (opCode 0#3 0xCE#8)) s
def execFmulStSt7 (s : State) : Answer := plainInsn (escReg false (opCode 0#3 0xCF#8)) s
def execFmulSt0St (s : State) : Answer := plainInsn (escReg false (opCode 4#3 0xC8#8)) s
def execFmulSt1St (s : State) : Answer := plainInsn (escReg false (opCode 4#3 0xC9#8)) s
def execFmulSt2St (s : State) : Answer := plainInsn (escReg false (opCode 4#3 0xCA#8)) s
def execFmulSt3St (s : State) : Answer := plainInsn (escReg false (opCode 4#3 0xCB#8)) s
def execFmulSt4St (s : State) : Answer := plainInsn (escReg false (opCode 4#3 0xCC#8)) s
def execFmulSt5St (s : State) : Answer := plainInsn (escReg false (opCode 4#3 0xCD#8)) s
def execFmulSt6St (s : State) : Answer := plainInsn (escReg false (opCode 4#3 0xCE#8)) s
def execFmulSt7St (s : State) : Answer := plainInsn (escReg false (opCode 4#3 0xCF#8)) s

end Sys2Proof.Machine
end

