-- ==== Sys2Proof/Machine/Shift.lean ====
section
/-! DEFINITION. Shifts, rotates and bit instructions (spec 41 R421 to R435). -/

namespace Sys2Proof.Machine

/-! ### Shifts and rotates (41 R421 to R427) -/

/-- A masked count that moves nothing: 0, and for RCL and RCR a multiple of `w` + 1 (R426, R427). -/
def ShiftOp.idle (op : ShiftOp) (w : Width) (n : Nat) : Bool :=
  match op with
  | .rcl => n % (w.bits + 1) == 0
  | .rcr => n % (w.bits + 1) == 0
  | _ => n == 0

/-- The operand is accessed as a read-modify-write even when the masked count moves nothing (log 28), and then nothing
changes, OF neither (log 47). -/
def shiftRM (op : ShiftOp) (w : Width) (rm : RM) (count : Word) : M Unit := do
  let (p, a) ← modifyRM w rm
  let n := shiftCount count
  if op.idle w n then pure () else putPlace w p (← shiftBy op w a n)

def execRolEb1 (rm : RM) (s : State) : Answer := plainInsn (shiftRM .rol .w8 rm 1#32) s
def execRolEv1 (rm : RM) (s : State) : Answer := plainInsn (shiftRM .rol s.opWidth rm 1#32) s
def execRolEbCl (rm : RM) (s : State) : Answer := plainInsn (shiftRM .rol .w8 rm (s.reg .w8 .ecx)) s
def execRolEvCl (rm : RM) (s : State) : Answer := plainInsn (shiftRM .rol s.opWidth rm (s.reg .w8 .ecx)) s
def execRolEbIb (rm : RM) (imm : Byte) (s : State) : Answer := plainInsn (shiftRM .rol .w8 rm (imm.setWidth 32)) s
def execRolEvIb (rm : RM) (imm : Byte) (s : State) : Answer := plainInsn (shiftRM .rol s.opWidth rm (imm.setWidth 32)) s

def execRorEb1 (rm : RM) (s : State) : Answer := plainInsn (shiftRM .ror .w8 rm 1#32) s
def execRorEv1 (rm : RM) (s : State) : Answer := plainInsn (shiftRM .ror s.opWidth rm 1#32) s
def execRorEbCl (rm : RM) (s : State) : Answer := plainInsn (shiftRM .ror .w8 rm (s.reg .w8 .ecx)) s
def execRorEvCl (rm : RM) (s : State) : Answer := plainInsn (shiftRM .ror s.opWidth rm (s.reg .w8 .ecx)) s
def execRorEbIb (rm : RM) (imm : Byte) (s : State) : Answer := plainInsn (shiftRM .ror .w8 rm (imm.setWidth 32)) s
def execRorEvIb (rm : RM) (imm : Byte) (s : State) : Answer := plainInsn (shiftRM .ror s.opWidth rm (imm.setWidth 32)) s

def execRclEb1 (rm : RM) (s : State) : Answer := plainInsn (shiftRM .rcl .w8 rm 1#32) s
def execRclEv1 (rm : RM) (s : State) : Answer := plainInsn (shiftRM .rcl s.opWidth rm 1#32) s
def execRclEbCl (rm : RM) (s : State) : Answer := plainInsn (shiftRM .rcl .w8 rm (s.reg .w8 .ecx)) s
def execRclEvCl (rm : RM) (s : State) : Answer := plainInsn (shiftRM .rcl s.opWidth rm (s.reg .w8 .ecx)) s
def execRclEbIb (rm : RM) (imm : Byte) (s : State) : Answer := plainInsn (shiftRM .rcl .w8 rm (imm.setWidth 32)) s
def execRclEvIb (rm : RM) (imm : Byte) (s : State) : Answer := plainInsn (shiftRM .rcl s.opWidth rm (imm.setWidth 32)) s

def execRcrEb1 (rm : RM) (s : State) : Answer := plainInsn (shiftRM .rcr .w8 rm 1#32) s
def execRcrEv1 (rm : RM) (s : State) : Answer := plainInsn (shiftRM .rcr s.opWidth rm 1#32) s
def execRcrEbCl (rm : RM) (s : State) : Answer := plainInsn (shiftRM .rcr .w8 rm (s.reg .w8 .ecx)) s
def execRcrEvCl (rm : RM) (s : State) : Answer := plainInsn (shiftRM .rcr s.opWidth rm (s.reg .w8 .ecx)) s
def execRcrEbIb (rm : RM) (imm : Byte) (s : State) : Answer := plainInsn (shiftRM .rcr .w8 rm (imm.setWidth 32)) s
def execRcrEvIb (rm : RM) (imm : Byte) (s : State) : Answer := plainInsn (shiftRM .rcr s.opWidth rm (imm.setWidth 32)) s

def execShlEb1 (rm : RM) (s : State) : Answer := plainInsn (shiftRM .shl .w8 rm 1#32) s
def execShlEv1 (rm : RM) (s : State) : Answer := plainInsn (shiftRM .shl s.opWidth rm 1#32) s
def execShlEbCl (rm : RM) (s : State) : Answer := plainInsn (shiftRM .shl .w8 rm (s.reg .w8 .ecx)) s
def execShlEvCl (rm : RM) (s : State) : Answer := plainInsn (shiftRM .shl s.opWidth rm (s.reg .w8 .ecx)) s
def execShlEbIb (rm : RM) (imm : Byte) (s : State) : Answer := plainInsn (shiftRM .shl .w8 rm (imm.setWidth 32)) s
def execShlEvIb (rm : RM) (imm : Byte) (s : State) : Answer := plainInsn (shiftRM .shl s.opWidth rm (imm.setWidth 32)) s

def execShrEb1 (rm : RM) (s : State) : Answer := plainInsn (shiftRM .shr .w8 rm 1#32) s
def execShrEv1 (rm : RM) (s : State) : Answer := plainInsn (shiftRM .shr s.opWidth rm 1#32) s
def execShrEbCl (rm : RM) (s : State) : Answer := plainInsn (shiftRM .shr .w8 rm (s.reg .w8 .ecx)) s
def execShrEvCl (rm : RM) (s : State) : Answer := plainInsn (shiftRM .shr s.opWidth rm (s.reg .w8 .ecx)) s
def execShrEbIb (rm : RM) (imm : Byte) (s : State) : Answer := plainInsn (shiftRM .shr .w8 rm (imm.setWidth 32)) s
def execShrEvIb (rm : RM) (imm : Byte) (s : State) : Answer := plainInsn (shiftRM .shr s.opWidth rm (imm.setWidth 32)) s

def execSarEb1 (rm : RM) (s : State) : Answer := plainInsn (shiftRM .sar .w8 rm 1#32) s
def execSarEv1 (rm : RM) (s : State) : Answer := plainInsn (shiftRM .sar s.opWidth rm 1#32) s
def execSarEbCl (rm : RM) (s : State) : Answer := plainInsn (shiftRM .sar .w8 rm (s.reg .w8 .ecx)) s
def execSarEvCl (rm : RM) (s : State) : Answer := plainInsn (shiftRM .sar s.opWidth rm (s.reg .w8 .ecx)) s
def execSarEbIb (rm : RM) (imm : Byte) (s : State) : Answer := plainInsn (shiftRM .sar .w8 rm (imm.setWidth 32)) s
def execSarEvIb (rm : RM) (imm : Byte) (s : State) : Answer := plainInsn (shiftRM .sar s.opWidth rm (imm.setWidth 32)) s

/-! ### Double shifts (41 R428, R429) -/

def shiftDoubleRM (left : Bool) (w : Width) (rm : RM) (reg : RegNo) (count : Word) : M Unit := do
  let (p, a) ← modifyRM w rm
  let b ← getReg w reg
  let n := shiftCount count
  if n == 0 then pure () else putPlace w p (← shiftDouble left w a b n)

def execShldEvGvIb (rm : RM) (reg : RegNo) (imm : Byte) (s : State) : Answer :=
  plainInsn (shiftDoubleRM true s.opWidth rm reg (imm.setWidth 32)) s
def execShldEvGvCl (rm : RM) (reg : RegNo) (s : State) : Answer :=
  plainInsn (shiftDoubleRM true s.opWidth rm reg (s.reg .w8 .ecx)) s
def execShrdEvGvIb (rm : RM) (reg : RegNo) (imm : Byte) (s : State) : Answer :=
  plainInsn (shiftDoubleRM false s.opWidth rm reg (imm.setWidth 32)) s
def execShrdEvGvCl (rm : RM) (reg : RegNo) (s : State) : Answer :=
  plainInsn (shiftDoubleRM false s.opWidth rm reg (s.reg .w8 .ecx)) s

/-! ### Bit tests (41 R430 to R433) -/

/-- The memory unit a signed register offset `o` names (R430; log 46). -/
def State.bitUnit (s : State) (w : Width) (mem : Mem) (o : Word) : SegNo × Word :=
  let a := s.ea mem
  (a.1, s.adWidth.trunc (a.2 + BitVec.ofInt 32 (w.bytes * (w.signed o / (w.bits : Nat)))))

/-- The unit that holds the bit, to be read only, or to be written back. -/
def readBitUnit (w : Width) (rm : RM) (o : Word) : M Word := do
  match rm with
  | .reg n => getReg w n
  | .mem m =>
    let a := (← get).bitUnit w m o
    memReadW w a.1 a.2

def modifyBitUnit (w : Width) (rm : RM) (o : Word) : M (Place × Word) := do
  match rm with
  | .reg n => return (.reg n, ← getReg w n)
  | .mem m =>
    let a := (← get).bitUnit w m o
    modifyMem w a.1 a.2

inductive BitOp where
  | set
  | reset
  | complement
  deriving DecidableEq, Repr

/-- Bit `k` of `v` set, cleared or inverted. -/
def BitOp.apply (op : BitOp) (v : Word) (k : Nat) : Word :=
  match op with
  | .set => v ||| (1#32 <<< k)
  | .reset => v &&& ~~~(1#32 <<< k)
  | .complement => v ^^^ (1#32 <<< k)

/-- The place of the bit in its unit. -/
def bitIndex (w : Width) (o : Word) : Nat := o.toNat % w.bits

/-- R430; an immediate offset does not leave the operand: `unit` is 0. -/
def bitTest (w : Width) (rm : RM) (unit o : Word) : M Unit := do
  let v ← readBitUnit w rm unit
  bitFlags (bit v (bitIndex w o))

/-- R431 to R433. -/
def bitChange (op : BitOp) (w : Width) (rm : RM) (unit o : Word) : M Unit := do
  let (p, v) ← modifyBitUnit w rm unit
  bitFlags (bit v (bitIndex w o))
  putPlace w p (op.apply v (bitIndex w o))

def execBtEvGv (rm : RM) (reg : RegNo) (s : State) : Answer :=
  plainInsn (bitTest s.opWidth rm (s.reg s.opWidth reg) (s.reg s.opWidth reg)) s
def execBtEvIb (rm : RM) (imm : Byte) (s : State) : Answer :=
  plainInsn (bitTest s.opWidth rm 0#32 (imm.setWidth 32)) s
def execBtsEvGv (rm : RM) (reg : RegNo) (s : State) : Answer :=
  lockInsn rm.isMem (bitChange .set s.opWidth rm (s.reg s.opWidth reg) (s.reg s.opWidth reg)) s
def execBtsEvIb (rm : RM) (imm : Byte) (s : State) : Answer :=
  lockInsn rm.isMem (bitChange .set s.opWidth rm 0#32 (imm.setWidth 32)) s
def execBtrEvGv (rm : RM) (reg : RegNo) (s : State) : Answer :=
  lockInsn rm.isMem (bitChange .reset s.opWidth rm (s.reg s.opWidth reg) (s.reg s.opWidth reg)) s
def execBtrEvIb (rm : RM) (imm : Byte) (s : State) : Answer :=
  lockInsn rm.isMem (bitChange .reset s.opWidth rm 0#32 (imm.setWidth 32)) s
def execBtcEvGv (rm : RM) (reg : RegNo) (s : State) : Answer :=
  lockInsn rm.isMem (bitChange .complement s.opWidth rm (s.reg s.opWidth reg) (s.reg s.opWidth reg)) s
def execBtcEvIb (rm : RM) (imm : Byte) (s : State) : Answer :=
  lockInsn rm.isMem (bitChange .complement s.opWidth rm 0#32 (imm.setWidth 32)) s

/-! ### Bit scans (41 R434, R435) -/

/-- The index is undefined when the source is 0. -/
def bitScan (index : Word → Nat) (w : Width) (reg : RegNo) (rm : RM) : M Unit := do
  let v ← readRM w rm
  let u ← draw 32
  scanFlags (v == 0#32)
  setReg w reg (if v == 0#32 then w.trunc u else BitVec.ofNat 32 (index v))

def execBsfGvEv (reg : RegNo) (rm : RM) (s : State) : Answer :=
  plainInsn (bitScan (fun v => lowestBit v 32 0) s.opWidth reg rm) s
def execBsrGvEv (reg : RegNo) (rm : RM) (s : State) : Answer :=
  plainInsn (bitScan (fun v => highestBit v 32) s.opWidth reg rm) s

end Sys2Proof.Machine
end

