-- ==== Sys2Proof/Machine/Strings.lean ====
section
/-! DEFINITION. String instructions, port input and output (spec 43 R560 to R574, 20 R205 to R215). -/

namespace Sys2Proof.Machine

/-! ### Ports (20 R205 to R215) -/

/-- The permission map allows ports `p` to `p + n - 1` (20 R211 to R215); a TSS too small to hold the map base denies
them (log 30). -/
def mapAllows (p n : Nat) : M Bool := do
  let tr := (← get).tr
  if !tr.is386 || decide (tr.limit.toNat < 0x67) then return false
  let base ← linRead (tr.base + 0x66#32) 2
  if base == 0xFFFF then return false
  let a := base + p / 8
  if tr.limit.toNat < a + 1 then return false
  let w ← linRead (tr.base + BitVec.ofNat 32 a) 2
  return w / 2 ^ (p % 8) % 2 ^ n == 0

/-- `IoCheck` (20 R210); an access past port FFFFH is refused (log 30). -/
def ioCheck (p n : Nat) : M Unit := do
  let s ← get
  if s.peNow && (s.flags.VM || decide (s.flags.IOPL < s.cpl)) then
    if !(← mapAllows p n) then raiseGP0
  if p + n > 0x10000 then refuse .portPastEnd

/-- `IoRead`: what the device answers is not determined (92 D19). -/
def ioRead (w : Width) : M Word := do return w.trunc (← draw 32)

/-- `IoWrite` (92 D19). -/
def ioWrite (p : Half) (w : Width) (v : Word) : M Unit :=
  modify fun s => { s with trace := s.trace ++ [IoEvent.out p w.bytes (w.trunc v)] }

/-- 43 R571, R572. -/
def portIn (w : Width) (p : Half) : M Unit := do
  ioCheck p.toNat w.bytes
  setReg w .eax (← ioRead w)

/-- 43 R573, R574. -/
def portOut (w : Width) (p : Half) : M Unit := do
  ioCheck p.toNat w.bytes
  ioWrite p w ((← get).reg w .eax)

/-- DX as a port number. -/
def State.dx (s : State) : Half := s.regs.edx.setWidth 16

def execInAlIb (imm : Byte) (s : State) : Answer := plainInsn (portIn .w8 (imm.setWidth 16)) s
def execInEaxIb (imm : Byte) (s : State) : Answer := plainInsn (portIn s.opWidth (imm.setWidth 16)) s
def execInAlDx (s : State) : Answer := plainInsn (portIn .w8 s.dx) s
def execInEaxDx (s : State) : Answer := plainInsn (portIn s.opWidth s.dx) s
def execOutIbAl (imm : Byte) (s : State) : Answer := plainInsn (portOut .w8 (imm.setWidth 16)) s
def execOutIbEax (imm : Byte) (s : State) : Answer := plainInsn (portOut s.opWidth (imm.setWidth 16)) s
def execOutDxAl (s : State) : Answer := plainInsn (portOut .w8 s.dx) s
def execOutDxEax (s : State) : Answer := plainInsn (portOut s.opWidth s.dx) s

/-! ### One element (43 R560, R564 to R570) -/

/-- (E)SI or (E)DI. -/
def State.index (s : State) (n : RegNo) : Word := s.reg s.adWidth n

/-- Step an index register by one element, in the direction DF gives. -/
def stepIndex (w : Width) (n : RegNo) : M Unit := do
  let s ← get
  let k := BitVec.ofNat 32 w.bytes
  setReg s.adWidth n (if s.flags.DF then s.index n - k else s.index n + k)

/-- The element at `seg:SI'`. -/
def sourceElement (w : Width) : M Word := do
  let s ← get
  memReadW w (s.overridden .ds) (s.index .esi)

/-- The element at `ES:DI'`. -/
def destElement (w : Width) : M Word := do memReadW w .es ((← get).index .edi)

def putDest (w : Width) (v : Word) : M Unit := do memWriteW w .es ((← get).index .edi) v

/-- R564. -/
def moveElement (w : Width) : M Unit := do
  putDest w (← sourceElement w)
  stepIndex w .esi
  stepIndex w .edi

/-- R565: source minus destination. -/
def compareElement (w : Width) : M Unit := do
  let a ← sourceElement w
  let b ← destElement w
  let _ ← alu .cmp w a b
  stepIndex w .esi
  stepIndex w .edi

/-- R566. -/
def scanElement (w : Width) : M Unit := do
  let b ← destElement w
  let _ ← alu .cmp w ((← get).reg w .eax) b
  stepIndex w .edi

/-- R567. -/
def loadElement (w : Width) : M Unit := do
  setReg w .eax (← sourceElement w)
  stepIndex w .esi

/-- R568. -/
def storeElement (w : Width) : M Unit := do
  putDest w ((← get).reg w .eax)
  stepIndex w .edi

/-- R569: the destination is checked before the port is read. -/
def inputElement (w : Width) : M Unit := do
  let s ← get
  ioCheck s.dx.toNat w.bytes
  let pas ← memAddrs .es (s.index .edi) w.bytes false true
  let v ← ioRead w
  physWriteList w.bytes pas (toBytes w.bytes v.toNat)
  stepIndex w .edi

/-- R570. -/
def outputElement (w : Width) : M Unit := do
  let s ← get
  ioCheck s.dx.toNat w.bytes
  let v ← sourceElement w
  ioWrite s.dx w v
  stepIndex w .esi

/-! ### Repetition (43 R561 to R563) -/

/-- One step of a string instruction `i`. A repeated one does one element a step and stays at its first prefix byte
until its counter is 0 or `done` holds after an element; `repeating` holds it meanwhile, so that its bytes are not
fetched again (R561; log 10). -/
def repeated (i : Instr) (done : State → Bool) (element : M Unit) : M Unit := do
  let s ← get
  if !(s.insn.rep || s.insn.repne) then
    element
    advance
  else
    let c := s.reg s.adWidth .ecx
    if c == 0#32 then advance
    else
      element
      setReg s.adWidth .ecx (c - 1#32)
      if c == 1#32 || done (← get) then advance
      else
        keepRF
        modify fun t => { t with repeating := some (i, { s.insn with kept := [] }) }

/-- The instructions a repetition may be of. -/
def isString : Instr → Bool
  | .movsb => true
  | .movsv => true
  | .cmpsb => true
  | .cmpsv => true
  | .stosb => true
  | .stosv => true
  | .lodsb => true
  | .lodsv => true
  | .scasb => true
  | .scasv => true
  | .insb => true
  | .insv => true
  | .outsb => true
  | .outsv => true
  | _ => false

/-- MOVS, LODS, STOS, INS, OUTS. -/
def noTest (_ : State) : Bool := false

/-- CMPS, SCAS: REPE ends when ZF is 0, REPNE when ZF is 1 (R562, R563). -/
def zeroTest (s : State) : Bool := if s.insn.repne then s.flags.ZF else !s.flags.ZF

def execMovsb (s : State) : Answer := stringInsn (repeated .movsb noTest (moveElement .w8)) s
def execMovsv (s : State) : Answer := stringInsn (repeated .movsv noTest (moveElement s.opWidth)) s
def execCmpsb (s : State) : Answer := stringInsn (repeated .cmpsb zeroTest (compareElement .w8)) s
def execCmpsv (s : State) : Answer := stringInsn (repeated .cmpsv zeroTest (compareElement s.opWidth)) s
def execStosb (s : State) : Answer := stringInsn (repeated .stosb noTest (storeElement .w8)) s
def execStosv (s : State) : Answer := stringInsn (repeated .stosv noTest (storeElement s.opWidth)) s
def execLodsb (s : State) : Answer := stringInsn (repeated .lodsb noTest (loadElement .w8)) s
def execLodsv (s : State) : Answer := stringInsn (repeated .lodsv noTest (loadElement s.opWidth)) s
def execScasb (s : State) : Answer := stringInsn (repeated .scasb zeroTest (scanElement .w8)) s
def execScasv (s : State) : Answer := stringInsn (repeated .scasv zeroTest (scanElement s.opWidth)) s
def execInsb (s : State) : Answer := stringInsn (repeated .insb noTest (inputElement .w8)) s
def execInsv (s : State) : Answer := stringInsn (repeated .insv noTest (inputElement s.opWidth)) s
def execOutsb (s : State) : Answer := stringInsn (repeated .outsb noTest (outputElement .w8)) s
def execOutsv (s : State) : Answer := stringInsn (repeated .outsv noTest (outputElement s.opWidth)) s

end Sys2Proof.Machine
end

