-- ==== Sys2Proof/Machine/System.lean ====
section
/-! DEFINITION. System registers, control, debug and test registers, protection checks, HLT (spec 44). -/

namespace Sys2Proof.Machine

/-- Privileged instructions (30 R312). -/
def needCpl0 : M Unit := do
  if (← get).cpl != 0#2 then raiseGP0

/-- Instructions that exist in protected mode only (44 R660). -/
def needProtected : M Unit := do
  if !(← get).protMode then raiseUD

/-! ### GDTR and IDTR (44 R610 to R614) -/

/-- The operand: the limit, then the base at EA + 2, two accesses (R610; log 38); with a 16-bit operand size the base
has 24 bits (R613). -/
def readTable (mem : Mem) : M TableReg := do
  needCpl0
  let s ← get
  let a := s.ea mem
  let limit ← memRead a.1 a.2 2
  let base := BitVec.ofNat 32 (← memRead a.1 (a.2 + 2#32) 4)
  return { base := if s.sizes.op32 then base else base &&& 0xFFFFFF#32, limit := BitVec.ofNat 16 limit }

/-- R612, R614: the limit, then the base. -/
def writeTable (mem : Mem) (r : TableReg) : M Unit := do
  let s ← get
  let a := s.ea mem
  let base := if s.sizes.op32 then r.base else r.base &&& 0xFFFFFF#32
  memWrite a.1 a.2 2 r.limit.toNat
  memWrite a.1 (a.2 + 2#32) 4 base.toNat

def loadGdtr (mem : Mem) : M Unit := do
  let r ← readTable mem
  modify fun s => { s with gdtr := r }

def loadIdtr (mem : Mem) : M Unit := do
  let r ← readTable mem
  modify fun s => { s with idtr := r }

def execSgdtMs (mem : Mem) (s : State) : Answer := plainInsn (writeTable mem s.gdtr) s
def execSidtMs (mem : Mem) (s : State) : Answer := plainInsn (writeTable mem s.idtr) s
def execLgdtMs (mem : Mem) (s : State) : Answer := plainInsn (loadGdtr mem) s
def execLidtMs (mem : Mem) (s : State) : Answer := plainInsn (loadIdtr mem) s

/-! ### LDTR and TR (44 R615 to R618) -/

/-- R615. -/
def loadLdtr (rm : RM) : M Unit := do
  needProtected
  needCpl0
  let sel := (← readRM .w16 rm).setWidth 16
  if selNull sel then modify fun s => { s with ldtr := { s.ldtr with selector := sel, valid := false } }
  else
    if selLocal sel then raiseSel vecGP sel
    let (_, d) ← fetchDesc vecGP sel
    if d.sysType != 2 then raiseSel vecGP sel
    if !d.present then raiseSel vecNP sel
    modify fun s => { s with ldtr := { selector := sel, base := d.base, limit := d.limit, valid := true } }

/-- R617. -/
def loadTr (rm : RM) : M Unit := do
  needProtected
  needCpl0
  let sel := (← readRM .w16 rm).setWidth 16
  if selNull sel then raiseGP0
  if selLocal sel then raiseSel vecGP sel
  let (la, d) ← fetchDesc vecGP sel
  if !d.availableTss then raiseSel vecGP sel
  if !d.present then raiseSel vecNP sel
  putBusy la true
  modify fun s => { s with tr := { selector := sel, base := d.base, limit := d.limit, is386 := d.isTss386 } }

/-- R616, R618. -/
def storeSystemSel (rm : RM) (sel : Half) : M Unit := do
  needProtected
  storeHalf rm sel

def execSldtEw (rm : RM) (s : State) : Answer := plainInsn (storeSystemSel rm s.ldtr.selector) s
def execStrEw (rm : RM) (s : State) : Answer := plainInsn (storeSystemSel rm s.tr.selector) s
def execLldtEw (rm : RM) (s : State) : Answer := plainInsn (loadLdtr rm) s
def execLtrEw (rm : RM) (s : State) : Answer := plainInsn (loadTr rm) s

/-! ### CR0 (10 R57 to R61; 44 R619 to R621, R630, R631) -/

def Cr0.toWord (c : Cr0) : Word :=
  BitVec.ofBool c.PG ++ c.reserved ++ BitVec.ofBool c.ET ++ BitVec.ofBool c.TS ++ BitVec.ofBool c.EM ++
  BitVec.ofBool c.MP ++ BitVec.ofBool c.PE

def Cr0.ofWord (v : Word) : Cr0 :=
  { PE := bit v 0, MP := bit v 1, EM := bit v 2, TS := bit v 3, ET := bit v 4, PG := bit v 31,
    reserved := v.extractLsb' 5 26 }

/-- A new CR0; after a change of PE or PG the queue may hold instructions of the old mode (70 R860; log 19). A mode with
PG clear is noted with the TLB it had, since translations cached once PG is set are none of its own (20 R233). -/
def State.withCr0 (s : State) (c : Cr0) : State :=
  { s with
    cr0 := c
    staleModes :=
      if c.PE != s.cr0.PE || c.PG != s.cr0.PG
      then s.staleModes ++ [{ PE := s.cr0.PE, PG := s.cr0.PG, next := s.segs.cs.base + s.nextEip, clean := true,
                                paging := if s.cr0.PG then none else some { cr3 := s.cr3, tlb := s.tlb } }]
      else s.staleModes }

/-- PG = 1 with PE = 0 raises #GP(0) (R631). -/
def writeCr0 (c : Cr0) : M Unit := do
  if c.PG && !c.PE then raiseGP0
  modify fun s => s.withCr0 c

/-- R619. -/
def loadMsw (rm : RM) : M Unit := do
  needCpl0
  let v ← readRM .w16 rm
  let c := (← get).cr0
  writeCr0 { c with PE := c.PE || bit v 0, MP := bit v 1, EM := bit v 2, TS := bit v 3 }

/-- R621. -/
def clearTS : M Unit := do
  needCpl0
  modify fun s => { s with cr0 := { s.cr0 with TS := false } }

def execSmswEw (rm : RM) (s : State) : Answer := plainInsn (storeHalf rm (s.cr0.toWord.setWidth 16)) s
def execLmswEw (rm : RM) (s : State) : Answer := plainInsn (loadMsw rm) s
def execClts (s : State) : Answer := plainInsn clearTS s

def State.cr (s : State) : CrNo → Word
  | .cr0 => s.cr0.toWord
  | .cr2 => s.cr2
  | .cr3 => s.cr3

/-- R630. -/
def readCr (reg : RegNo) (cr : CrNo) : M Unit := do
  needCpl0
  setReg .w32 reg ((← get).cr cr)
  undefinedFlags

/-- R631: a write of CR3 empties the TLB. -/
def writeCr (cr : CrNo) (v : Word) : M Unit := do
  needCpl0
  match cr with
  | .cr0 => writeCr0 (Cr0.ofWord v)
  | .cr2 => modify fun s => { s with cr2 := v }
  | .cr3 => modify fun s => s.withCr3 (v &&& 0xFFFFF000#32)
  undefinedFlags

def execMovRdCd (reg : RegNo) (cr : CrNo) (s : State) : Answer := plainInsn (readCr reg cr) s
def execMovCdRd (cr : CrNo) (reg : RegNo) (s : State) : Answer := plainInsn (writeCr cr (s.reg .w32 reg)) s

/-! ### Debug and test registers (44 R632 to R634, 10 R65, R66) -/

/-- General detect: with DR7.GD = 1 a MOV to or from a debug register is a debug fault (60 R741 (e)). That
MOV SS and POP SS do not inhibit this one on the instruction after them is the model's choice (10 R72 says exception 1,
60 R725 debug trap; DESIGN CHOICE; log 27). -/
def needNoGD : M Unit := do
  if bit (← get).dr.dr7 13 then raiseDB 0x2000#32

/-- The reserved bits outside `mask` read as undefined (93 U43). -/
def readReserved (v mask : Word) : M Word := do
  let u ← draw 32
  return (v &&& mask) ||| (u &&& ~~~mask)

def readDr (reg : RegNo) (dr : DrNo) : M Unit := do
  needCpl0
  needNoGD
  let d := (← get).dr
  let v ← match dr with
    | .dr0 => pure d.dr0
    | .dr1 => pure d.dr1
    | .dr2 => pure d.dr2
    | .dr3 => pure d.dr3
    | .dr4 => refuse .debugRegister
    | .dr5 => refuse .debugRegister
    | .dr6 => readReserved d.dr6 0xE00F#32
    | .dr7 => readReserved d.dr7 0xFFFF23FF#32
  setReg .w32 reg v
  undefinedFlags

def writeDr (dr : DrNo) (v : Word) : M Unit := do
  needCpl0
  needNoGD
  match dr with
  | .dr0 => modify fun s => { s with dr := { s.dr with dr0 := v } }
  | .dr1 => modify fun s => { s with dr := { s.dr with dr1 := v } }
  | .dr2 => modify fun s => { s with dr := { s.dr with dr2 := v } }
  | .dr3 => modify fun s => { s with dr := { s.dr with dr3 := v } }
  | .dr4 => refuse .debugRegister
  | .dr5 => refuse .debugRegister
  | .dr6 => modify fun s => { s with dr := { s.dr with dr6 := v } }
  | .dr7 => modify fun s => { s with dr := { s.dr with dr7 := v } }
  undefinedFlags

/-- R634: at CPL 0 the spec refuses the program (93 U12; log 13). -/
def testRegister : M Unit := do
  needCpl0
  refuse .testRegister

def execMovRdDd (reg : RegNo) (dr : DrNo) (s : State) : Answer := plainInsn (readDr reg dr) s
def execMovDdRd (dr : DrNo) (reg : RegNo) (s : State) : Answer := plainInsn (writeDr dr (s.reg .w32 reg)) s
def execMovRdTd (_reg : RegNo) (_tr : TrNo) (s : State) : Answer := plainInsn testRegister s
def execMovTdRd (_tr : TrNo) (_reg : RegNo) (s : State) : Answer := plainInsn testRegister s

/-! ### Protection checks (44 R640 to R644) -/

/-- The descriptor of a selector that is not null and lies in its table; a bad selector does not fault. -/
def probe (sel : Half) : M (Option Desc) := do
  if selNull sel then return none
  match (← get).descAddr sel with
  | none => return none
  | some la => return some (← readDesc la)

/-- The privilege rule of R640. -/
def Desc.visible (d : Desc) (sel : Half) (cpl : BitVec 2) : Bool :=
  d.conforming || (decide (cpl ≤ d.dpl) && decide (selRpl sel ≤ d.dpl))

/-- Probe the selector in r/m16: its descriptor when it is visible and `ok`; ZF tells. Present is
not looked at, also by VERR and VERW, whose operation in 44 R642 has no such test while its corner case speaks of a load
into DS (DESIGN CHOICE; log 53). -/
def probeRM (ok : Desc → Bool) (rm : RM) : M (Option Desc) := do
  needProtected
  let sel := (← readRM .w16 rm).setWidth 16
  let found ← probe sel
  let cpl := (← get).cpl
  let r := found.filter fun d => ok d && d.visible sel cpl
  modifyFlags fun f => { f with ZF := r.isSome }
  return r

/-- R640. -/
def Desc.hasRights (d : Desc) : Bool :=
  d.isSegment || [1, 2, 3, 4, 5, 6, 7, 9, 11, 12, 14, 15].contains d.sysType

/-- R641. -/
def Desc.hasLimit (d : Desc) : Bool := d.isSegment || [1, 2, 3, 9, 11].contains d.sysType

def loadRights (reg : RegNo) (rm : RM) : M Unit := do
  match ← probeRM Desc.hasRights rm with
  | none => pure ()
  | some d =>
    let w := (← get).opWidth
    setReg w reg (d.hi &&& (match w with | .w32 => 0x00F0FF00#32 | _ => 0xFF00#32))

def loadLimit (reg : RegNo) (rm : RM) : M Unit := do
  match ← probeRM Desc.hasLimit rm with
  | none => pure ()
  | some d => setReg (← get).opWidth reg d.limit

/-- R642, R643. -/
def verify (ok : Desc → Bool) (rm : RM) : M Unit := do
  let _ ← probeRM ok rm

/-- R644: the operand is one that is read and then written, also where the RPL is not raised (20 R246; log 49). -/
def adjustRpl (rm : RM) (rpl : BitVec 2) : M Unit := do
  needProtected
  let (p, v) ← modifyRM .w16 rm
  let d := v.setWidth 16
  let below := decide (selRpl d < rpl)
  modifyFlags fun f => { f with ZF := below }
  if below then putPlace .w16 p ((selWithRpl d rpl).setWidth 32)

def execLarGvEw (reg : RegNo) (rm : RM) (s : State) : Answer := plainInsn (loadRights reg rm) s
def execLslGvEw (reg : RegNo) (rm : RM) (s : State) : Answer := plainInsn (loadLimit reg rm) s
def execVerrEw (rm : RM) (s : State) : Answer := plainInsn (verify Desc.readable rm) s
def execVerwEw (rm : RM) (s : State) : Answer := plainInsn (verify Desc.writeable rm) s
def execArplEwGw (rm : RM) (reg : RegNo) (s : State) : Answer :=
  plainInsn (adjustRpl rm ((s.reg .w16 reg).extractLsb' 0 2)) s

/-! ### HLT (44 R650) -/

def halt : M Unit := do
  needCpl0
  modify fun s => { s with run := .halted }

def execHlt (s : State) : Answer := plainInsn halt s

end Sys2Proof.Machine
end

