-- ==== Sys2Proof/Machine/Dispatch.lean ====
section
/-! DEFINITION. `exec`: one arm per instruction. -/

namespace Sys2Proof.Machine

def exec (i : Instr) (s : State) : Host.Outcome State Fault Refusal :=
  match i with
  | .movEbGb rm reg => Sys2Proof.Machine.execMovEbGb rm reg s
  | .movEvGv rm reg => Sys2Proof.Machine.execMovEvGv rm reg s
  | .movGbEb reg rm => Sys2Proof.Machine.execMovGbEb reg rm s
  | .movGvEv reg rm => Sys2Proof.Machine.execMovGvEv reg rm s
  | .movEbIb rm imm => Sys2Proof.Machine.execMovEbIb rm imm s
  | .movEvIv rm imm => Sys2Proof.Machine.execMovEvIv rm imm s
  | .movR8Ib reg imm => Sys2Proof.Machine.execMovR8Ib reg imm s
  | .movRIv reg imm => Sys2Proof.Machine.execMovRIv reg imm s
  | .movAlOb off => Sys2Proof.Machine.execMovAlOb off s
  | .movEaxOv off => Sys2Proof.Machine.execMovEaxOv off s
  | .movObAl off => Sys2Proof.Machine.execMovObAl off s
  | .movOvEax off => Sys2Proof.Machine.execMovOvEax off s
  | .movSwEw seg rm => Sys2Proof.Machine.execMovSwEw seg rm s
  | .movEwSw rm seg => Sys2Proof.Machine.execMovEwSw rm seg s
  | .movzxGvEb reg rm => Sys2Proof.Machine.execMovzxGvEb reg rm s
  | .movzxGvEw reg rm => Sys2Proof.Machine.execMovzxGvEw reg rm s
  | .movsxGvEb reg rm => Sys2Proof.Machine.execMovsxGvEb reg rm s
  | .movsxGvEw reg rm => Sys2Proof.Machine.execMovsxGvEw reg rm s
  | .xchgEbGb rm reg => Sys2Proof.Machine.execXchgEbGb rm reg s
  | .xchgEvGv rm reg => Sys2Proof.Machine.execXchgEvGv rm reg s
  | .pushR reg => Sys2Proof.Machine.execPushR reg s
  | .pushEv rm => Sys2Proof.Machine.execPushEv rm s
  | .pushIv imm => Sys2Proof.Machine.execPushIv imm s
  | .pushIb imm => Sys2Proof.Machine.execPushIb imm s
  | .popR reg => Sys2Proof.Machine.execPopR reg s
  | .popEv rm => Sys2Proof.Machine.execPopEv rm s
  | .leaGvM reg mem => Sys2Proof.Machine.execLeaGvM reg mem s
  | .ldsGvMp reg mem => Sys2Proof.Machine.execLdsGvMp reg mem s
  | .lesGvMp reg mem => Sys2Proof.Machine.execLesGvMp reg mem s
  | .lfsGvMp reg mem => Sys2Proof.Machine.execLfsGvMp reg mem s
  | .lgsGvMp reg mem => Sys2Proof.Machine.execLgsGvMp reg mem s
  | .lssGvMp reg mem => Sys2Proof.Machine.execLssGvMp reg mem s
  | .enterIwIb imm imm2 => Sys2Proof.Machine.execEnterIwIb imm imm2 s
  | .setccEb cc rm => Sys2Proof.Machine.execSetccEb cc rm s
  | .addEbGb rm reg => Sys2Proof.Machine.execAddEbGb rm reg s
  | .addEvGv rm reg => Sys2Proof.Machine.execAddEvGv rm reg s
  | .addGbEb reg rm => Sys2Proof.Machine.execAddGbEb reg rm s
  | .addGvEv reg rm => Sys2Proof.Machine.execAddGvEv reg rm s
  | .addAlIb imm => Sys2Proof.Machine.execAddAlIb imm s
  | .addEaxIv imm => Sys2Proof.Machine.execAddEaxIv imm s
  | .addEbIb rm imm => Sys2Proof.Machine.execAddEbIb rm imm s
  | .addEvIv rm imm => Sys2Proof.Machine.execAddEvIv rm imm s
  | .addEvIb rm imm => Sys2Proof.Machine.execAddEvIb rm imm s
  | .adcEbGb rm reg => Sys2Proof.Machine.execAdcEbGb rm reg s
  | .adcEvGv rm reg => Sys2Proof.Machine.execAdcEvGv rm reg s
  | .adcGbEb reg rm => Sys2Proof.Machine.execAdcGbEb reg rm s
  | .adcGvEv reg rm => Sys2Proof.Machine.execAdcGvEv reg rm s
  | .adcAlIb imm => Sys2Proof.Machine.execAdcAlIb imm s
  | .adcEaxIv imm => Sys2Proof.Machine.execAdcEaxIv imm s
  | .adcEbIb rm imm => Sys2Proof.Machine.execAdcEbIb rm imm s
  | .adcEvIv rm imm => Sys2Proof.Machine.execAdcEvIv rm imm s
  | .adcEvIb rm imm => Sys2Proof.Machine.execAdcEvIb rm imm s
  | .subEbGb rm reg => Sys2Proof.Machine.execSubEbGb rm reg s
  | .subEvGv rm reg => Sys2Proof.Machine.execSubEvGv rm reg s
  | .subGbEb reg rm => Sys2Proof.Machine.execSubGbEb reg rm s
  | .subGvEv reg rm => Sys2Proof.Machine.execSubGvEv reg rm s
  | .subAlIb imm => Sys2Proof.Machine.execSubAlIb imm s
  | .subEaxIv imm => Sys2Proof.Machine.execSubEaxIv imm s
  | .subEbIb rm imm => Sys2Proof.Machine.execSubEbIb rm imm s
  | .subEvIv rm imm => Sys2Proof.Machine.execSubEvIv rm imm s
  | .subEvIb rm imm => Sys2Proof.Machine.execSubEvIb rm imm s
  | .sbbEbGb rm reg => Sys2Proof.Machine.execSbbEbGb rm reg s
  | .sbbEvGv rm reg => Sys2Proof.Machine.execSbbEvGv rm reg s
  | .sbbGbEb reg rm => Sys2Proof.Machine.execSbbGbEb reg rm s
  | .sbbGvEv reg rm => Sys2Proof.Machine.execSbbGvEv reg rm s
  | .sbbAlIb imm => Sys2Proof.Machine.execSbbAlIb imm s
  | .sbbEaxIv imm => Sys2Proof.Machine.execSbbEaxIv imm s
  | .sbbEbIb rm imm => Sys2Proof.Machine.execSbbEbIb rm imm s
  | .sbbEvIv rm imm => Sys2Proof.Machine.execSbbEvIv rm imm s
  | .sbbEvIb rm imm => Sys2Proof.Machine.execSbbEvIb rm imm s
  | .cmpEbGb rm reg => Sys2Proof.Machine.execCmpEbGb rm reg s
  | .cmpEvGv rm reg => Sys2Proof.Machine.execCmpEvGv rm reg s
  | .cmpGbEb reg rm => Sys2Proof.Machine.execCmpGbEb reg rm s
  | .cmpGvEv reg rm => Sys2Proof.Machine.execCmpGvEv reg rm s
  | .cmpAlIb imm => Sys2Proof.Machine.execCmpAlIb imm s
  | .cmpEaxIv imm => Sys2Proof.Machine.execCmpEaxIv imm s
  | .cmpEbIb rm imm => Sys2Proof.Machine.execCmpEbIb rm imm s
  | .cmpEvIv rm imm => Sys2Proof.Machine.execCmpEvIv rm imm s
  | .cmpEvIb rm imm => Sys2Proof.Machine.execCmpEvIb rm imm s
  | .incEb rm => Sys2Proof.Machine.execIncEb rm s
  | .incEv rm => Sys2Proof.Machine.execIncEv rm s
  | .decEb rm => Sys2Proof.Machine.execDecEb rm s
  | .decEv rm => Sys2Proof.Machine.execDecEv rm s
  | .notEb rm => Sys2Proof.Machine.execNotEb rm s
  | .notEv rm => Sys2Proof.Machine.execNotEv rm s
  | .negEb rm => Sys2Proof.Machine.execNegEb rm s
  | .negEv rm => Sys2Proof.Machine.execNegEv rm s
  | .mulEb rm => Sys2Proof.Machine.execMulEb rm s
  | .mulEv rm => Sys2Proof.Machine.execMulEv rm s
  | .imulEb rm => Sys2Proof.Machine.execImulEb rm s
  | .imulEv rm => Sys2Proof.Machine.execImulEv rm s
  | .divEb rm => Sys2Proof.Machine.execDivEb rm s
  | .divEv rm => Sys2Proof.Machine.execDivEv rm s
  | .idivEb rm => Sys2Proof.Machine.execIdivEb rm s
  | .idivEv rm => Sys2Proof.Machine.execIdivEv rm s
  | .imulGvEv reg rm => Sys2Proof.Machine.execImulGvEv reg rm s
  | .imulGvEvIv reg rm imm => Sys2Proof.Machine.execImulGvEvIv reg rm imm s
  | .imulGvEvIb reg rm imm => Sys2Proof.Machine.execImulGvEvIb reg rm imm s
  | .andEbGb rm reg => Sys2Proof.Machine.execAndEbGb rm reg s
  | .andEvGv rm reg => Sys2Proof.Machine.execAndEvGv rm reg s
  | .andGbEb reg rm => Sys2Proof.Machine.execAndGbEb reg rm s
  | .andGvEv reg rm => Sys2Proof.Machine.execAndGvEv reg rm s
  | .andAlIb imm => Sys2Proof.Machine.execAndAlIb imm s
  | .andEaxIv imm => Sys2Proof.Machine.execAndEaxIv imm s
  | .andEbIb rm imm => Sys2Proof.Machine.execAndEbIb rm imm s
  | .andEvIv rm imm => Sys2Proof.Machine.execAndEvIv rm imm s
  | .andEvIb rm imm => Sys2Proof.Machine.execAndEvIb rm imm s
  | .orEbGb rm reg => Sys2Proof.Machine.execOrEbGb rm reg s
  | .orEvGv rm reg => Sys2Proof.Machine.execOrEvGv rm reg s
  | .orGbEb reg rm => Sys2Proof.Machine.execOrGbEb reg rm s
  | .orGvEv reg rm => Sys2Proof.Machine.execOrGvEv reg rm s
  | .orAlIb imm => Sys2Proof.Machine.execOrAlIb imm s
  | .orEaxIv imm => Sys2Proof.Machine.execOrEaxIv imm s
  | .orEbIb rm imm => Sys2Proof.Machine.execOrEbIb rm imm s
  | .orEvIv rm imm => Sys2Proof.Machine.execOrEvIv rm imm s
  | .orEvIb rm imm => Sys2Proof.Machine.execOrEvIb rm imm s
  | .xorEbGb rm reg => Sys2Proof.Machine.execXorEbGb rm reg s
  | .xorEvGv rm reg => Sys2Proof.Machine.execXorEvGv rm reg s
  | .xorGbEb reg rm => Sys2Proof.Machine.execXorGbEb reg rm s
  | .xorGvEv reg rm => Sys2Proof.Machine.execXorGvEv reg rm s
  | .xorAlIb imm => Sys2Proof.Machine.execXorAlIb imm s
  | .xorEaxIv imm => Sys2Proof.Machine.execXorEaxIv imm s
  | .xorEbIb rm imm => Sys2Proof.Machine.execXorEbIb rm imm s
  | .xorEvIv rm imm => Sys2Proof.Machine.execXorEvIv rm imm s
  | .xorEvIb rm imm => Sys2Proof.Machine.execXorEvIb rm imm s
  | .testEbGb rm reg => Sys2Proof.Machine.execTestEbGb rm reg s
  | .testEvGv rm reg => Sys2Proof.Machine.execTestEvGv rm reg s
  | .testAlIb imm => Sys2Proof.Machine.execTestAlIb imm s
  | .testEaxIv imm => Sys2Proof.Machine.execTestEaxIv imm s
  | .testEbIb rm imm => Sys2Proof.Machine.execTestEbIb rm imm s
  | .testEvIv rm imm => Sys2Proof.Machine.execTestEvIv rm imm s
  | .rolEb1 rm => Sys2Proof.Machine.execRolEb1 rm s
  | .rolEv1 rm => Sys2Proof.Machine.execRolEv1 rm s
  | .rolEbCl rm => Sys2Proof.Machine.execRolEbCl rm s
  | .rolEvCl rm => Sys2Proof.Machine.execRolEvCl rm s
  | .rolEbIb rm imm => Sys2Proof.Machine.execRolEbIb rm imm s
  | .rolEvIb rm imm => Sys2Proof.Machine.execRolEvIb rm imm s
  | .rorEb1 rm => Sys2Proof.Machine.execRorEb1 rm s
  | .rorEv1 rm => Sys2Proof.Machine.execRorEv1 rm s
  | .rorEbCl rm => Sys2Proof.Machine.execRorEbCl rm s
  | .rorEvCl rm => Sys2Proof.Machine.execRorEvCl rm s
  | .rorEbIb rm imm => Sys2Proof.Machine.execRorEbIb rm imm s
  | .rorEvIb rm imm => Sys2Proof.Machine.execRorEvIb rm imm s
  | .rclEb1 rm => Sys2Proof.Machine.execRclEb1 rm s
  | .rclEv1 rm => Sys2Proof.Machine.execRclEv1 rm s
  | .rclEbCl rm => Sys2Proof.Machine.execRclEbCl rm s
  | .rclEvCl rm => Sys2Proof.Machine.execRclEvCl rm s
  | .rclEbIb rm imm => Sys2Proof.Machine.execRclEbIb rm imm s
  | .rclEvIb rm imm => Sys2Proof.Machine.execRclEvIb rm imm s
  | .rcrEb1 rm => Sys2Proof.Machine.execRcrEb1 rm s
  | .rcrEv1 rm => Sys2Proof.Machine.execRcrEv1 rm s
  | .rcrEbCl rm => Sys2Proof.Machine.execRcrEbCl rm s
  | .rcrEvCl rm => Sys2Proof.Machine.execRcrEvCl rm s
  | .rcrEbIb rm imm => Sys2Proof.Machine.execRcrEbIb rm imm s
  | .rcrEvIb rm imm => Sys2Proof.Machine.execRcrEvIb rm imm s
  | .shlEb1 rm => Sys2Proof.Machine.execShlEb1 rm s
  | .shlEv1 rm => Sys2Proof.Machine.execShlEv1 rm s
  | .shlEbCl rm => Sys2Proof.Machine.execShlEbCl rm s
  | .shlEvCl rm => Sys2Proof.Machine.execShlEvCl rm s
  | .shlEbIb rm imm => Sys2Proof.Machine.execShlEbIb rm imm s
  | .shlEvIb rm imm => Sys2Proof.Machine.execShlEvIb rm imm s
  | .shrEb1 rm => Sys2Proof.Machine.execShrEb1 rm s
  | .shrEv1 rm => Sys2Proof.Machine.execShrEv1 rm s
  | .shrEbCl rm => Sys2Proof.Machine.execShrEbCl rm s
  | .shrEvCl rm => Sys2Proof.Machine.execShrEvCl rm s
  | .shrEbIb rm imm => Sys2Proof.Machine.execShrEbIb rm imm s
  | .shrEvIb rm imm => Sys2Proof.Machine.execShrEvIb rm imm s
  | .sarEb1 rm => Sys2Proof.Machine.execSarEb1 rm s
  | .sarEv1 rm => Sys2Proof.Machine.execSarEv1 rm s
  | .sarEbCl rm => Sys2Proof.Machine.execSarEbCl rm s
  | .sarEvCl rm => Sys2Proof.Machine.execSarEvCl rm s
  | .sarEbIb rm imm => Sys2Proof.Machine.execSarEbIb rm imm s
  | .sarEvIb rm imm => Sys2Proof.Machine.execSarEvIb rm imm s
  | .shldEvGvIb rm reg imm => Sys2Proof.Machine.execShldEvGvIb rm reg imm s
  | .shldEvGvCl rm reg => Sys2Proof.Machine.execShldEvGvCl rm reg s
  | .shrdEvGvIb rm reg imm => Sys2Proof.Machine.execShrdEvGvIb rm reg imm s
  | .shrdEvGvCl rm reg => Sys2Proof.Machine.execShrdEvGvCl rm reg s
  | .btEvGv rm reg => Sys2Proof.Machine.execBtEvGv rm reg s
  | .btEvIb rm imm => Sys2Proof.Machine.execBtEvIb rm imm s
  | .btsEvGv rm reg => Sys2Proof.Machine.execBtsEvGv rm reg s
  | .btsEvIb rm imm => Sys2Proof.Machine.execBtsEvIb rm imm s
  | .btrEvGv rm reg => Sys2Proof.Machine.execBtrEvGv rm reg s
  | .btrEvIb rm imm => Sys2Proof.Machine.execBtrEvIb rm imm s
  | .btcEvGv rm reg => Sys2Proof.Machine.execBtcEvGv rm reg s
  | .btcEvIb rm imm => Sys2Proof.Machine.execBtcEvIb rm imm s
  | .bsfGvEv reg rm => Sys2Proof.Machine.execBsfGvEv reg rm s
  | .bsrGvEv reg rm => Sys2Proof.Machine.execBsrGvEv reg rm s
  | .aamIb imm => Sys2Proof.Machine.execAamIb imm s
  | .aadIb imm => Sys2Proof.Machine.execAadIb imm s
  | .boundGvMa reg mem => Sys2Proof.Machine.execBoundGvMa reg mem s
  | .jmpJb rel => Sys2Proof.Machine.execJmpJb rel s
  | .jmpJv rel => Sys2Proof.Machine.execJmpJv rel s
  | .jmpEv rm => Sys2Proof.Machine.execJmpEv rm s
  | .jccJb cc rel => Sys2Proof.Machine.execJccJb cc rel s
  | .jccJv cc rel => Sys2Proof.Machine.execJccJv cc rel s
  | .jcxzJb rel => Sys2Proof.Machine.execJcxzJb rel s
  | .loopJb rel => Sys2Proof.Machine.execLoopJb rel s
  | .loopeJb rel => Sys2Proof.Machine.execLoopeJb rel s
  | .loopneJb rel => Sys2Proof.Machine.execLoopneJb rel s
  | .callJv rel => Sys2Proof.Machine.execCallJv rel s
  | .callEv rm => Sys2Proof.Machine.execCallEv rm s
  | .retIw imm => Sys2Proof.Machine.execRetIw imm s
  | .jmpFarAp off sel => Sys2Proof.Machine.execJmpFarAp off sel s
  | .jmpFarMp mem => Sys2Proof.Machine.execJmpFarMp mem s
  | .callFarAp off sel => Sys2Proof.Machine.execCallFarAp off sel s
  | .callFarMp mem => Sys2Proof.Machine.execCallFarMp mem s
  | .retfIw imm => Sys2Proof.Machine.execRetfIw imm s
  | .intIb imm => Sys2Proof.Machine.execIntIb imm s
  | .inAlIb imm => Sys2Proof.Machine.execInAlIb imm s
  | .inEaxIb imm => Sys2Proof.Machine.execInEaxIb imm s
  | .outIbAl imm => Sys2Proof.Machine.execOutIbAl imm s
  | .outIbEax imm => Sys2Proof.Machine.execOutIbEax imm s
  | .sgdtMs mem => Sys2Proof.Machine.execSgdtMs mem s
  | .sidtMs mem => Sys2Proof.Machine.execSidtMs mem s
  | .lgdtMs mem => Sys2Proof.Machine.execLgdtMs mem s
  | .lidtMs mem => Sys2Proof.Machine.execLidtMs mem s
  | .smswEw rm => Sys2Proof.Machine.execSmswEw rm s
  | .lmswEw rm => Sys2Proof.Machine.execLmswEw rm s
  | .sldtEw rm => Sys2Proof.Machine.execSldtEw rm s
  | .strEw rm => Sys2Proof.Machine.execStrEw rm s
  | .lldtEw rm => Sys2Proof.Machine.execLldtEw rm s
  | .ltrEw rm => Sys2Proof.Machine.execLtrEw rm s
  | .verrEw rm => Sys2Proof.Machine.execVerrEw rm s
  | .verwEw rm => Sys2Proof.Machine.execVerwEw rm s
  | .larGvEw reg rm => Sys2Proof.Machine.execLarGvEw reg rm s
  | .lslGvEw reg rm => Sys2Proof.Machine.execLslGvEw reg rm s
  | .movRdCd reg cr => Sys2Proof.Machine.execMovRdCd reg cr s
  | .movCdRd cr reg => Sys2Proof.Machine.execMovCdRd cr reg s
  | .movRdDd reg dr => Sys2Proof.Machine.execMovRdDd reg dr s
  | .movDdRd dr reg => Sys2Proof.Machine.execMovDdRd dr reg s
  | .movRdTd reg tr => Sys2Proof.Machine.execMovRdTd reg tr s
  | .movTdRd tr reg => Sys2Proof.Machine.execMovTdRd tr reg s
  | .arplEwGw rm reg => Sys2Proof.Machine.execArplEwGw rm reg s
  | .esc op ext rm => Sys2Proof.Machine.execEsc op ext rm s
  | .fnstswM mem => Sys2Proof.Machine.execFnstswM mem s
  | .fnstcwM mem => Sys2Proof.Machine.execFnstcwM mem s
  | .fsaveM mem => Sys2Proof.Machine.execFsaveM mem s
  | .frstorM mem => Sys2Proof.Machine.execFrstorM mem s
  | .fstenvM mem => Sys2Proof.Machine.execFstenvM mem s
  | .fldcwM mem => Sys2Proof.Machine.execFldcwM mem s
  | .faddM32 mem => Sys2Proof.Machine.execFaddM32 mem s
  | .faddM64 mem => Sys2Proof.Machine.execFaddM64 mem s
  | .fmulM32 mem => Sys2Proof.Machine.execFmulM32 mem s
  | .fmulM64 mem => Sys2Proof.Machine.execFmulM64 mem s
  | .xchgEaxEcx => Sys2Proof.Machine.execXchgEaxEcx s
  | .xchgEaxEdx => Sys2Proof.Machine.execXchgEaxEdx s
  | .xchgEaxEbx => Sys2Proof.Machine.execXchgEaxEbx s
  | .xchgEaxEsp => Sys2Proof.Machine.execXchgEaxEsp s
  | .xchgEaxEbp => Sys2Proof.Machine.execXchgEaxEbp s
  | .xchgEaxEsi => Sys2Proof.Machine.execXchgEaxEsi s
  | .xchgEaxEdi => Sys2Proof.Machine.execXchgEaxEdi s
  | .pushEs => Sys2Proof.Machine.execPushEs s
  | .pushCs => Sys2Proof.Machine.execPushCs s
  | .pushSs => Sys2Proof.Machine.execPushSs s
  | .pushDs => Sys2Proof.Machine.execPushDs s
  | .pushFs => Sys2Proof.Machine.execPushFs s
  | .pushGs => Sys2Proof.Machine.execPushGs s
  | .popEs => Sys2Proof.Machine.execPopEs s
  | .popSs => Sys2Proof.Machine.execPopSs s
  | .popDs => Sys2Proof.Machine.execPopDs s
  | .popFs => Sys2Proof.Machine.execPopFs s
  | .popGs => Sys2Proof.Machine.execPopGs s
  | .pusha => Sys2Proof.Machine.execPusha s
  | .popa => Sys2Proof.Machine.execPopa s
  | .xlat => Sys2Proof.Machine.execXlat s
  | .cbw => Sys2Proof.Machine.execCbw s
  | .cwd => Sys2Proof.Machine.execCwd s
  | .lahf => Sys2Proof.Machine.execLahf s
  | .sahf => Sys2Proof.Machine.execSahf s
  | .leave => Sys2Proof.Machine.execLeave s
  | .nop => Sys2Proof.Machine.execNop s
  | .incEax => Sys2Proof.Machine.execIncEax s
  | .incEcx => Sys2Proof.Machine.execIncEcx s
  | .incEdx => Sys2Proof.Machine.execIncEdx s
  | .incEbx => Sys2Proof.Machine.execIncEbx s
  | .incEsp => Sys2Proof.Machine.execIncEsp s
  | .incEbp => Sys2Proof.Machine.execIncEbp s
  | .incEsi => Sys2Proof.Machine.execIncEsi s
  | .incEdi => Sys2Proof.Machine.execIncEdi s
  | .decEax => Sys2Proof.Machine.execDecEax s
  | .decEcx => Sys2Proof.Machine.execDecEcx s
  | .decEdx => Sys2Proof.Machine.execDecEdx s
  | .decEbx => Sys2Proof.Machine.execDecEbx s
  | .decEsp => Sys2Proof.Machine.execDecEsp s
  | .decEbp => Sys2Proof.Machine.execDecEbp s
  | .decEsi => Sys2Proof.Machine.execDecEsi s
  | .decEdi => Sys2Proof.Machine.execDecEdi s
  | .daa => Sys2Proof.Machine.execDaa s
  | .das => Sys2Proof.Machine.execDas s
  | .aaa => Sys2Proof.Machine.execAaa s
  | .aas => Sys2Proof.Machine.execAas s
  | .ret => Sys2Proof.Machine.execRet s
  | .retf => Sys2Proof.Machine.execRetf s
  | .int3 => Sys2Proof.Machine.execInt3 s
  | .into => Sys2Proof.Machine.execInto s
  | .iret => Sys2Proof.Machine.execIret s
  | .movsb => Sys2Proof.Machine.execMovsb s
  | .movsv => Sys2Proof.Machine.execMovsv s
  | .cmpsb => Sys2Proof.Machine.execCmpsb s
  | .cmpsv => Sys2Proof.Machine.execCmpsv s
  | .stosb => Sys2Proof.Machine.execStosb s
  | .stosv => Sys2Proof.Machine.execStosv s
  | .lodsb => Sys2Proof.Machine.execLodsb s
  | .lodsv => Sys2Proof.Machine.execLodsv s
  | .scasb => Sys2Proof.Machine.execScasb s
  | .scasv => Sys2Proof.Machine.execScasv s
  | .insb => Sys2Proof.Machine.execInsb s
  | .insv => Sys2Proof.Machine.execInsv s
  | .outsb => Sys2Proof.Machine.execOutsb s
  | .outsv => Sys2Proof.Machine.execOutsv s
  | .repPrefix => Sys2Proof.Machine.execRepPrefix s
  | .repnePrefix => Sys2Proof.Machine.execRepnePrefix s
  | .inAlDx => Sys2Proof.Machine.execInAlDx s
  | .inEaxDx => Sys2Proof.Machine.execInEaxDx s
  | .outDxAl => Sys2Proof.Machine.execOutDxAl s
  | .outDxEax => Sys2Proof.Machine.execOutDxEax s
  | .clc => Sys2Proof.Machine.execClc s
  | .stc => Sys2Proof.Machine.execStc s
  | .cmc => Sys2Proof.Machine.execCmc s
  | .cld => Sys2Proof.Machine.execCld s
  | .std => Sys2Proof.Machine.execStd s
  | .cli => Sys2Proof.Machine.execCli s
  | .sti => Sys2Proof.Machine.execSti s
  | .pushf => Sys2Proof.Machine.execPushf s
  | .popf => Sys2Proof.Machine.execPopf s
  | .clts => Sys2Proof.Machine.execClts s
  | .hlt => Sys2Proof.Machine.execHlt s
  | .wait => Sys2Proof.Machine.execWait s
  | .fninit => Sys2Proof.Machine.execFninit s
  | .fld1 => Sys2Proof.Machine.execFld1 s
  | .fldz => Sys2Proof.Machine.execFldz s
  | .fdivp => Sys2Proof.Machine.execFdivp s
  | .fldSt0 => Sys2Proof.Machine.execFldSt0 s
  | .fchs => Sys2Proof.Machine.execFchs s
  | .fcompp => Sys2Proof.Machine.execFcompp s
  | .fsetpm => Sys2Proof.Machine.execFsetpm s
  | .fnstswAx => Sys2Proof.Machine.execFnstswAx s
  | .fnclex => Sys2Proof.Machine.execFnclex s
  | .fsqrt => Sys2Proof.Machine.execFsqrt s
  | .opSizePrefix => Sys2Proof.Machine.execOpSizePrefix s
  | .addrSizePrefix => Sys2Proof.Machine.execAddrSizePrefix s
  | .lockPrefix => Sys2Proof.Machine.execLockPrefix s
  | .esPrefix => Sys2Proof.Machine.execEsPrefix s
  | .csPrefix => Sys2Proof.Machine.execCsPrefix s
  | .ssPrefix => Sys2Proof.Machine.execSsPrefix s
  | .dsPrefix => Sys2Proof.Machine.execDsPrefix s
  | .fsPrefix => Sys2Proof.Machine.execFsPrefix s
  | .gsPrefix => Sys2Proof.Machine.execGsPrefix s
  | .faddStSt0 => Sys2Proof.Machine.execFaddStSt0 s
  | .faddStSt1 => Sys2Proof.Machine.execFaddStSt1 s
  | .faddStSt2 => Sys2Proof.Machine.execFaddStSt2 s
  | .faddStSt3 => Sys2Proof.Machine.execFaddStSt3 s
  | .faddStSt4 => Sys2Proof.Machine.execFaddStSt4 s
  | .faddStSt5 => Sys2Proof.Machine.execFaddStSt5 s
  | .faddStSt6 => Sys2Proof.Machine.execFaddStSt6 s
  | .faddStSt7 => Sys2Proof.Machine.execFaddStSt7 s
  | .faddSt0St => Sys2Proof.Machine.execFaddSt0St s
  | .faddSt1St => Sys2Proof.Machine.execFaddSt1St s
  | .faddSt2St => Sys2Proof.Machine.execFaddSt2St s
  | .faddSt3St => Sys2Proof.Machine.execFaddSt3St s
  | .faddSt4St => Sys2Proof.Machine.execFaddSt4St s
  | .faddSt5St => Sys2Proof.Machine.execFaddSt5St s
  | .faddSt6St => Sys2Proof.Machine.execFaddSt6St s
  | .faddSt7St => Sys2Proof.Machine.execFaddSt7St s
  | .fmulStSt0 => Sys2Proof.Machine.execFmulStSt0 s
  | .fmulStSt1 => Sys2Proof.Machine.execFmulStSt1 s
  | .fmulStSt2 => Sys2Proof.Machine.execFmulStSt2 s
  | .fmulStSt3 => Sys2Proof.Machine.execFmulStSt3 s
  | .fmulStSt4 => Sys2Proof.Machine.execFmulStSt4 s
  | .fmulStSt5 => Sys2Proof.Machine.execFmulStSt5 s
  | .fmulStSt6 => Sys2Proof.Machine.execFmulStSt6 s
  | .fmulStSt7 => Sys2Proof.Machine.execFmulStSt7 s
  | .fmulSt0St => Sys2Proof.Machine.execFmulSt0St s
  | .fmulSt1St => Sys2Proof.Machine.execFmulSt1St s
  | .fmulSt2St => Sys2Proof.Machine.execFmulSt2St s
  | .fmulSt3St => Sys2Proof.Machine.execFmulSt3St s
  | .fmulSt4St => Sys2Proof.Machine.execFmulSt4St s
  | .fmulSt5St => Sys2Proof.Machine.execFmulSt5St s
  | .fmulSt6St => Sys2Proof.Machine.execFmulSt6St s
  | .fmulSt7St => Sys2Proof.Machine.execFmulSt7St s

end Sys2Proof.Machine
end

