-- ==== Sys2Proof/Machine/Fetch.lean ====
section
/-! DEFINITION. Fetching and decoding one item (a prefix byte, or an instruction without its prefixes), and the code
breakpoints (spec 30 R251, R310, 20 R232, R233, 60 R741; log 19, 20). -/

namespace Sys2Proof.Machine

/-- A byte in front of what was fetched after it. -/
def consByte (b : Byte) (r : List Byte × Option Stop × State) : List Byte × Option Stop × State := (b :: r.1, r.2)

/-- Up to `n` bytes from offset `off`, and what stopped the fetch short of them. -/
def fetchBytes : Nat → Nat → State → List Byte × Option Stop × State
  | 0, _, s => ([], none, s)
  | n + 1, off, s =>
    match fetchByte off s with
    | .ok b t => consByte b (fetchBytes n (off + 1) t)
    | .error e t => ([], some e, t)

def gp0 : Exc := { vector := vecGP, code := .sel 0#16, cr2 := none, dr6 := 0#32 }

def ud : Exc := { vector := vecUD, code := .none, cr2 := none, dr6 := 0#32 }

/-- An item with the state after its fetch, or why there is none. -/
inductive Fetched where
  | item (i : Instr) (s : State)
  | stop (e : Stop) (s : State)
  deriving DecidableEq, Repr

/-- Where the next item starts. -/
def State.itemOff (s : State) : Nat := s.eip.toNat + s.insn.len

/-- The state after fetching the `n` bytes of an item. -/
def afterFetch (n : Nat) (s : State) : State :=
  let t := (fetchBytes n s.itemOff s).2.2
  { t with insn := { t.insn with len := s.insn.len + n } }

/-- Fetch and decode the next item. Only the bytes the item has are fetched; a fetch fault among them comes first, a
fifteenth byte that does not complete the instruction is #GP(0) (30 R251). -/
def fetchItem (s : State) : Fetched :=
  let r := fetchBytes (Config.maxInsnLen - s.insn.len) s.itemOff s
  match decode s.sizes r.1 with
  | .ok (i, rest) => .item i (afterFetch (r.1.length - rest.length) s)
  | .error (.invalid rest) => .stop (.exc ud) (afterFetch (r.1.length - rest.length) s)
  | .error .short => .stop (r.2.1.getD (.exc gp0)) r.2.2

/-- The prefix bytes (30 R252). -/
def isPrefix : Instr → Bool
  | .opSizePrefix => true
  | .addrSizePrefix => true
  | .lockPrefix => true
  | .repPrefix => true
  | .repnePrefix => true
  | .esPrefix => true
  | .csPrefix => true
  | .ssPrefix => true
  | .dsPrefix => true
  | .fsPrefix => true
  | .gsPrefix => true
  | _ => false

/-! ### Code breakpoints (60 R741 (c)) -/

/-- The bits B0 to B3 of the enabled execute breakpoints at CS:EIP. -/
def State.codeBreaks (s : State) : Word :=
  let here := s.segs.cs.base + s.eip
  let hit (i : Nat) : Bool := s.dr.enabled i && s.dr.rw i == 0#2 && s.dr.addr i == here
  (BitVec.ofBool (hit 3) ++ BitVec.ofBool (hit 2) ++ BitVec.ofBool (hit 1) ++ BitVec.ofBool (hit 0)).setWidth 32

end Sys2Proof.Machine
end

