-- ==== Sys2Proof/Machine/Cycle.lean ====
section
/-! DEFINITION. One step of the machine: RESET, the events at an instruction boundary, the prefixes and the instruction
they precede (spec 60 R725 to R728, R771, 44 R650, 70 R830, R872, R875; log 20 to 22, 32). -/

namespace Sys2Proof.Machine

/-! ### An instruction and its prefixes (30 R310) -/

/-- Fetch the items of one instruction: each prefix byte notes itself, the first other item ends the fetch. -/
def fetchInsn : Nat → State → Fetched
  | 0, s => .stop (.exc gp0) s
  | k + 1, s =>
    match fetchItem s with
    | .stop e t => .stop e t
    | .item i t =>
      if isPrefix i then
        match exec i t with
        | .next u => fetchInsn k u
        | .fault _ => .stop (.exc gp0) t
        | .refused r => .stop (.refuse r) t
      else .item i t

/-- The whole instruction at CS:EIP. -/
def State.nextInsn (s : State) : Fetched := fetchInsn (Config.maxInsnLen + 1) s

/-! ### Queued instructions after a mode change (70 R860) -/

/-- A mode is another one than the present: PE, PG, or the tables of its paging. -/
def StaleMode.differs (e : StaleMode) (c : Cr0) : Bool := e.PE != c.PE || e.PG != c.PG || (e.PG && e.paging.isSome)

/-- The modes queued instructions may have been decoded in, but the present one. -/
def State.queuedModes (s : State) : List StaleMode :=
  let here := s.segs.cs.base + s.eip
  s.staleModes.filter fun e => decide ((here - e.next).toNat < Config.prefetchDepth) && e.differs s.cr0

/-- The instructions that behave the same in both modes at CPL 0 (70 R860); `clean` where only such instructions have
followed the write of CR0, so that a JMP of any kind has one result, that of the new mode. -/
def modeSafe (clean : Bool) : Instr → Bool
  | .jmpJb _ => true
  | .jmpJv _ => true
  | .jmpEv _ => clean
  | .jmpFarAp _ _ => clean
  | .jmpFarMp _ => clean
  | .nop => true
  | .movEbGb (.reg _) _ => true
  | .movEvGv (.reg _) _ => true
  | .movGbEb _ (.reg _) => true
  | .movGvEv _ (.reg _) => true
  | .movRdCd _ _ => true
  | .movCdRd _ _ => true
  | _ => false

def State.inMode (s : State) (m : Option StaleMode) : State := { s with insn := { s.insn with oldMode := m } }

/-- What an instruction's context says of its bytes. -/
def Insn.shape (i : Insn) : Insn := { i with useStale := none, oldMode := none, kept := [] }

/-- Both fetches give one safe instruction, with the same prefixes, under one pair of sizes. -/
def sameSafe (clean : Bool) (a b : Fetched) : Bool :=
  match a, b with
  | .item i s, .item j t => i == j && modeSafe clean i && s.insn.shape == t.insn.shape && s.sizes == t.sizes
  | _, _ => false

/-- After an instruction that differs, a JMP differs too. -/
def State.unclean (s : State) : State :=
  { s with staleModes := s.staleModes.map fun e => { e with clean := false } }

/-- An instruction one of whose bytes meets a page fault in its old mode is not in the queue (20 R232). -/
def Fetched.inQueue : Fetched → Bool
  | .stop (.exc e) _ => e.vector != vecPF
  | _ => true

/-- Choose the mode of the instruction at CS:EIP: for an instruction that differs, the present mode or a queued one,
not determined which. -/
def chooseMode (s : State) : State :=
  let ms := s.queuedModes.filter fun m => (s.inMode (some m)).nextInsn.inQueue
  let clean := s.staleModes.all fun e => e.clean
  if ms.all fun m => sameSafe clean s.nextInsn (s.inMode (some m)).nextInsn then s
  else
    match drawUpTo ms.length s.unclean with
    | .ok k t => t.inMode ((none :: ms.map some)[k]?.getD none)
    | .error _ t => t

/-- One instruction: the repeated one in progress, or the one at CS:EIP. -/
def runInstruction (s : State) : Answer :=
  match s.repeating with
  | some (i, c) => exec i { s with insn := c }
  | none =>
    match (chooseMode { s with insn := Insn.start }).nextInsn with
    | .stop e t => settle t (.error e t)
    | .item i t => exec i t

/-! ### Events -/

def Event.ofNmi : Event := { kind := .nmi, vector := vecNMI, code := .none, setRF := false }
def Event.ofIntr (vector : Byte) : Event := { kind := .intr, vector := vector, code := .none, setRF := false }

/-- A debug trap: its causes go to DR6 as it is delivered. -/
def Event.debugTrap : Event := { kind := .exception, vector := vecDB, code := .none, setRF := false }

def State.nmiReady (s : State) : Bool := s.nmiPending && !s.nmiBlocked

/-- The vector of an INTR that may be taken (60 R725). -/
def State.intrReady (s : State) : Option Byte := if s.flags.IF && !s.inhibitInt then s.intr else none

/-- RESET: the state of 10 R121, memory, devices, the coprocessor's kind and lines and INTR as they were (70 R830,
R834; log 21). -/
def State.afterReset (s : State) : State :=
  { State.reset with
    cr0 := { State.reset.cr0 with ET := s.npx.kind == .npx387 }
    npx := { Npx.absent with kind := s.npx.kind, busy := s.npx.busy, error := s.npx.error }
    intr := s.intr
    mem := s.mem
    physMap := s.physMap
    trace := s.trace
    draws := s.draws }

/-- An NMI in shutdown restarts the processor in real mode (60 R771; log 32). -/
def State.restarted (s : State) : State :=
  { s with cr0 := { s.cr0 with PE := false, PG := false }, flags := { s.flags with VM := false } }

/-! ### The boundary between two instructions (60 R728; log 50) -/

/-- What may be taken at a boundary, by rank. -/
inductive Offer where
  | trap
  | codeBreak
  | nmi
  | intr (vector : Byte)
  deriving DecidableEq, Repr

/-- The highest of ranks 3 to 6 that is pending. -/
def State.offer (s : State) : Option Offer :=
  if s.inhibitAll then none
  else if s.pendingDb != 0#32 then some .trap
  else if s.run == .running && !s.flags.RF && s.codeBreaks != 0#32 then some .codeBreak
  else if s.nmiReady then some .nmi
  else s.intrReady.map .intr

def Offer.take (s : State) : Offer → Answer
  | .trap => takeEvent eventFuel .debugTrap s
  | .codeBreak => takeException { vector := vecDB, code := .none, cr2 := none, dr6 := s.codeBreaks } s
  | .nmi => takeEvent eventFuel .ofNmi s
  | .intr v => takeEvent eventFuel (.ofIntr v) s

/-- What the instruction about to execute is to R728: a fault (rank 1), a general-detect fault (rank 4), INT n, INT 3 or
INTO that traps (rank 2), or none of these. -/
inductive Ahead where
  | plain
  | fault
  | debugFault
  | trap
  deriving DecidableEq, Repr

/-- The instruction about to execute is a software interrupt; a repetition in progress is none, whatever its bytes have
become (43 R561). -/
def State.trapNext (s : State) : Bool :=
  s.repeating.isNone &&
  match (chooseMode { s with insn := Insn.start }).nextInsn with
  | .item (.intIb _) _ => true
  | .item .int3 _ => true
  | .item .into _ => s.flags.OF
  | _ => false

/-- Try the instruction about to execute, in a copy of the machine: marked as halted, with DR6 clear, the copy is
running again only if the instruction took an exception, and then DR6.BD tells a general-detect fault. Answers also the
free values the trial has used. -/
def State.ahead (s : State) : Ahead × Nat :=
  let t := { s with run := .halted, dr := { s.dr with dr6 := 0#32 } }
  match runInstruction t with
  | .next u =>
    (if u.run == .halted then (if s.trapNext then .trap else .plain)
     else if bit u.dr.dr6 13 then .debugFault else .fault, u.draws)
  | .fault _ => (.plain, s.draws)
  | .refused _ => (.plain, s.draws)

/-- Whether the instruction comes before what is offered. -/
def Ahead.before : Ahead → Offer → Bool
  | .plain, _ => false
  | .fault, _ => true
  | .trap, _ => true
  | .debugFault, .trap => false
  | .debugFault, .codeBreak => false
  | .debugFault, .nmi => true
  | .debugFault, .intr _ => true

/-- The boundary of a running machine. -/
def runningBoundary (s : State) : Answer :=
  match s.offer with
  | none => runInstruction s
  | some o =>
    let a := s.ahead
    if a.1.before o then runInstruction s else o.take { s with draws := a.2 }

/-- Halted with nothing to take: a wait while IF = 1, else the end of the run (70 R875). -/
def haltedIdle (s : State) : Answer := if s.flags.IF then .next s.coprocessed else .fault .halted

/-- The boundary of a machine that waits after HLT. That a pending debug trap (TF = 1 through the HLT, 60 R741 (a)) ends
the halt as NMI and INTR do is the model's choice: 44 R650, 60 R815 and 70 R875 name NMI, INTR and RESET only (DESIGN
CHOICE; log 32). -/
def haltedBoundary (s : State) : Answer :=
  match s.offer with
  | none => haltedIdle s
  | some o => o.take s

def cycle (s : State) : Answer :=
  if s.resetPin then .next s.afterReset
  else
    match s.run with
    | .running => runningBoundary s
    | .halted => haltedBoundary s
    | .shutdown => if s.nmiReady then takeEvent eventFuel .ofNmi s.restarted else .fault .shutdown

/-! ### Placing an instruction where the next step fetches it -/

/-- The physical address the fetch at linear address `la` uses. -/
def State.fetchPhys (s : State) (la : Word) : Word :=
  match translate la false s.userLevel s with
  | .ok pa _ => pa
  | .error _ _ => la

def storeAt : List Byte → Nat → State → State
  | [], _, s => s
  | b :: bs, off, s =>
    storeAt bs (off + 1)
      { s with mem := Memory.write s.mem (s.fetchPhys (s.segs.cs.base + BitVec.ofNat 32 off)).toNat b }

end Sys2Proof.Machine
end

