-- ==== Sys2Proof/Machine/Step.lean ====
section
/-! DEFINITION. `step`, and the placing of an instruction at CS:EIP for the host. -/

namespace Sys2Proof.Machine

/-- One step: RESET, the delivery of one event, or one instruction (70 R872). -/
def step (s : State) : Host.Outcome State Fault Refusal := cycle s

/-- `s` with the instruction `w` of `nbits` bits, zeros after it, at CS:EIP, and nothing queued that differs
(log 39). -/
def State.withFetchWord (s : State) (nbits w : Nat) : State :=
  (storeAt (fetchImage nbits w) s.eip.toNat s).flushed

end Sys2Proof.Machine
end

