-- ==== Sys2Proof/Safety.lean ====
section
/-! DEFINITION. What claims call a safe run, the invariant of the machine's state, the prefixes an instruction takes. -/

namespace Sys2Proof.Machine

/-- The step answers a next state: no end of the run, no refusal. -/
def Steps (s : State) : Prop := ∃ t, step s = .next t

/-- The invariant every step keeps: memory has its canonical form, CR3 reads 0 in its low 12 bits (10 R64), paging is
on in protected mode only (44 R631), no instruction is in progress between two steps (log 20), and a repetition in
progress is one of a string instruction, with no memory bits of its own to keep (log 10). -/
def Inv (s : State) : Prop :=
  Memory.wf s.mem = true ∧ s.cr3 &&& 0xFFF#32 = 0#32 ∧ (s.cr0.PG = true → s.cr0.PE = true) ∧ s.insn = Insn.start ∧
  ∀ p ∈ s.repeating, isString p.1 = true ∧ p.2.kept = []

/-- The prefixes seen are ones an instruction takes that is `lockable`, or a string instruction (30 R253, R255, R258);
LOCK at CPL 0, or at any CPL where `LOCK_NEEDS_CPL0` is false (92 D10; log 15). -/
def State.prefixOk (s : State) (lockable string : Bool) : Prop :=
  (s.insn.lock = true → lockable = true ∧ (s.cpl = 0#2 ∨ Config.lockNeedsCpl0 = false) ∧ s.insn.rep = false ∧
    s.insn.repne = false) ∧
  (s.insn.rep = true ∨ s.insn.repne = true → string = true) ∧ (s.insn.rep = true → s.insn.repne = false)

/-- What an operand access leaves as it was: everything but the TLB, the free values drawn, the note of data breakpoints
met and, in memory, the page-table bytes whose Accessed and Dirty bits it sets, which `insn.kept` lists; the canonical
form is kept. -/
def AccessKeeps (s u : State) : Prop :=
  u = { s with tlb := u.tlb, staleBytes := u.staleBytes, mem := u.mem, trace := u.trace, draws := u.draws,
               pendingDb := u.pendingDb, insn := { s.insn with kept := u.insn.kept } } ∧
  (∀ c ∈ s.insn.kept, c ∈ u.insn.kept) ∧
  (∀ a, (∀ c ∈ u.insn.kept, c.1 ≠ a) → Memory.read u.mem a = Memory.read s.mem a) ∧
  (Memory.wf s.mem = true → Memory.wf u.mem = true)

/-- What the devices see of a write of `n` bytes. -/
def deviceWrites (map : List PhysRegion) (n : Nat) : List Word → List Byte → List IoEvent
  | pa :: pas, b :: bs =>
    if physKind map pa.toNat = some .device then .mem pa n b :: deviceWrites map n pas bs
    else deviceWrites map n pas bs
  | _, _ => []

/-- `t` is `u` with the bytes `bs` stored at the physical addresses `pas`: RAM holds them, devices are sent them, every
other byte reads as before, and nothing else changes but the note of what the prefetch queue may hold. -/
def Stores (u : State) (pas : List Word) (bs : List Byte) (t : State) : Prop :=
  t = { u with mem := t.mem, staleBytes := t.staleBytes, trace := t.trace } ∧
  (∀ p ∈ pas.zip bs, physKind u.physMap p.1.toNat = none → Memory.read t.mem p.1.toNat = p.2) ∧
  (∀ a, (∀ pa ∈ pas, pa.toNat = a → physKind u.physMap a ≠ none) → Memory.read t.mem a = Memory.read u.mem a) ∧
  t.trace = u.trace ++ deviceWrites u.physMap bs.length pas bs

/-- `t` is `u` with the `w`-bit value `v` put in a place: a register, or bytes of memory. -/
def Puts (u : State) (w : Width) : Place → Word → State → Prop
  | .reg n, v, t => t = u.setReg w n v
  | .bytes pas, v, t => Stores u pas (toBytes w.bytes v.toNat) t

end Sys2Proof.Machine
end

