-- ==== Sys2Proof/Certificates/Slice0/Obligations.lean ====
section
/-! DEFINITION. The statements for the provers, after the words they are made of: which instructions do what, as the
tables of the spec give them. -/

namespace Sys2Proof.Claims

open Sys2Proof.Machine

/-! ### Data movement -/

/-- The instructions that only put a value in a register: the register, the width of the write, the value (40 R330 to
R333, R349, R352 to R354, R358). -/
inductive SetsReg (s : State) : Instr → Width → RegNo → Word → Prop
  | movEbGb (n reg) : SetsReg s (.movEbGb (.reg n) reg) .w8 n (s.reg .w8 reg)
  | movEvGv (n reg) : SetsReg s (.movEvGv (.reg n) reg) s.opWidth n (s.reg s.opWidth reg)
  | movEbIb (n imm) : SetsReg s (.movEbIb (.reg n) imm) .w8 n (imm.setWidth 32)
  | movEvIv (n imm) : SetsReg s (.movEvIv (.reg n) imm) s.opWidth n imm.toWord
  | movR8Ib (n imm) : SetsReg s (.movR8Ib n imm) .w8 n (imm.setWidth 32)
  | movRIv (n imm) : SetsReg s (.movRIv n imm) s.opWidth n imm.toWord
  | setccEb (cc n) : SetsReg s (.setccEb cc (.reg n)) .w8 n (if cc.holds s.flags then 1#32 else 0#32)
  | leaGvM (n mem) : SetsReg s (.leaGvM n mem) s.opWidth n (s.regs.offset mem)
  | cbw : s.sizes.op32 = false → SetsReg s .cbw .w16 .eax (((s.regs.eax.setWidth 8).signExtend 16).setWidth 32)
  | cwde : s.sizes.op32 = true → SetsReg s .cbw .w32 .eax ((s.regs.eax.setWidth 16).signExtend 32)
  | cwd : s.sizes.op32 = false → SetsReg s .cwd .w16 .edx (if bit s.regs.eax 15 then 0xFFFF#32 else 0#32)
  | cdq : s.sizes.op32 = true → SetsReg s .cwd .w32 .edx (if bit s.regs.eax 31 then 0xFFFFFFFF#32 else 0#32)
  | lahf : SetsReg s .lahf .w8 .esp
      (0#24 ++ BitVec.ofBool s.flags.SF ++ BitVec.ofBool s.flags.ZF ++ 0#1 ++ BitVec.ofBool s.flags.AF ++ 0#1 ++
        BitVec.ofBool s.flags.PF ++ 1#1 ++ BitVec.ofBool s.flags.CF)

/-- A displacement as a number: a byte is signed (30 R271, R272). -/
def dispValue {w : Nat} : Disp w → Int
  | .none => 0
  | .d8 d => d.toInt
  | .full d => d.toNat

/-- The registers a 16-bit address is the sum of (30 R272). -/
def ea16Regs : Ea16 → List RegNo
  | .bxSi => [.ebx, .esi]
  | .bxDi => [.ebx, .edi]
  | .bpSi => [.ebp, .esi]
  | .bpDi => [.ebp, .edi]
  | .si => [.esi]
  | .di => [.edi]
  | .bp => [.ebp]
  | .bx => [.ebx]

/-- The scaled index: none where the index number is that of ESP (30 R273). -/
def indexValue (r : Regs) (scale : BitVec 2) (index : RegNo) : Nat :=
  if index = .esp then 0 else (r.get index).toNat * 2 ^ scale.toNat

/-- The offset of a memory operand as a sum (30 R271 to R273). -/
def eaValue (r : Regs) : Mem → Int
  | .ind16 b d => (((ea16Regs b).map fun n => ((r.get n).toNat : Int)).sum + dispValue d) % 2 ^ 16
  | .dir16 off => off.toNat
  | .ind32 b d => ((r.get b).toNat + dispValue d) % 2 ^ 32
  | .dir32 off => off.toNat
  | .sib scale index b d => ((r.get b).toNat + indexValue r scale index + dispValue d) % 2 ^ 32
  | .sibDisp scale index off => (indexValue r scale index + off.toNat : Int) % 2 ^ 32

/-- The memory operands whose segment is SS unless overridden: the base is BP, EBP or, with SIB, ESP (30 R271 to
R273). -/
def stackBased : Mem → Bool
  | .ind16 b _ => (ea16Regs b).contains .ebp
  | .ind32 b _ => b == .ebp
  | .sib _ _ b _ => b == .ebp || b == .esp
  | _ => false

/-- The instructions that put an r/m operand in a register: the register, the width of the write, the operand and its
width, and what becomes of its value (40 R330, R337, R338). -/
inductive LoadsRM (s : State) : Instr → Width → RegNo → Width → RM → (Word → Word) → Prop
  | movGbEb (n rm) : LoadsRM s (.movGbEb n rm) .w8 n .w8 rm id
  | movGvEv (n rm) : LoadsRM s (.movGvEv n rm) s.opWidth n s.opWidth rm id
  | movzxGvEb (n rm) : LoadsRM s (.movzxGvEb n rm) s.opWidth n .w8 rm id
  | movzxGvEw (n rm) : LoadsRM s (.movzxGvEw n rm) s.opWidth n .w16 rm id
  | movsxGvEb (n rm) : LoadsRM s (.movsxGvEb n rm) s.opWidth n .w8 rm fun v => (v.setWidth 8).signExtend 32
  | movsxGvEw (n rm) : LoadsRM s (.movsxGvEw n rm) s.opWidth n .w16 rm fun v => (v.setWidth 16).signExtend 32

/-- The instructions that load the accumulator from an address of their own: width, segment, offset (40 R334, R351). -/
inductive LoadsAcc (s : State) : Instr → Width → SegNo → Word → Prop
  | movAlOb (off) : LoadsAcc s (.movAlOb off) .w8 (s.overridden .ds) off.toWord
  | movEaxOv (off) : LoadsAcc s (.movEaxOv off) s.opWidth (s.overridden .ds) off.toWord
  | xlat : LoadsAcc s .xlat .w8 (s.overridden .ds) (s.adWidth.trunc (s.regs.ebx + s.reg .w8 .eax))

/-- The instructions that only store a value: width, segment, offset, value (40 R330, R332, R334, R358). -/
inductive StoresMem (s : State) : Instr → Width → SegNo → Word → Word → Prop
  | movEbGb (m reg) : StoresMem s (.movEbGb (.mem m) reg) .w8 (s.ea m).1 (s.ea m).2 (s.reg .w8 reg)
  | movEvGv (m reg) : StoresMem s (.movEvGv (.mem m) reg) s.opWidth (s.ea m).1 (s.ea m).2 (s.reg s.opWidth reg)
  | movEbIb (m imm) : StoresMem s (.movEbIb (.mem m) imm) .w8 (s.ea m).1 (s.ea m).2 (imm.setWidth 32)
  | movEvIv (m imm) : StoresMem s (.movEvIv (.mem m) imm) s.opWidth (s.ea m).1 (s.ea m).2 imm.toWord
  | movObAl (off) : StoresMem s (.movObAl off) .w8 (s.overridden .ds) off.toWord (s.reg .w8 .eax)
  | movOvEax (off) : StoresMem s (.movOvEax off) s.opWidth (s.overridden .ds) off.toWord (s.reg s.opWidth .eax)
  | setccEb (cc m) : StoresMem s (.setccEb cc (.mem m)) .w8 (s.ea m).1 (s.ea m).2
      (if cc.holds s.flags then 1#32 else 0#32)

/-- XCHG: the width, the r/m operand, the register (40 R339). -/
inductive Exchanges (s : State) : Instr → Width → RM → RegNo → Prop
  | xchgEbGb (rm reg) : Exchanges s (.xchgEbGb rm reg) .w8 rm reg
  | xchgEvGv (rm reg) : Exchanges s (.xchgEvGv rm reg) s.opWidth rm reg
  | xchgEaxEcx : Exchanges s .xchgEaxEcx s.opWidth (.reg .ecx) .eax
  | xchgEaxEdx : Exchanges s .xchgEaxEdx s.opWidth (.reg .edx) .eax
  | xchgEaxEbx : Exchanges s .xchgEaxEbx s.opWidth (.reg .ebx) .eax
  | xchgEaxEsp : Exchanges s .xchgEaxEsp s.opWidth (.reg .esp) .eax
  | xchgEaxEbp : Exchanges s .xchgEaxEbp s.opWidth (.reg .ebp) .eax
  | xchgEaxEsi : Exchanges s .xchgEaxEsi s.opWidth (.reg .esi) .eax
  | xchgEaxEdi : Exchanges s .xchgEaxEdi s.opWidth (.reg .edi) .eax

/-- What one instruction pushes: its value (40 R340 to R343); the upper half of a dword pushed from a segment
register is free. -/
inductive Pushes (s : State) : Instr → Word → Nat → Prop
  | pushR (n) : Pushes s (.pushR n) (s.reg s.opWidth n) 0
  | pushIv (imm) : Pushes s (.pushIv imm) imm.toWord 0
  | pushIb (imm) : Pushes s (.pushIb imm) (imm.signExtend 32) 0
  | pushEs16 : s.opWidth = .w16 → Pushes s .pushEs (s.segs.es.selector.setWidth 32) 0
  | pushEs32 : s.opWidth = .w32 → Pushes s .pushEs (Config.free 16 s.draws ++ s.segs.es.selector) 1
  | pushCs16 : s.opWidth = .w16 → Pushes s .pushCs (s.segs.cs.selector.setWidth 32) 0
  | pushCs32 : s.opWidth = .w32 → Pushes s .pushCs (Config.free 16 s.draws ++ s.segs.cs.selector) 1
  | pushSs16 : s.opWidth = .w16 → Pushes s .pushSs (s.segs.ss.selector.setWidth 32) 0
  | pushSs32 : s.opWidth = .w32 → Pushes s .pushSs (Config.free 16 s.draws ++ s.segs.ss.selector) 1
  | pushDs16 : s.opWidth = .w16 → Pushes s .pushDs (s.segs.ds.selector.setWidth 32) 0
  | pushDs32 : s.opWidth = .w32 → Pushes s .pushDs (Config.free 16 s.draws ++ s.segs.ds.selector) 1
  | pushFs16 : s.opWidth = .w16 → Pushes s .pushFs (s.segs.fs.selector.setWidth 32) 0
  | pushFs32 : s.opWidth = .w32 → Pushes s .pushFs (Config.free 16 s.draws ++ s.segs.fs.selector) 1
  | pushGs16 : s.opWidth = .w16 → Pushes s .pushGs (s.segs.gs.selector.setWidth 32) 0
  | pushGs32 : s.opWidth = .w32 → Pushes s .pushGs (Config.free 16 s.draws ++ s.segs.gs.selector) 1

/-! ### Integer arithmetic and logic -/

/-- The two-operand operations with an r/m destination: operation, width, destination, second operand (41 R402 to R405,
R416 to R418). -/
inductive AluTo (s : State) : Instr → AluOp → Width → RM → Word → Prop
  | addEbGb (rm reg) : AluTo s (.addEbGb rm reg) .add .w8 rm (s.reg .w8 reg)
  | addEvGv (rm reg) : AluTo s (.addEvGv rm reg) .add s.opWidth rm (s.reg s.opWidth reg)
  | addAlIb (imm) : AluTo s (.addAlIb imm) .add .w8 (.reg .eax) (imm.setWidth 32)
  | addEaxIv (imm) : AluTo s (.addEaxIv imm) .add s.opWidth (.reg .eax) (s.opWidth.trunc imm.toWord)
  | addEbIb (rm imm) : AluTo s (.addEbIb rm imm) .add .w8 rm (imm.setWidth 32)
  | addEvIv (rm imm) : AluTo s (.addEvIv rm imm) .add s.opWidth rm (s.opWidth.trunc imm.toWord)
  | addEvIb (rm imm) : AluTo s (.addEvIb rm imm) .add s.opWidth rm (s.opWidth.trunc (imm.signExtend 32))
  | orEbGb (rm reg) : AluTo s (.orEbGb rm reg) .or .w8 rm (s.reg .w8 reg)
  | orEvGv (rm reg) : AluTo s (.orEvGv rm reg) .or s.opWidth rm (s.reg s.opWidth reg)
  | orAlIb (imm) : AluTo s (.orAlIb imm) .or .w8 (.reg .eax) (imm.setWidth 32)
  | orEaxIv (imm) : AluTo s (.orEaxIv imm) .or s.opWidth (.reg .eax) (s.opWidth.trunc imm.toWord)
  | orEbIb (rm imm) : AluTo s (.orEbIb rm imm) .or .w8 rm (imm.setWidth 32)
  | orEvIv (rm imm) : AluTo s (.orEvIv rm imm) .or s.opWidth rm (s.opWidth.trunc imm.toWord)
  | orEvIb (rm imm) : AluTo s (.orEvIb rm imm) .or s.opWidth rm (s.opWidth.trunc (imm.signExtend 32))
  | adcEbGb (rm reg) : AluTo s (.adcEbGb rm reg) .adc .w8 rm (s.reg .w8 reg)
  | adcEvGv (rm reg) : AluTo s (.adcEvGv rm reg) .adc s.opWidth rm (s.reg s.opWidth reg)
  | adcAlIb (imm) : AluTo s (.adcAlIb imm) .adc .w8 (.reg .eax) (imm.setWidth 32)
  | adcEaxIv (imm) : AluTo s (.adcEaxIv imm) .adc s.opWidth (.reg .eax) (s.opWidth.trunc imm.toWord)
  | adcEbIb (rm imm) : AluTo s (.adcEbIb rm imm) .adc .w8 rm (imm.setWidth 32)
  | adcEvIv (rm imm) : AluTo s (.adcEvIv rm imm) .adc s.opWidth rm (s.opWidth.trunc imm.toWord)
  | adcEvIb (rm imm) : AluTo s (.adcEvIb rm imm) .adc s.opWidth rm (s.opWidth.trunc (imm.signExtend 32))
  | sbbEbGb (rm reg) : AluTo s (.sbbEbGb rm reg) .sbb .w8 rm (s.reg .w8 reg)
  | sbbEvGv (rm reg) : AluTo s (.sbbEvGv rm reg) .sbb s.opWidth rm (s.reg s.opWidth reg)
  | sbbAlIb (imm) : AluTo s (.sbbAlIb imm) .sbb .w8 (.reg .eax) (imm.setWidth 32)
  | sbbEaxIv (imm) : AluTo s (.sbbEaxIv imm) .sbb s.opWidth (.reg .eax) (s.opWidth.trunc imm.toWord)
  | sbbEbIb (rm imm) : AluTo s (.sbbEbIb rm imm) .sbb .w8 rm (imm.setWidth 32)
  | sbbEvIv (rm imm) : AluTo s (.sbbEvIv rm imm) .sbb s.opWidth rm (s.opWidth.trunc imm.toWord)
  | sbbEvIb (rm imm) : AluTo s (.sbbEvIb rm imm) .sbb s.opWidth rm (s.opWidth.trunc (imm.signExtend 32))
  | andEbGb (rm reg) : AluTo s (.andEbGb rm reg) .and .w8 rm (s.reg .w8 reg)
  | andEvGv (rm reg) : AluTo s (.andEvGv rm reg) .and s.opWidth rm (s.reg s.opWidth reg)
  | andAlIb (imm) : AluTo s (.andAlIb imm) .and .w8 (.reg .eax) (imm.setWidth 32)
  | andEaxIv (imm) : AluTo s (.andEaxIv imm) .and s.opWidth (.reg .eax) (s.opWidth.trunc imm.toWord)
  | andEbIb (rm imm) : AluTo s (.andEbIb rm imm) .and .w8 rm (imm.setWidth 32)
  | andEvIv (rm imm) : AluTo s (.andEvIv rm imm) .and s.opWidth rm (s.opWidth.trunc imm.toWord)
  | andEvIb (rm imm) : AluTo s (.andEvIb rm imm) .and s.opWidth rm (s.opWidth.trunc (imm.signExtend 32))
  | subEbGb (rm reg) : AluTo s (.subEbGb rm reg) .sub .w8 rm (s.reg .w8 reg)
  | subEvGv (rm reg) : AluTo s (.subEvGv rm reg) .sub s.opWidth rm (s.reg s.opWidth reg)
  | subAlIb (imm) : AluTo s (.subAlIb imm) .sub .w8 (.reg .eax) (imm.setWidth 32)
  | subEaxIv (imm) : AluTo s (.subEaxIv imm) .sub s.opWidth (.reg .eax) (s.opWidth.trunc imm.toWord)
  | subEbIb (rm imm) : AluTo s (.subEbIb rm imm) .sub .w8 rm (imm.setWidth 32)
  | subEvIv (rm imm) : AluTo s (.subEvIv rm imm) .sub s.opWidth rm (s.opWidth.trunc imm.toWord)
  | subEvIb (rm imm) : AluTo s (.subEvIb rm imm) .sub s.opWidth rm (s.opWidth.trunc (imm.signExtend 32))
  | xorEbGb (rm reg) : AluTo s (.xorEbGb rm reg) .xor .w8 rm (s.reg .w8 reg)
  | xorEvGv (rm reg) : AluTo s (.xorEvGv rm reg) .xor s.opWidth rm (s.reg s.opWidth reg)
  | xorAlIb (imm) : AluTo s (.xorAlIb imm) .xor .w8 (.reg .eax) (imm.setWidth 32)
  | xorEaxIv (imm) : AluTo s (.xorEaxIv imm) .xor s.opWidth (.reg .eax) (s.opWidth.trunc imm.toWord)
  | xorEbIb (rm imm) : AluTo s (.xorEbIb rm imm) .xor .w8 rm (imm.setWidth 32)
  | xorEvIv (rm imm) : AluTo s (.xorEvIv rm imm) .xor s.opWidth rm (s.opWidth.trunc imm.toWord)
  | xorEvIb (rm imm) : AluTo s (.xorEvIb rm imm) .xor s.opWidth rm (s.opWidth.trunc (imm.signExtend 32))

/-- The same with a register destination and an r/m source. -/
inductive AluFrom : State → Instr → AluOp → Width → RegNo → RM → Prop
  | addGbEb (s reg rm) : AluFrom s (.addGbEb reg rm) .add .w8 reg rm
  | addGvEv (s reg rm) : AluFrom s (.addGvEv reg rm) .add s.opWidth reg rm
  | orGbEb (s reg rm) : AluFrom s (.orGbEb reg rm) .or .w8 reg rm
  | orGvEv (s reg rm) : AluFrom s (.orGvEv reg rm) .or s.opWidth reg rm
  | adcGbEb (s reg rm) : AluFrom s (.adcGbEb reg rm) .adc .w8 reg rm
  | adcGvEv (s reg rm) : AluFrom s (.adcGvEv reg rm) .adc s.opWidth reg rm
  | sbbGbEb (s reg rm) : AluFrom s (.sbbGbEb reg rm) .sbb .w8 reg rm
  | sbbGvEv (s reg rm) : AluFrom s (.sbbGvEv reg rm) .sbb s.opWidth reg rm
  | andGbEb (s reg rm) : AluFrom s (.andGbEb reg rm) .and .w8 reg rm
  | andGvEv (s reg rm) : AluFrom s (.andGvEv reg rm) .and s.opWidth reg rm
  | subGbEb (s reg rm) : AluFrom s (.subGbEb reg rm) .sub .w8 reg rm
  | subGvEv (s reg rm) : AluFrom s (.subGvEv reg rm) .sub s.opWidth reg rm
  | xorGbEb (s reg rm) : AluFrom s (.xorGbEb reg rm) .xor .w8 reg rm
  | xorGvEv (s reg rm) : AluFrom s (.xorGvEv reg rm) .xor s.opWidth reg rm

/-- CMP and TEST with an r/m first operand (41 R406, R420). -/
inductive Compares (s : State) : Instr → AluOp → Width → RM → Word → Prop
  | cmpEbGb (rm reg) : Compares s (.cmpEbGb rm reg) .cmp .w8 rm (s.reg .w8 reg)
  | cmpEvGv (rm reg) : Compares s (.cmpEvGv rm reg) .cmp s.opWidth rm (s.reg s.opWidth reg)
  | cmpAlIb (imm) : Compares s (.cmpAlIb imm) .cmp .w8 (.reg .eax) (imm.setWidth 32)
  | cmpEaxIv (imm) : Compares s (.cmpEaxIv imm) .cmp s.opWidth (.reg .eax) (s.opWidth.trunc imm.toWord)
  | cmpEbIb (rm imm) : Compares s (.cmpEbIb rm imm) .cmp .w8 rm (imm.setWidth 32)
  | cmpEvIv (rm imm) : Compares s (.cmpEvIv rm imm) .cmp s.opWidth rm (s.opWidth.trunc imm.toWord)
  | cmpEvIb (rm imm) : Compares s (.cmpEvIb rm imm) .cmp s.opWidth rm (s.opWidth.trunc (imm.signExtend 32))
  | testEbGb (rm reg) : Compares s (.testEbGb rm reg) .and .w8 rm (s.reg .w8 reg)
  | testEvGv (rm reg) : Compares s (.testEvGv rm reg) .and s.opWidth rm (s.reg s.opWidth reg)
  | testAlIb (imm) : Compares s (.testAlIb imm) .and .w8 (.reg .eax) (imm.setWidth 32)
  | testEaxIv (imm) : Compares s (.testEaxIv imm) .and s.opWidth (.reg .eax) (s.opWidth.trunc imm.toWord)
  | testEbIb (rm imm) : Compares s (.testEbIb rm imm) .and .w8 rm (imm.setWidth 32)
  | testEvIv (rm imm) : Compares s (.testEvIv rm imm) .and s.opWidth rm (s.opWidth.trunc imm.toWord)

/-- INC and DEC are ADD and SUB of 1 with CF kept, NEG is 0 minus the operand, NOT changes no flag. -/
def incResult (w : Width) (a : Word) (f : Flags) : Word × Flags :=
  ((addFlags w a 1#32 false f).1, { (addFlags w a 1#32 false f).2 with CF := f.CF })

def decResult (w : Width) (a : Word) (f : Flags) : Word × Flags :=
  ((subFlags w a 1#32 false f).1, { (subFlags w a 1#32 false f).2 with CF := f.CF })

def negResult (w : Width) (a : Word) (f : Flags) : Word × Flags := subFlags w 0#32 a false f

def notResult (w : Width) (a : Word) (f : Flags) : Word × Flags := (w.trunc (~~~a), f)

/-- INC, DEC, NEG and NOT: width, operand, and what they make of its value and the flags (41 R407 to R409, R419). -/
inductive Unary (s : State) : Instr → Width → RM → (Word → Flags → Word × Flags) → Prop
  | incEb (rm) : Unary s (.incEb rm) .w8 rm (incResult .w8)
  | incEv (rm) : Unary s (.incEv rm) s.opWidth rm (incResult s.opWidth)
  | decEb (rm) : Unary s (.decEb rm) .w8 rm (decResult .w8)
  | decEv (rm) : Unary s (.decEv rm) s.opWidth rm (decResult s.opWidth)
  | negEb (rm) : Unary s (.negEb rm) .w8 rm (negResult .w8)
  | negEv (rm) : Unary s (.negEv rm) s.opWidth rm (negResult s.opWidth)
  | notEb (rm) : Unary s (.notEb rm) .w8 rm (notResult .w8)
  | notEv (rm) : Unary s (.notEv rm) s.opWidth rm (notResult s.opWidth)
  | incEax : Unary s .incEax s.opWidth (.reg .eax) (incResult s.opWidth)
  | incEcx : Unary s .incEcx s.opWidth (.reg .ecx) (incResult s.opWidth)
  | incEdx : Unary s .incEdx s.opWidth (.reg .edx) (incResult s.opWidth)
  | incEbx : Unary s .incEbx s.opWidth (.reg .ebx) (incResult s.opWidth)
  | incEsp : Unary s .incEsp s.opWidth (.reg .esp) (incResult s.opWidth)
  | incEbp : Unary s .incEbp s.opWidth (.reg .ebp) (incResult s.opWidth)
  | incEsi : Unary s .incEsi s.opWidth (.reg .esi) (incResult s.opWidth)
  | incEdi : Unary s .incEdi s.opWidth (.reg .edi) (incResult s.opWidth)
  | decEax : Unary s .decEax s.opWidth (.reg .eax) (decResult s.opWidth)
  | decEcx : Unary s .decEcx s.opWidth (.reg .ecx) (decResult s.opWidth)
  | decEdx : Unary s .decEdx s.opWidth (.reg .edx) (decResult s.opWidth)
  | decEbx : Unary s .decEbx s.opWidth (.reg .ebx) (decResult s.opWidth)
  | decEsp : Unary s .decEsp s.opWidth (.reg .esp) (decResult s.opWidth)
  | decEbp : Unary s .decEbp s.opWidth (.reg .ebp) (decResult s.opWidth)
  | decEsi : Unary s .decEsi s.opWidth (.reg .esi) (decResult s.opWidth)
  | decEdi : Unary s .decEdi s.opWidth (.reg .edi) (decResult s.opWidth)

/-- The `k`-th free bit after those drawn so far. -/
def freeBit (u : State) (k : Nat) : Bool := Config.free 1 (u.draws + k) == 1#1

/-- MUL and IMUL with one operand: width, operand, signed or not (41 R410, R411). -/
inductive Multiplies (s : State) : Instr → Width → RM → Bool → Prop
  | mulEb (rm) : Multiplies s (.mulEb rm) .w8 rm false
  | mulEv (rm) : Multiplies s (.mulEv rm) s.opWidth rm false
  | imulEb (rm) : Multiplies s (.imulEb rm) .w8 rm true
  | imulEv (rm) : Multiplies s (.imulEv rm) s.opWidth rm true

/-- A value of width `w` as an integer, signed or not. -/
def asInt (w : Width) (signed : Bool) (v : Word) : Int := if signed then w.signed v else v.toNat

/-- The two halves of a double-width number in AH:AL, DX:AX or EDX:EAX (41 R410). -/
def putWide (u : State) (w : Width) (v : Int) : State :=
  (u.setReg w .eax (BitVec.ofInt 32 v)).setReg w (match w with | .w8 => .esp | _ => .edx)
    (BitVec.ofInt 32 (v / (2 ^ w.bits : Nat)))

/-- CF and OF defined, SF, ZF, AF and PF free (41 R410 to R413). -/
def mulFlagged (u : State) (c : Bool) : State :=
  { u with draws := u.draws + 4,
           flags := { u.flags with CF := c, OF := c, SF := freeBit u 0, ZF := freeBit u 1, AF := freeBit u 2,
                                   PF := freeBit u 3 } }

/-- All six status flags free (41 R414, R415, 44 R630). -/
def allFlagsFree (u : State) : State :=
  { u with draws := u.draws + 6,
           flags := { u.flags with OF := freeBit u 0, SF := freeBit u 1, ZF := freeBit u 2, AF := freeBit u 3,
                                   PF := freeBit u 4, CF := freeBit u 5 } }

/-- DIV and IDIV: width, operand, signed or not (41 R414, R415). -/
inductive Divides (s : State) : Instr → Width → RM → Bool → Prop
  | divEb (rm) : Divides s (.divEb rm) .w8 rm false
  | divEv (rm) : Divides s (.divEv rm) s.opWidth rm false
  | idivEb (rm) : Divides s (.idivEb rm) .w8 rm true
  | idivEv (rm) : Divides s (.idivEv rm) s.opWidth rm true

/-- The dividend: AX, DX:AX or EDX:EAX, as a number of twice the width. -/
def dividend (s : State) (w : Width) (signed : Bool) : Int :=
  let v : Nat := match w with
    | .w8 => (s.reg .w16 .eax).toNat
    | w => (s.reg w .edx).toNat * 2 ^ w.bits + (s.reg w .eax).toNat
  if signed && decide (2 ^ (2 * w.bits - 1) ≤ v) then (v : Int) - (2 ^ (2 * w.bits) : Nat) else v

/-- The quotient, truncated toward zero, can be held at the width (41 R414, R415). -/
def quotientFits (w : Width) (signed : Bool) (d b : Int) : Bool :=
  if signed then w.fits (d.tdiv b) else decide (d.tdiv b < (2 ^ w.bits : Nat))

/-- #DE, #BR: exceptions without an error code. -/
def plainExc (vector : Byte) : Exc := { vector := vector, code := .none, cr2 := none, dr6 := 0#32 }

/-- #GP(0). -/
def gpZero (s : State) : Exc := { vector := vecGP, code := .sel (extBit s), cr2 := none, dr6 := 0#32 }

/-- An exception whose error code is the selector with its RPL bits cleared, or EXT (60 R730, R732). -/
def selExc (s : State) (vector : Byte) (sel : Half) : Exc :=
  { vector := vector, code := .sel ((sel &&& 0xFFFC#16) ||| extBit s), cr2 := none, dr6 := 0#32 }

/-- IMUL into a register: the destination, the operand, and the other factor (41 R412, R413). -/
inductive MultipliesTo (s : State) : Instr → RegNo → RM → Word → Prop
  | imulGvEv (reg rm) : MultipliesTo s (.imulGvEv reg rm) reg rm (s.reg s.opWidth reg)
  | imulGvEvIv (reg rm imm) : MultipliesTo s (.imulGvEvIv reg rm imm) reg rm (s.opWidth.trunc imm.toWord)
  | imulGvEvIb (reg rm imm) : MultipliesTo s (.imulGvEvIb reg rm imm) reg rm (s.opWidth.trunc (imm.signExtend 32))

/-! ### Shifts and bits -/

/-- Shifts and rotates: operation, width, operand, count (41 R422 to R427). -/
inductive Shifts (s : State) : Instr → ShiftOp → Width → RM → Word → Prop
  | rolEb1 (rm) : Shifts s (.rolEb1 rm) .rol .w8 rm 1#32
  | rolEv1 (rm) : Shifts s (.rolEv1 rm) .rol s.opWidth rm 1#32
  | rolEbCl (rm) : Shifts s (.rolEbCl rm) .rol .w8 rm (s.reg .w8 .ecx)
  | rolEvCl (rm) : Shifts s (.rolEvCl rm) .rol s.opWidth rm (s.reg .w8 .ecx)
  | rolEbIb (rm imm) : Shifts s (.rolEbIb rm imm) .rol .w8 rm (imm.setWidth 32)
  | rolEvIb (rm imm) : Shifts s (.rolEvIb rm imm) .rol s.opWidth rm (imm.setWidth 32)
  | rorEb1 (rm) : Shifts s (.rorEb1 rm) .ror .w8 rm 1#32
  | rorEv1 (rm) : Shifts s (.rorEv1 rm) .ror s.opWidth rm 1#32
  | rorEbCl (rm) : Shifts s (.rorEbCl rm) .ror .w8 rm (s.reg .w8 .ecx)
  | rorEvCl (rm) : Shifts s (.rorEvCl rm) .ror s.opWidth rm (s.reg .w8 .ecx)
  | rorEbIb (rm imm) : Shifts s (.rorEbIb rm imm) .ror .w8 rm (imm.setWidth 32)
  | rorEvIb (rm imm) : Shifts s (.rorEvIb rm imm) .ror s.opWidth rm (imm.setWidth 32)
  | rclEb1 (rm) : Shifts s (.rclEb1 rm) .rcl .w8 rm 1#32
  | rclEv1 (rm) : Shifts s (.rclEv1 rm) .rcl s.opWidth rm 1#32
  | rclEbCl (rm) : Shifts s (.rclEbCl rm) .rcl .w8 rm (s.reg .w8 .ecx)
  | rclEvCl (rm) : Shifts s (.rclEvCl rm) .rcl s.opWidth rm (s.reg .w8 .ecx)
  | rclEbIb (rm imm) : Shifts s (.rclEbIb rm imm) .rcl .w8 rm (imm.setWidth 32)
  | rclEvIb (rm imm) : Shifts s (.rclEvIb rm imm) .rcl s.opWidth rm (imm.setWidth 32)
  | rcrEb1 (rm) : Shifts s (.rcrEb1 rm) .rcr .w8 rm 1#32
  | rcrEv1 (rm) : Shifts s (.rcrEv1 rm) .rcr s.opWidth rm 1#32
  | rcrEbCl (rm) : Shifts s (.rcrEbCl rm) .rcr .w8 rm (s.reg .w8 .ecx)
  | rcrEvCl (rm) : Shifts s (.rcrEvCl rm) .rcr s.opWidth rm (s.reg .w8 .ecx)
  | rcrEbIb (rm imm) : Shifts s (.rcrEbIb rm imm) .rcr .w8 rm (imm.setWidth 32)
  | rcrEvIb (rm imm) : Shifts s (.rcrEvIb rm imm) .rcr s.opWidth rm (imm.setWidth 32)
  | shlEb1 (rm) : Shifts s (.shlEb1 rm) .shl .w8 rm 1#32
  | shlEv1 (rm) : Shifts s (.shlEv1 rm) .shl s.opWidth rm 1#32
  | shlEbCl (rm) : Shifts s (.shlEbCl rm) .shl .w8 rm (s.reg .w8 .ecx)
  | shlEvCl (rm) : Shifts s (.shlEvCl rm) .shl s.opWidth rm (s.reg .w8 .ecx)
  | shlEbIb (rm imm) : Shifts s (.shlEbIb rm imm) .shl .w8 rm (imm.setWidth 32)
  | shlEvIb (rm imm) : Shifts s (.shlEvIb rm imm) .shl s.opWidth rm (imm.setWidth 32)
  | shrEb1 (rm) : Shifts s (.shrEb1 rm) .shr .w8 rm 1#32
  | shrEv1 (rm) : Shifts s (.shrEv1 rm) .shr s.opWidth rm 1#32
  | shrEbCl (rm) : Shifts s (.shrEbCl rm) .shr .w8 rm (s.reg .w8 .ecx)
  | shrEvCl (rm) : Shifts s (.shrEvCl rm) .shr s.opWidth rm (s.reg .w8 .ecx)
  | shrEbIb (rm imm) : Shifts s (.shrEbIb rm imm) .shr .w8 rm (imm.setWidth 32)
  | shrEvIb (rm imm) : Shifts s (.shrEvIb rm imm) .shr s.opWidth rm (imm.setWidth 32)
  | sarEb1 (rm) : Shifts s (.sarEb1 rm) .sar .w8 rm 1#32
  | sarEv1 (rm) : Shifts s (.sarEv1 rm) .sar s.opWidth rm 1#32
  | sarEbCl (rm) : Shifts s (.sarEbCl rm) .sar .w8 rm (s.reg .w8 .ecx)
  | sarEvCl (rm) : Shifts s (.sarEvCl rm) .sar s.opWidth rm (s.reg .w8 .ecx)
  | sarEbIb (rm imm) : Shifts s (.sarEbIb rm imm) .sar .w8 rm (imm.setWidth 32)
  | sarEvIb (rm imm) : Shifts s (.sarEvIb rm imm) .sar s.opWidth rm (imm.setWidth 32)

/-- SHLD and SHRD: to the left or not, operand, register, count (41 R428, R429). -/
inductive DoubleShifts (s : State) : Instr → Bool → RM → RegNo → Word → Prop
  | shldEvGvIb (rm reg imm) : DoubleShifts s (.shldEvGvIb rm reg imm) true rm reg (imm.setWidth 32)
  | shldEvGvCl (rm reg) : DoubleShifts s (.shldEvGvCl rm reg) true rm reg (s.reg .w8 .ecx)
  | shrdEvGvIb (rm reg imm) : DoubleShifts s (.shrdEvGvIb rm reg imm) false rm reg (imm.setWidth 32)
  | shrdEvGvCl (rm reg) : DoubleShifts s (.shrdEvGvCl rm reg) false rm reg (s.reg .w8 .ecx)

/-- BT: the unit that holds the bit (a register, or segment and offset), and the bit's number in it (41 R430). -/
inductive TestsBit (s : State) : Instr → (RegNo ⊕ (SegNo × Word)) → Nat → Prop
  | btReg (n reg) : TestsBit s (.btEvGv (.reg n) reg) (.inl n) ((s.reg s.opWidth reg).toNat % s.opWidth.bits)
  | btMem (m reg) : TestsBit s (.btEvGv (.mem m) reg)
      (.inr ((s.ea m).1, s.adWidth.trunc ((s.ea m).2 + BitVec.ofInt 32
        (s.opWidth.bytes * (s.opWidth.signed (s.reg s.opWidth reg) / (s.opWidth.bits : Nat))))))
      ((s.reg s.opWidth reg).toNat % s.opWidth.bits)
  | btImmReg (n imm) : TestsBit s (.btEvIb (.reg n) imm) (.inl n) (imm.toNat % s.opWidth.bits)
  | btImmMem (m imm) : TestsBit s (.btEvIb (.mem m) imm) (.inr ((s.ea m).1, s.adWidth.trunc (s.ea m).2))
      (imm.toNat % s.opWidth.bits)

/-- BTS, BTR, BTC: as BT, with what they make of the bit (41 R431 to R433). -/
inductive ChangesBit (s : State) : Instr → (RegNo ⊕ (SegNo × Word)) → Nat → (Bool → Bool) → Prop
  | btsReg (n reg) : ChangesBit s (.btsEvGv (.reg n) reg) (.inl n)
      ((s.reg s.opWidth reg).toNat % s.opWidth.bits) (fun _ => true)
  | btsMem (m reg) : ChangesBit s (.btsEvGv (.mem m) reg)
      (.inr ((s.ea m).1, s.adWidth.trunc ((s.ea m).2 + BitVec.ofInt 32
        (s.opWidth.bytes * (s.opWidth.signed (s.reg s.opWidth reg) / (s.opWidth.bits : Nat))))))
      ((s.reg s.opWidth reg).toNat % s.opWidth.bits) (fun _ => true)
  | btsImmReg (n imm) : ChangesBit s (.btsEvIb (.reg n) imm) (.inl n) (imm.toNat % s.opWidth.bits) (fun _ => true)
  | btsImmMem (m imm) : ChangesBit s (.btsEvIb (.mem m) imm) (.inr ((s.ea m).1, s.adWidth.trunc (s.ea m).2))
      (imm.toNat % s.opWidth.bits) (fun _ => true)
  | btrReg (n reg) : ChangesBit s (.btrEvGv (.reg n) reg) (.inl n)
      ((s.reg s.opWidth reg).toNat % s.opWidth.bits) (fun _ => false)
  | btrMem (m reg) : ChangesBit s (.btrEvGv (.mem m) reg)
      (.inr ((s.ea m).1, s.adWidth.trunc ((s.ea m).2 + BitVec.ofInt 32
        (s.opWidth.bytes * (s.opWidth.signed (s.reg s.opWidth reg) / (s.opWidth.bits : Nat))))))
      ((s.reg s.opWidth reg).toNat % s.opWidth.bits) (fun _ => false)
  | btrImmReg (n imm) : ChangesBit s (.btrEvIb (.reg n) imm) (.inl n) (imm.toNat % s.opWidth.bits) (fun _ => false)
  | btrImmMem (m imm) : ChangesBit s (.btrEvIb (.mem m) imm) (.inr ((s.ea m).1, s.adWidth.trunc (s.ea m).2))
      (imm.toNat % s.opWidth.bits) (fun _ => false)
  | btcReg (n reg) : ChangesBit s (.btcEvGv (.reg n) reg) (.inl n)
      ((s.reg s.opWidth reg).toNat % s.opWidth.bits) not
  | btcMem (m reg) : ChangesBit s (.btcEvGv (.mem m) reg)
      (.inr ((s.ea m).1, s.adWidth.trunc ((s.ea m).2 + BitVec.ofInt 32
        (s.opWidth.bytes * (s.opWidth.signed (s.reg s.opWidth reg) / (s.opWidth.bits : Nat))))))
      ((s.reg s.opWidth reg).toNat % s.opWidth.bits) not
  | btcImmReg (n imm) : ChangesBit s (.btcEvIb (.reg n) imm) (.inl n) (imm.toNat % s.opWidth.bits) not
  | btcImmMem (m imm) : ChangesBit s (.btcEvIb (.mem m) imm) (.inr ((s.ea m).1, s.adWidth.trunc (s.ea m).2))
      (imm.toNat % s.opWidth.bits) not

/-- Reading, and reading for writing, the unit of a bit instruction. -/
def unitRead (w : Width) : RegNo ⊕ (SegNo × Word) → M Word
  | .inl n => readRM w (.reg n)
  | .inr a => memReadW w a.1 a.2

def unitModify (w : Width) : RegNo ⊕ (SegNo × Word) → M (Place × Word)
  | .inl n => modifyRM w (.reg n)
  | .inr a => modifyMem w a.1 a.2

/-- CF defined, the other five flags free (41 R430). -/
def bitFlagged (u : State) (c : Bool) : State :=
  { u with draws := u.draws + 5,
           flags := { u.flags with CF := c, OF := freeBit u 0, SF := freeBit u 1, ZF := freeBit u 2,
                                   AF := freeBit u 3, PF := freeBit u 4 } }

/-! ### Flags, stack, decimal adjust -/

/-- Instructions that change flags only, or nothing (40 R355, R359, 43 R580 to R584). -/
inductive SetsFlags (s : State) : Instr → Flags → Prop
  | clc : SetsFlags s .clc { s.flags with CF := false }
  | stc : SetsFlags s .stc { s.flags with CF := true }
  | cmc : SetsFlags s .cmc { s.flags with CF := !s.flags.CF }
  | cld : SetsFlags s .cld { s.flags with DF := false }
  | std : SetsFlags s .std { s.flags with DF := true }
  | sahf : SetsFlags s .sahf { s.flags with SF := bit s.regs.eax 15, ZF := bit s.regs.eax 14, AF := bit s.regs.eax 12,
                                            PF := bit s.regs.eax 10, CF := bit s.regs.eax 8 }
  | nop : SetsFlags s .nop s.flags

/-- The prefix bytes and what they note for the instruction they precede (30 R252 to R256, R261). -/
inductive Prefixes : Instr → (Insn → Insn) → Prop
  | opSize : Prefixes .opSizePrefix fun i => { i with opSize := true }
  | adSize : Prefixes .addrSizePrefix fun i => { i with adSize := true }
  | lock : Prefixes .lockPrefix fun i => { i with lock := true }
  | rep : Prefixes .repPrefix fun i => { i with rep := true }
  | repne : Prefixes .repnePrefix fun i => { i with repne := true }
  | es : Prefixes .esPrefix fun i => { i with seg := some .es }
  | cs : Prefixes .csPrefix fun i => { i with seg := some .cs }
  | ss : Prefixes .ssPrefix fun i => { i with seg := some .ss }
  | ds : Prefixes .dsPrefix fun i => { i with seg := some .ds }
  | fs : Prefixes .fsPrefix fun i => { i with seg := some .fs }
  | gs : Prefixes .gsPrefix fun i => { i with seg := some .gs }

/-- Outside V86 mode, or in it with IOPL 3: PUSHF, POPF, INT n and IRET are allowed (60 R800). -/
def v86Allows (s : State) : Bool := !s.v86 || s.flags.IOPL == 3#2

/-- The stack pointer moved up by `k` bytes. -/
def dropped (u : State) (k : Nat) : State := u.setReg u.stackWidth .esp (u.sp + BitVec.ofNat 32 k)

/-! ### What goes on the stack -/

/-- An item of a frame: a value, a selector, the three defined bits of a page-fault code. -/
inductive Item where
  | val (v : Word)
  | sel (x : Half)
  | page (c : BitVec 3)

/-- What an item is as `g` bytes when `k` free values have been drawn, and how many it takes: the upper half of a
selector's dword and the other bits of a page-fault code are free (93 U27, 60 R730, R754). -/
def Item.value (g k : Nat) : Item → Word × Nat
  | .val v => (v, 0)
  | .sel x => if g = 4 then (Config.free 16 k ++ x, 1) else (x.setWidth 32, 0)
  | .page c => (Config.free 29 k ++ c, 1)

/-- The error code as items. -/
def codeItems : ErrCode → List Item
  | .none => []
  | .sel c => [.sel c]
  | .page c => [.page c]

/-- `t` is `s` with one item of `g` bytes pushed: the bytes just below the top take its value, then the stack pointer
moves down (00 R14). -/
def PushedOne (g : Nat) (x : Item) (s t : State) : Prop :=
  let off := s.stackOff (s.sp - BitVec.ofNat 32 g)
  let v := x.value g s.draws
  let s' : State := { s with draws := s.draws + v.2 }
  ∃ pas u w, memAddrs .ss off g false true s' = .ok pas u ∧ AccessKeeps s' u ∧ Stores u pas (toBytes g v.1.toNat) w ∧
    t = w.setReg s.stackWidth .esp off

/-- The same for a list of items, the first one pushed first. -/
def Pushed (g : Nat) : List Item → State → State → Prop
  | [], s, t => t = s
  | x :: xs, s, t => ∃ u, PushedOne g x s u ∧ Pushed g xs u t

/-- The addresses of items of `n` bytes that lie `js` items below `sp`, each found in the state the one before left. -/
def BlockAddrs (n : Nat) (sp : Word) : List Nat → List (List Word) → State → State → Prop
  | [], ps, s, t => ps = [] ∧ t = s
  | j :: js, ps, s, t => ∃ p qs u, ps = p :: qs ∧
      memAddrs .ss (s.stackOff (sp - BitVec.ofNat 32 (n * j))) n false true s = .ok p u ∧ BlockAddrs n sp js qs u t

/-- Items of `n` bytes stored at such addresses. -/
def BlockStores (n : Nat) : List (List Word) → List Word → State → State → Prop
  | p :: ps, v :: vs, s, t => ∃ u, Stores s p (toBytes n v.toNat) u ∧ BlockStores n ps vs u t
  | _, _, s, t => t = s

/-- `t` is `s` after ENTER has copied `k` frame pointers: the frame pointer moves down, what it points to is pushed
(40 R356). -/
def FramesCopied (w : Width) : Nat → State → State → Prop
  | 0, s, t => t = s
  | k + 1, s, t => ∃ x u v, let bp := w.trunc (s.reg w .ebp - BitVec.ofNat 32 w.bytes)
      memRead .ss bp w.bytes (s.setReg w .ebp bp) = .ok x u ∧ PushedOne w.bytes (.val (BitVec.ofNat 32 x)) u v ∧
      FramesCopied w k v t

/-- `t` is `s` after a call gate has copied `k` parameters of `g` bytes from the old stack, the farthest from its top
`esp` first (42 R527). -/
def ParamsCopied (g : Nat) (ss : SegReg) (esp : Word) : Nat → State → State → Prop
  | 0, s, t => t = s
  | k + 1, s, t => ∃ pas bs u u' v, let off := esp + BitVec.ofNat 32 (g * k)
      regAddrs .ss ss (if ss.big then off else off &&& 0xFFFF#32) g true false s = .ok pas u ∧
      physReadList pas u = .ok bs u' ∧ PushedOne g (.val (BitVec.ofNat 32 (ofBytes bs))) u' v ∧
      ParamsCopied g ss esp k v t

/-- The flags after DAA and DAS: AF, CF, SF, ZF and PF defined, OF free (41 R436, R437). -/
def packedFlags (s : State) (al : Word) (af cf : Bool) : Flags :=
  { s.flags with AF := af, CF := cf, OF := freeBit s 0, SF := bit al 7, ZF := al == 0#32, PF := parity al }

/-! ### Segment registers -/

/-- A segment register loaded in real or V86 mode (10 R45, R47, R48). -/
def realLoad (s : State) (n : SegNo) (sel : Half) : SegReg :=
  if s.v86 then
    { selector := sel, base := sel.setWidth 32 <<< 4, limit := 0xFFFF#32, present := true, dpl := 3#2,
      executable := true, readable := true, writeable := true, expandDown := false, conforming := false, big := false,
      granularity := false, accessed := true, usable := true }
  else { s.seg n with selector := sel, base := sel.setWidth 32 <<< 4, usable := true }

/-- The pops into segment registers (40 R346). -/
inductive PopsSeg : Instr → SegNo → Prop
  | es : PopsSeg .popEs .es
  | ss : PopsSeg .popSs .ss
  | ds : PopsSeg .popDs .ds
  | fs : PopsSeg .popFs .fs
  | gs : PopsSeg .popGs .gs

/-- The loads of far pointers (40 R350). -/
inductive LoadsPointer : Instr → SegNo → RegNo → Mem → Prop
  | lds (reg mem) : LoadsPointer (.ldsGvMp reg mem) .ds reg mem
  | les (reg mem) : LoadsPointer (.lesGvMp reg mem) .es reg mem
  | lfs (reg mem) : LoadsPointer (.lfsGvMp reg mem) .fs reg mem
  | lgs (reg mem) : LoadsPointer (.lgsGvMp reg mem) .gs reg mem
  | lss (reg mem) : LoadsPointer (.lssGvMp reg mem) .ss reg mem

/-- Interrupts and debug traps held off after a load of SS by MOV or POP (10 R72). -/
def inhibited (u : State) (n : SegNo) : State := if n = .ss then { u with inhibitAll := true } else u

/-- The instructions that store a 16-bit system register, and those that exist in protected mode only (40 R336,
44 R616, R618, R620). -/
inductive StoresHalf (s : State) : Instr → RM → Half → Prop
  | movEwSw (rm sg) : StoresHalf s (.movEwSw rm sg) rm (s.seg sg).selector
  | smswEw (rm) : StoresHalf s (.smswEw rm) rm
      (s.cr0.reserved.setWidth 11 ++ BitVec.ofBool s.cr0.ET ++ BitVec.ofBool s.cr0.TS ++ BitVec.ofBool s.cr0.EM ++
        BitVec.ofBool s.cr0.MP ++ BitVec.ofBool s.cr0.PE)
  | sldtEw (rm) : s.protMode = true → StoresHalf s (.sldtEw rm) rm s.ldtr.selector
  | strEw (rm) : s.protMode = true → StoresHalf s (.strEw rm) rm s.tr.selector

/-! ### Transfers of control -/

/-- The relative jumps: taken or not, the displacement, the state with the loop counter moved (42 R495, R497 to
R501). -/
inductive Branches (s : State) : Instr → Bool → Word → State → Prop
  | jmpJb (rel) : Branches s (.jmpJb rel) true (rel.signExtend 32) s.started
  | jmpJv (rel) : Branches s (.jmpJv rel) true rel.signed s.started
  | jccJb (cc rel) : Branches s (.jccJb cc rel) (cc.holds s.flags) (rel.signExtend 32) s.started
  | jccJv (cc rel) : Branches s (.jccJv cc rel) (cc.holds s.flags) rel.signed s.started
  | jcxz (rel) : Branches s (.jcxzJb rel) (s.reg s.adWidth .ecx == 0#32) (rel.signExtend 32) s.started
  | loop (rel) : Branches s (.loopJb rel) (s.adWidth.trunc (s.reg s.adWidth .ecx - 1#32) != 0#32)
      (rel.signExtend 32) (s.started.setReg s.adWidth .ecx (s.reg s.adWidth .ecx - 1#32))
  | loope (rel) : Branches s (.loopeJb rel)
      (s.adWidth.trunc (s.reg s.adWidth .ecx - 1#32) != 0#32 && s.flags.ZF)
      (rel.signExtend 32) (s.started.setReg s.adWidth .ecx (s.reg s.adWidth .ecx - 1#32))
  | loopne (rel) : Branches s (.loopneJb rel)
      (s.adWidth.trunc (s.reg s.adWidth .ecx - 1#32) != 0#32 && !s.flags.ZF)
      (rel.signExtend 32) (s.started.setReg s.adWidth .ecx (s.reg s.adWidth .ecx - 1#32))

/-- A far transfer in real or V86 mode: CS from its selector, continue at `off` (42 R520; log 23). -/
def farTo (u : State) (sel : Half) (off : Word) : State :=
  { u with segs := { u.segs with cs := SegReg.real sel (sel.setWidth 32 <<< 4) (if u.v86 then 3#2 else 0#2) },
           eip := off, staleBytes := [], staleModes := [], repeating := none }

/-- EFLAGS loaded from an image at the privilege level of `s` (43 R593, 42 R533): IF changes with CPL at most IOPL, IOPL
at CPL 0, RF where `rf` says so, VM never. -/
def loadedFlags (s : State) (v : Word) (rf : Bool) : Flags :=
  { CF := bit v 0, PF := bit v 2, AF := bit v 4, ZF := bit v 6, SF := bit v 7, TF := bit v 8,
    IF := if s.cpl ≤ s.flags.IOPL then bit v 9 else s.flags.IF, DF := bit v 10, OF := bit v 11,
    IOPL := if s.cpl = 0#2 then v.extractLsb' 12 2 else s.flags.IOPL, NT := bit v 14,
    RF := if rf then bit v 16 else s.flags.RF, VM := s.flags.VM }

/-- The far JMP or CALL `i` (`call` tells which) goes to `sel:off`, its pointer read by then in state `u`: offset, then
selector (42 R506 to R509). -/
inductive FarGoes (s : State) : Instr → Bool → Half → Word → State → Prop
  | jmpAp (off sel) : FarGoes s (.jmpFarAp off sel) false sel off.toWord s.started
  | callAp (off sel) : FarGoes s (.callFarAp off sel) true sel off.toWord s.started
  | jmpMp (m x y u v) : memRead (s.ea m).1 (s.ea m).2 s.opWidth.bytes s.started = .ok x u →
      memRead (s.ea m).1 ((s.ea m).2 + BitVec.ofNat 32 s.opWidth.bytes) 2 u = .ok y v →
      FarGoes s (.jmpFarMp m) false (BitVec.ofNat 16 y) (BitVec.ofNat 32 x) v
  | callMp (m x y u v) : memRead (s.ea m).1 (s.ea m).2 s.opWidth.bytes s.started = .ok x u →
      memRead (s.ea m).1 ((s.ea m).2 + BitVec.ofNat 32 s.opWidth.bytes) 2 u = .ok y v →
      FarGoes s (.callFarMp m) true (BitVec.ofNat 16 y) (BitVec.ofNat 32 x) v

/-- The far returns and what they drop from the stack besides the return address (42 R510). -/
inductive FarReturns : Instr → Nat → Prop
  | retf : FarReturns .retf 0
  | retfIw (imm : Half) : FarReturns (.retfIw imm) imm.toNat

/-- The code segment of `d` may be entered at privilege level `cpl` by a direct transfer that names it `sel` (42 R522,
R523). -/
def enterable (d : Desc) (sel : Half) (cpl : BitVec 2) : Prop :=
  (d.conforming = true ∧ d.dpl ≤ cpl) ∨ (d.conforming = false ∧ sel.extractLsb' 0 2 ≤ cpl ∧ d.dpl = cpl)

/-- CS holds descriptor `d` at privilege level `cpl`, which the RPL bits of its selector show too. -/
def withCS (u : State) (sel : Half) (d : Desc) (cpl : BitVec 2) : State :=
  { u with segs := u.segs.set .cs (d.toReg ((sel &&& 0xFFFC#16) ||| cpl.setWidth 16) cpl) }

/-- The stack pointer loaded with `v`, read as `n` bytes: a word for a Big stack leaves the upper half free (42 R531;
log 37). -/
def withSP (u : State) (n : Nat) (v : Word) : State :=
  if u.segs.ss.big = true ∧ n = 2 then
    State.setReg { u with draws := u.draws + 1 } .w32 .esp (Config.free 16 u.draws ++ v.setWidth 16)
  else u.setReg u.stackWidth .esp v

/-- A data segment register after a return to privilege level `level`: one that this level may not use is null (42
R532). -/
def returned (r : SegReg) (level : BitVec 2) : SegReg :=
  if r.usable = true ∧ ¬(r.executable = true ∧ r.conforming = true) ∧ r.dpl < level
  then { r with selector := 0#16, usable := false } else r

def returnedSegs (g : Segs) (level : BitVec 2) : Segs :=
  { g with ds := returned g.ds level, es := returned g.es level, fs := returned g.fs level, gs := returned g.gs level }

/-! ### Events -/

/-- The state after `t` of an instruction or event that has ended without completing an instruction. -/
def idled (t : State) : State :=
  { t with insn := Insn.start, inhibitInt := false, inhibitAll := false, repeating := none }

/-- What an exception records: CR2 and DR6 (60 R723, R741). -/
def recordedExc (e : Exc) (s : State) : State :=
  { s with cr2 := e.cr2.getD s.cr2, dr := { s.dr with dr6 := s.dr.dr6 ||| e.dr6 } }

/-- Faults push an image with RF set, #MF and #DF one with RF as it is (60 R722; log 25). -/
def imageRF (vector : Byte) : Bool := vector != 16#8 && vector != 8#8

/-- The event an exception is; DR6.BD tells the general-detect fault. -/
def excEvent (e : Exc) : Event :=
  { kind := .exception, vector := e.vector, code := e.code, setRF := imageRF e.vector, endsGD := bit e.dr6 13 }

/-- The double fault (60 R748). -/
def dfEvent : Event := { kind := .exception, vector := 8#8, code := .sel 0#16, setRF := false }

/-- What the acknowledgement of an event changes: NMI is blocked, INTR is answered, the causes of a debug trap go to
DR6, the entry through a general-detect fault clears DR7.GD (60 R725, R727, R741; log 21, 22, 44). -/
def acked (ev : Event) (s : State) : State :=
  match ev.kind with
  | .nmi => { s with nmiPending := false, nmiBlocked := true }
  | .intr => { s with intr := none }
  | .exception =>
    if ev.vector = 1#8 then { s with
      pendingDb := 0#32
      dr := { s.dr with dr6 := s.dr.dr6 ||| s.pendingDb
                        dr7 := if ev.endsGD then s.dr.dr7 &&& 0xFFFFDFFF#32 else s.dr.dr7 } }
    else s
  | .software => s

/-- What keeps an event that could not be delivered: an NMI is blocked, INTR and the causes of a debug trap are set
aside (60 R748; log 48). -/
def keptEvent (ev : Event) (s : State) : State :=
  match ev.kind with
  | .nmi => { s with nmiBlocked := true }
  | .intr => { s with intr := none, heldIntr := s.intr.toList ++ s.heldIntr }
  | .exception =>
    if ev.vector = 1#8 then { s with pendingDb := 0#32, heldDb := s.heldDb ||| s.pendingDb } else s
  | .software => s

/-- What IRET ends: NMI is no longer blocked, what was set aside is pending (60 R727, R748; log 48). -/
def released (s : State) : State :=
  { s with nmiBlocked := false, pendingDb := s.pendingDb ||| s.heldDb, heldDb := 0#32,
           intr := if s.intr = none then s.heldIntr.head? else s.intr,
           heldIntr := if s.intr = none then s.heldIntr.tail else s.heldIntr }

/-- The EFLAGS image of an event. -/
def imageOf (s : State) (ev : Event) : Flags := { s.flags with RF := s.flags.RF || ev.setRF }

/-- `t` is `s` after the delivery of event `ev` in real mode (60 R769): the vector lies in the table, FLAGS, CS and IP
are pushed as words, IF and TF are cleared, then CS:IP are read from the vector. -/
def RealEntry (ev : Event) (s t : State) : Prop :=
  ∃ x u u1 u2 u3, s.peNow = false ∧ 4 * ev.vector.toNat + 3 ≤ s.idtr.limit.toNat ∧
    push 2 (imageOf s ev).toWord (acked ev s) = .ok () u ∧
    push 2 (s.segs.cs.selector.setWidth 32)
      { u with flags := { s.flags with IF := false, TF := false } } = .ok () u1 ∧
    push 2 s.eip u1 = .ok () u2 ∧
    linRead (s.idtr.base + BitVec.ofNat 32 (4 * ev.vector.toNat)) 4 u2 = .ok x u3 ∧
    t = farTo u3 (BitVec.ofNat 16 (x / 2 ^ 16)) (BitVec.ofNat 32 (x % 2 ^ 16))

/-- `gate` is the gate of event `ev`, read in state `u`: it lies in the IDT, is of a kind the IDT may hold, may be used
by a software interrupt at this level, and is present (60 R760, R761). From here on accesses are at supervisor level
(60 R770). -/
def GateOf (ev : Event) (s : State) (gate : Desc) (u : State) : Prop :=
  s.peNow = true ∧ 8 * ev.vector.toNat + 7 ≤ s.idtr.limit.toNat ∧
  readDesc (s.idtr.base + BitVec.ofNat 32 (8 * ev.vector.toNat))
    { acked ev s with insn := { s.insn with system := true } } = .ok gate u ∧
  gate.sysType ∈ [5, 6, 7, 14, 15] ∧ (ev.kind = .software → s.cpl ≤ gate.dpl) ∧ gate.present = true

/-- The gate names code segment `d`, at `la`, and an offset in it, that may be entered from privilege level `cpl`
(60 R762). -/
def HandlerOf (s : State) (gate : Desc) (u : State) (la : Word) (d : Desc) (v : State) : Prop :=
  gate.sysType ≠ 5 ∧ 4 ≤ gate.gateSel.toNat ∧ s.descAddr gate.gateSel = some la ∧ readDesc la u = .ok d v ∧
  d.isCode = true ∧ d.dpl ≤ s.cpl ∧ d.present = true ∧ gate.gateOff ≤ d.limit

/-- The handler begins at privilege level `cpl`: TF, NT, VM and RF are cleared, IF through an interrupt gate
(60 R766). -/
def entered (w : State) (gate d : Desc) (cpl : BitVec 2) : State :=
  { withCS w gate.gateSel d cpl with
    eip := gate.gateOff, staleBytes := [], staleModes := [], repeating := none,
    flags := { w.flags with TF := false, NT := false, VM := false, RF := false,
                            IF := w.flags.IF && decide (gate.sysType = 7 ∨ gate.sysType = 15) } }

/-- The size of the items a gate pushes. -/
def gateSize (gate : Desc) : Nat := if gate.gate386 then 4 else 2

/-- The data segment registers null, on the way from V86 mode to a handler (60 R765). -/
def nulledSegs (g : Segs) : Segs :=
  { g with ds := { g.ds with selector := 0#16, usable := false }, es := { g.es with selector := 0#16, usable := false },
           fs := { g.fs with selector := 0#16, usable := false }, gs := { g.gs with selector := 0#16, usable := false } }

/-- `t` is `s` after the delivery of event `ev` through its gate: at the same level (60 R763), to an inner level
(R764), from V86 mode (R765), or through a task gate (R768). -/
inductive GateEntry (ev : Event) (s : State) : State → Prop
  | same (gate d la u v v1 v2 v3) : GateOf ev s gate u → HandlerOf s gate u la d v → s.flags.VM = false →
      d.conforming = true ∨ d.dpl = s.cpl →
      s.room (gateSize gate) (3 + (codeItems ev.code).length) = true →
      pushFrame (gateSize gate) (imageOf s ev) s.segs.cs.selector s.eip v = .ok () v1 →
      pushCode (gateSize gate) ev.code v1 = .ok () v2 → markAccessed la d v2 = .ok () v3 →
      GateEntry ev s (entered v3 gate d s.cpl)
  | inner (gate d la stack u v v0 v1 v2 v3 v4 v5 v6) : GateOf ev s gate u → HandlerOf s gate u la d v → s.flags.VM = false →
      d.conforming = false → d.dpl ≠ s.cpl →
      innerStack d.dpl (gateSize gate) (5 + (codeItems ev.code).length) v = .ok stack v0 →
      enterLevel d.dpl stack v0 = .ok () v1 →
      pushSel (gateSize gate) s.segs.ss.selector v1 = .ok () v2 → push (gateSize gate) s.regs.esp v2 = .ok () v3 →
      pushFrame (gateSize gate) (imageOf s ev) s.segs.cs.selector s.eip v3 = .ok () v4 →
      pushCode (gateSize gate) ev.code v4 = .ok () v5 → markAccessed la d v5 = .ok () v6 →
      GateEntry ev s (entered v6 gate d d.dpl)
  | v86 (gate d la stack u v v0 v1 v2 v3 v4 v5) : GateOf ev s gate u → HandlerOf s gate u la d v → s.flags.VM = true →
      d.conforming = false → d.dpl = 0#2 → gate.gate386 = true →
      innerStack 0#2 4 (9 + (codeItems ev.code).length) v = .ok stack v0 →
      enterLevel 0#2 stack { v0 with flags := { s.flags with VM := false } } = .ok () v1 →
      ((do
        pushSel 4 s.segs.gs.selector
        pushSel 4 s.segs.fs.selector
        pushSel 4 s.segs.ds.selector
        pushSel 4 s.segs.es.selector
        pushSel 4 s.segs.ss.selector
        push 4 s.regs.esp) : M Unit) (if stack.wide then v1.setReg .w32 .esp stack.esp else v1) = .ok () v2 →
      pushFrame 4 (imageOf s ev) s.segs.cs.selector s.eip v2 = .ok () v3 →
      pushCode 4 ev.code v3 = .ok () v4 →
      markAccessed la d { v4 with segs := nulledSegs v4.segs } = .ok () v5 →
      GateEntry ev s (entered v5 gate d 0#2)
  | task (gate d la sel u v v1 v2) : GateOf ev s gate u → gate.sysType = 5 → gateTss gate u = .ok (sel, la, d) v →
      taskSwitch .nest sel la d (imageOf s ev) s.eip v = .ok () v1 →
      pushCode (gateSize d) ev.code v1 = .ok () v2 → v2.eip ≤ v2.segs.cs.limit →
      GateEntry ev s { v2 with staleBytes := [], staleModes := [], repeating := none }

/-- The state in which the delivery of event `ev` begins: error codes have EXT set but for a software interrupt
(60 R732). -/
def delivering (ev : Event) (s : State) : State :=
  { s with insn := { Insn.start with ext := decide (ev.kind ≠ .software) } }

/-- What follows exception `e` met in the delivery of `ev`: `none` is shutdown (60 R748, R769, R771). -/
def nextOf (real : Bool) (ev : Event) (e : Exc) : Option Event :=
  let contributory (v : Byte) : Prop := v ∈ [0#8, 10#8, 11#8, 12#8, 13#8]
  if ev.kind = .exception ∧ ev.vector = 8#8 then none
  else if e.vector = 8#8 then some dfEvent
  else if real then none
  else if ev.kind = .exception ∧ ((contributory ev.vector ∧ contributory e.vector) ∨
      (ev.vector = 14#8 ∧ (contributory e.vector ∨ e.vector = 14#8))) then some dfEvent
  else some (excEvent e)

/-- INT n, INT 3 and INTO (with OF = 1) and their vectors (42 R512 to R514). -/
inductive Interrupts (s : State) : Instr → Byte → Prop
  | intIb (v) : v86Allows s = true → Interrupts s (.intIb v) v
  | int3 : Interrupts s .int3 3#8
  | into : s.flags.OF = true → Interrupts s .into 4#8

/-- The events that no exception is: a software interrupt, an NMI, an INTR, a debug trap. -/
def softEvent (v : Byte) : Event := { kind := .software, vector := v, code := .none, setRF := false }
def nmiEvent : Event := { kind := .nmi, vector := 2#8, code := .none, setRF := false }
def intrEvent (v : Byte) : Event := { kind := .intr, vector := v, code := .none, setRF := false }
def trapEvent : Event := { kind := .exception, vector := 1#8, code := .none, setRF := false }

/-- What becomes of an event offered at the boundary before an instruction: a running machine takes it after that
instruction where the instruction faults or is a software interrupt (ranks 1 and 2 of 60 R728), or where it is a
general-detect fault and the event an NMI or INTR (rank 4 before 5 and 6); else now (log 50). -/
def atBoundary (s : State) (external : Bool) (o : State → Answer) : Answer :=
  if s.run = .running then
    if s.ahead.1 = .fault ∨ s.ahead.1 = .trap ∨ (external = true ∧ s.ahead.1 = .debugFault) then runInstruction s
    else o { s with draws := s.ahead.2 }
  else o s

/-- What the instruction about to execute does in a copy of the machine that is marked as halted, with DR6 clear (60 R728;
log 50). -/
def trial (s : State) : Answer := runInstruction { s with run := .halted, dr := { s.dr with dr6 := 0#32 } }

/-- The instruction about to execute is a software interrupt that traps: INT n, INT 3, or INTO with OF set; a repetition
in progress is none (60 R728; log 10). -/
def softwareNext (s : State) : Prop :=
  s.repeating = none ∧ ∃ i t, (chooseMode { s with insn := Insn.start }).nextInsn = .item i t ∧
    ((∃ v, i = .intIb v) ∨ i = .int3 ∨ (i = .into ∧ s.flags.OF = true))

/-- Every bit that a list of (address, bits) names at address `a`. -/
def bitsAt (l : List Host.Cell) (a : Nat) : Byte :=
  l.foldl (fun b c => if c.1 = a then b ||| c.2 else b) 0#8

/-! ### Tasks -/

/-- A value as bytes in memory, `n` of them for each of several. -/
def layout (n : Nat) (vs : List Word) : List Byte := vs.flatMap fun v => toBytes n v.toNat

/-- What a TSS holds of the running task, in its order: EIP, EFLAGS, the general registers, ES, CS, SS, DS (42 R542). -/
def taskWords (s : State) (image : Flags) (eip : Word) : List Word :=
  [eip, image.toWord, s.regs.eax, s.regs.ecx, s.regs.edx, s.regs.ebx, s.regs.esp, s.regs.ebp, s.regs.esi, s.regs.edi,
   s.segs.es.selector.setWidth 32, s.segs.cs.selector.setWidth 32, s.segs.ss.selector.setWidth 32,
   s.segs.ds.selector.setWidth 32]

/-- The 16-bit number at physical address `a`. -/
def memHalf (m : List Host.Cell) (a : Nat) : Half := Memory.read m (a + 1) ++ Memory.read m a

/-- What a task switch writes before it reads the new task: the old task's state into its TSS, the old TSS no longer
busy but for a nesting switch, the new one busy but for a return, the back link for a nesting one (42 R542, R543). -/
def SwitchWrites (kind : SwitchKind) (la base : Word) (image : Flags) (eip : Word) (s t : State) : Prop :=
  ∃ u v w, saveTask { image with NT := image.NT && decide (kind ≠ .back) } eip s = .ok () u ∧
    (if kind = .nest then v = u else ∃ old, s.descAddr s.tr.selector = some old ∧ putBusy old false u = .ok () v) ∧
    (if kind = .back then w = v else putBusy la true v = .ok () w) ∧
    (if kind = .nest then linWrite base 2 s.tr.selector.toNat w = .ok () t else t = w)

/-- The task the new state is of, before its selectors are checked: registers, flags and EIP from its TSS, TS set, the
local breakpoints disabled (42 R543, R544, 60 R814). -/
def OfTask (nest : Bool) (tr : TaskReg) (x : TaskImage) (s t : State) : Prop :=
  t.tr = tr ∧ t.cr0 = { s.cr0 with TS := true } ∧ t.cr3 = x.cr3.getD s.cr3 ∧ t.eip = x.eip ∧ t.regs = x.regs ∧
  t.flags = { x.flags with NT := nest || x.flags.NT } ∧ t.dr = { s.dr with dr7 := s.dr.dr7 &&& 0xFFFFFFAA#32 } ∧
  t.ldtr.selector = x.ldt ∧ t.segs.cs.selector = x.cs ∧ t.segs.ss.selector = x.ss ∧ t.segs.ds.selector = x.ds ∧
  t.segs.es.selector = x.es ∧ t.segs.fs.selector = x.fs ∧ t.segs.gs.selector = x.gs

/-- The six segment registers of a V86 task, loaded as in V86 mode, at CPL 3 (10 R45, R47, 42 R545). -/
def v86Segs (x : TaskImage) : Segs :=
  let r (sel : Half) : SegReg := .real sel (sel.setWidth 32 <<< 4) 3#2
  { es := r x.es, cs := r x.cs, ss := r x.ss, ds := r x.ds, fs := r x.fs, gs := r x.gs }

/-- The checks of the segment selectors of a new task that is no V86 task, in their order (42 R545). -/
def taskSegChecks (x : TaskImage) : M Unit := do
  checkTaskCS x.cs
  checkTaskSS x.ss
  loadDataSeg 10#8 .ds x.ds
  loadDataSeg 10#8 .es x.es
  loadDataSeg 10#8 .fs x.fs
  loadDataSeg 10#8 .gs x.gs

/-! ### Strings and ports -/

/-- The string instructions: whether the repetition looks at ZF, and the step for one element (43 R564 to R570). -/
inductive StringOps (s : State) : Instr → Bool → M Unit → Prop
  | movsb : StringOps s .movsb false (moveElement .w8)
  | movsv : StringOps s .movsv false (moveElement s.opWidth)
  | cmpsb : StringOps s .cmpsb true (compareElement .w8)
  | cmpsv : StringOps s .cmpsv true (compareElement s.opWidth)
  | stosb : StringOps s .stosb false (storeElement .w8)
  | stosv : StringOps s .stosv false (storeElement s.opWidth)
  | lodsb : StringOps s .lodsb false (loadElement .w8)
  | lodsv : StringOps s .lodsv false (loadElement s.opWidth)
  | scasb : StringOps s .scasb true (scanElement .w8)
  | scasv : StringOps s .scasv true (scanElement s.opWidth)
  | insb : StringOps s .insb false (inputElement .w8)
  | insv : StringOps s .insv false (inputElement s.opWidth)
  | outsb : StringOps s .outsb false (outputElement .w8)
  | outsv : StringOps s .outsv false (outputElement s.opWidth)

/-- (E)SI or (E)DI moved by one element of `k` bytes in the direction of DF (43 R560). -/
def stepped (u : State) (k : Nat) (n : RegNo) : State :=
  u.setReg u.adWidth n
    (if u.flags.DF then u.reg u.adWidth n - BitVec.ofNat 32 k else u.reg u.adWidth n + BitVec.ofNat 32 k)

/-- IN and OUT: the width and the port (43 R571 to R574). -/
inductive PortIns (s : State) : Instr → Width → Half → Prop
  | alIb (imm) : PortIns s (.inAlIb imm) .w8 (imm.setWidth 16)
  | eaxIb (imm) : PortIns s (.inEaxIb imm) s.opWidth (imm.setWidth 16)
  | alDx : PortIns s .inAlDx .w8 (s.regs.edx.setWidth 16)
  | eaxDx : PortIns s .inEaxDx s.opWidth (s.regs.edx.setWidth 16)

inductive PortOuts (s : State) : Instr → Width → Half → Prop
  | ibAl (imm) : PortOuts s (.outIbAl imm) .w8 (imm.setWidth 16)
  | ibEax (imm) : PortOuts s (.outIbEax imm) s.opWidth (imm.setWidth 16)
  | dxAl : PortOuts s .outDxAl .w8 (s.regs.edx.setWidth 16)
  | dxEax : PortOuts s .outDxEax s.opWidth (s.regs.edx.setWidth 16)

/-! ### System instructions -/

/-- LAR, LSL, VERR and VERW: the operand, the descriptors they accept, what they do with one (44 R640 to R643). -/
inductive Probes (s : State) : Instr → RM → (Desc → Bool) → (Desc → State → State) → Prop
  | lar (reg rm) : Probes s (.larGvEw reg rm) rm
      (fun d => d.isSegment || [1, 2, 3, 4, 5, 6, 7, 9, 11, 12, 14, 15].contains d.sysType)
      (fun d u => u.setReg s.opWidth reg (d.hi &&& if s.sizes.op32 then 0x00F0FF00#32 else 0xFF00#32))
  | lsl (reg rm) : Probes s (.lslGvEw reg rm) rm
      (fun d => d.isSegment || [1, 2, 3, 9, 11].contains d.sysType) (fun d u => u.setReg s.opWidth reg d.limit)
  | verr (rm) : Probes s (.verrEw rm) rm Desc.readable (fun _ u => u)
  | verw (rm) : Probes s (.verwEw rm) rm Desc.writeable (fun _ u => u)

/-- The privilege rule of the four probes (44 R640). -/
def seen (s : State) (d : Desc) (sel : Half) : Bool :=
  d.conforming || (decide (s.cpl ≤ d.dpl) && decide (sel.extractLsb' 0 2 ≤ d.dpl))

/-- The privileged instructions that exist in every mode (44 R660). -/
inductive Privileged : Instr → Prop
  | lgdt (m) : Privileged (.lgdtMs m)
  | lidt (m) : Privileged (.lidtMs m)
  | lmsw (rm) : Privileged (.lmswEw rm)
  | clts : Privileged .clts
  | hlt : Privileged .hlt
  | movRdCd (n c) : Privileged (.movRdCd n c)
  | movCdRd (c n) : Privileged (.movCdRd c n)
  | movRdDd (n d) : Privileged (.movRdDd n d)
  | movDdRd (d n) : Privileged (.movDdRd d n)
  | movRdTd (n t) : Privileged (.movRdTd n t)
  | movTdRd (t n) : Privileged (.movTdRd t n)

/-- The instructions that exist in protected mode only (44 R660). -/
inductive ProtectedOnly : Instr → Prop
  | lldt (rm) : ProtectedOnly (.lldtEw rm)
  | ltr (rm) : ProtectedOnly (.ltrEw rm)
  | sldt (rm) : ProtectedOnly (.sldtEw rm)
  | str (rm) : ProtectedOnly (.strEw rm)
  | lar (reg rm) : ProtectedOnly (.larGvEw reg rm)
  | lsl (reg rm) : ProtectedOnly (.lslGvEw reg rm)
  | verr (rm) : ProtectedOnly (.verrEw rm)
  | verw (rm) : ProtectedOnly (.verwEw rm)
  | arpl (rm reg) : ProtectedOnly (.arplEwGw rm reg)

/-- A control register with a new value: `none` where the value is not one it may have (44 R631). -/
def loadCr (s : State) (v : Word) : CrNo → Option State
  | .cr0 =>
    if bit v 31 && !bit v 0 then none
    else some { s with
      cr0 := { PE := bit v 0, MP := bit v 1, EM := bit v 2, TS := bit v 3, ET := bit v 4, PG := bit v 31,
               reserved := v.extractLsb' 5 26 } }
  | .cr2 => some { s with cr2 := v }
  | .cr3 => some { s with cr3 := v &&& 0xFFFFF000#32, tlb := [] }

/-- A debug register and the bits of it that are defined, and what writing it changes (10 R65). -/
def readDebug (d : DebugRegs) : DrNo → Option (Word × Word)
  | .dr0 => some (d.dr0, 0xFFFFFFFF#32)
  | .dr1 => some (d.dr1, 0xFFFFFFFF#32)
  | .dr2 => some (d.dr2, 0xFFFFFFFF#32)
  | .dr3 => some (d.dr3, 0xFFFFFFFF#32)
  | .dr4 => none
  | .dr5 => none
  | .dr6 => some (d.dr6, 0xE00F#32)
  | .dr7 => some (d.dr7, 0xFFFF23FF#32)

def writeDebug (d : DebugRegs) (v : Word) : DrNo → DebugRegs
  | .dr0 => { d with dr0 := v }
  | .dr1 => { d with dr1 := v }
  | .dr2 => { d with dr2 := v }
  | .dr3 => { d with dr3 := v }
  | .dr4 => d
  | .dr5 => d
  | .dr6 => { d with dr6 := v }
  | .dr7 => { d with dr7 := v }

/-! ### Numerics -/

/-- The coprocessor has been given work: its lines have new levels (92 D14), and where it is not busy all it had to
store is stored (70 R865). -/
def passed (u : State) : State :=
  let v : State := { u with draws := u.draws + 2, npx := { u.npx with busy := freeBit u 0, error := freeBit u 1 } }
  if u.npx.kind = .none then u else if freeBit u 0 then v else v.landed u.lateBytes.length

/-- The pointers the 80386 records of an instruction and of its memory operand (10 R68). -/
def recorded (u : State) (op : BitVec 11) (m : Option Mem) : State :=
  { u with npx := { u.npx with
      insnSel := u.segs.cs.selector, insnOff := u.eip, opcode := op,
      opSel := match m with | some m => (u.seg (u.ea m).1).selector | none => u.npx.opSel,
      opOff := match m with | some m => (u.ea m).2 | none => u.npx.opOff } }

/-- The numerics instructions without a memory operand: the no-wait forms, the operation code (45 R690). -/
inductive EscRegs : Instr → Bool → BitVec 11 → Prop
  | esc (op ext n) : EscRegs (.esc op ext (.reg n)) false (op ++ (3#2 ++ ext ++ n.num))
  | fninit : EscRegs .fninit true (3#3 ++ 0xE3#8)
  | fld1 : EscRegs .fld1 false (1#3 ++ 0xE8#8)
  | fldz : EscRegs .fldz false (1#3 ++ 0xEE#8)
  | fdivp : EscRegs .fdivp false (6#3 ++ 0xF9#8)
  | fldSt0 : EscRegs .fldSt0 false (1#3 ++ 0xC0#8)
  | fchs : EscRegs .fchs false (1#3 ++ 0xE0#8)
  | fcompp : EscRegs .fcompp false (6#3 ++ 0xD9#8)
  | fnclex : EscRegs .fnclex true (3#3 ++ 0xE2#8)
  | fsqrt : EscRegs .fsqrt false (1#3 ++ 0xFA#8)
  | faddStSt0 : EscRegs .faddStSt0 false (0#3 ++ 0xC0#8)
  | faddStSt1 : EscRegs .faddStSt1 false (0#3 ++ 0xC1#8)
  | faddStSt2 : EscRegs .faddStSt2 false (0#3 ++ 0xC2#8)
  | faddStSt3 : EscRegs .faddStSt3 false (0#3 ++ 0xC3#8)
  | faddStSt4 : EscRegs .faddStSt4 false (0#3 ++ 0xC4#8)
  | faddStSt5 : EscRegs .faddStSt5 false (0#3 ++ 0xC5#8)
  | faddStSt6 : EscRegs .faddStSt6 false (0#3 ++ 0xC6#8)
  | faddStSt7 : EscRegs .faddStSt7 false (0#3 ++ 0xC7#8)
  | faddSt0St : EscRegs .faddSt0St false (4#3 ++ 0xC0#8)
  | faddSt1St : EscRegs .faddSt1St false (4#3 ++ 0xC1#8)
  | faddSt2St : EscRegs .faddSt2St false (4#3 ++ 0xC2#8)
  | faddSt3St : EscRegs .faddSt3St false (4#3 ++ 0xC3#8)
  | faddSt4St : EscRegs .faddSt4St false (4#3 ++ 0xC4#8)
  | faddSt5St : EscRegs .faddSt5St false (4#3 ++ 0xC5#8)
  | faddSt6St : EscRegs .faddSt6St false (4#3 ++ 0xC6#8)
  | faddSt7St : EscRegs .faddSt7St false (4#3 ++ 0xC7#8)
  | fmulStSt0 : EscRegs .fmulStSt0 false (0#3 ++ 0xC8#8)
  | fmulStSt1 : EscRegs .fmulStSt1 false (0#3 ++ 0xC9#8)
  | fmulStSt2 : EscRegs .fmulStSt2 false (0#3 ++ 0xCA#8)
  | fmulStSt3 : EscRegs .fmulStSt3 false (0#3 ++ 0xCB#8)
  | fmulStSt4 : EscRegs .fmulStSt4 false (0#3 ++ 0xCC#8)
  | fmulStSt5 : EscRegs .fmulStSt5 false (0#3 ++ 0xCD#8)
  | fmulStSt6 : EscRegs .fmulStSt6 false (0#3 ++ 0xCE#8)
  | fmulStSt7 : EscRegs .fmulStSt7 false (0#3 ++ 0xCF#8)
  | fmulSt0St : EscRegs .fmulSt0St false (4#3 ++ 0xC8#8)
  | fmulSt1St : EscRegs .fmulSt1St false (4#3 ++ 0xC9#8)
  | fmulSt2St : EscRegs .fmulSt2St false (4#3 ++ 0xCA#8)
  | fmulSt3St : EscRegs .fmulSt3St false (4#3 ++ 0xCB#8)
  | fmulSt4St : EscRegs .fmulSt4St false (4#3 ++ 0xCC#8)
  | fmulSt5St : EscRegs .fmulSt5St false (4#3 ++ 0xCD#8)
  | fmulSt6St : EscRegs .fmulSt6St false (4#3 ++ 0xCE#8)
  | fmulSt7St : EscRegs .fmulSt7St false (4#3 ++ 0xCF#8)

/-- Those with one: no-wait or not, low opcode bits, ModRM `reg` field, the operand, its kind (45 R690). -/
inductive EscMems : Instr → Bool → BitVec 3 → BitVec 3 → Mem → Config.EscOperand → Prop
  | esc (op ext m) : EscMems (.esc op ext (.mem m)) false op ext m (Config.escOperand op ext)
  | fnstswM (m) : EscMems (.fnstswM m) true 5#3 7#3 m (.write 2)
  | fnstcwM (m) : EscMems (.fnstcwM m) true 1#3 7#3 m (.write 2)
  | fsaveM (m) : EscMems (.fsaveM m) true 5#3 6#3 m (.state true)
  | frstorM (m) : EscMems (.frstorM m) false 5#3 4#3 m (.state false)
  | fstenvM (m) : EscMems (.fstenvM m) true 1#3 6#3 m (.env true)
  | fldcwM (m) : EscMems (.fldcwM m) false 1#3 5#3 m (.read 2)
  | faddM32 (m) : EscMems (.faddM32 m) false 0#3 0#3 m (.read 4)
  | faddM64 (m) : EscMems (.faddM64 m) false 4#3 0#3 m (.read 8)
  | fmulM32 (m) : EscMems (.fmulM32 m) false 0#3 1#3 m (.read 4)
  | fmulM64 (m) : EscMems (.fmulM64 m) false 4#3 1#3 m (.read 8)

/-- No test of a numerics instruction stops it (45 R682). -/
def EscReady (s : State) (noWait : Bool) : Prop :=
  s.cr0.EM = false ∧ s.cr0.TS = false ∧
  (noWait = false → s.npx.kind = .none ∨ (s.npx.busy = false ∧ s.npx.error = false))

/-- A coprocessor is attached and its line is active. -/
def npxErrs (s : State) : Prop := s.npx.kind ≠ .none ∧ s.npx.error = true
def npxWorks (s : State) : Prop := s.npx.kind ≠ .none ∧ s.npx.busy = true

/-- What the coprocessor stores it may store late, but for the control and the status word of the no-wait forms, which
the 80386 stores before the next instruction (70 R865). -/
def storedLate (noWait : Bool) : Config.EscOperand → Bool
  | .write _ => !noWait
  | _ => true

/-- An instruction that waits for the coprocessor is tried again; where the coprocessor stores over its bytes meanwhile,
they count as queued (20 R233; log 17). What the instruction before it inhibits stays inhibited (60 R725; log 27). -/
def waiting (s : State) : State :=
  { passed { s with insn := { s.insn with len := 0 } } with insn := Insn.start, repeating := none }

/-! ### Flags, memory, instructions as bytes -/

/-- SF, ZF and PF of a `w`-bit result (00 R17). -/
def ResultFlags (w : Width) (r : Nat) (f : Flags) : Prop :=
  f.SF = decide (2 ^ (w.bits - 1) ≤ r) ∧ f.ZF = decide (r = 0) ∧
  f.PF = decide (((List.range 8).filter fun k => r.testBit k).length % 2 = 0)

/-- The flags an operation does not write. -/
def KeepsControl (f g : Flags) : Prop :=
  g.TF = f.TF ∧ g.IF = f.IF ∧ g.DF = f.DF ∧ g.IOPL = f.IOPL ∧ g.NT = f.NT ∧ g.RF = f.RF ∧ g.VM = f.VM

/-- The little-endian number of the four bytes at physical address `a` (20 R135). -/
def memWord (m : List Host.Cell) (a : Nat) : Word :=
  Memory.read m (a + 3) ++ Memory.read m (a + 2) ++ (Memory.read m (a + 1) ++ Memory.read m a)

/-- Linear addresses are physical ones: no paging, no cached translation, nothing but RAM, no data breakpoint. -/
def Plain (s : State) : Prop :=
  s.pgNow = false ∧ s.tlbNow = [] ∧ s.physMap = [] ∧ s.dr.dr7 &&& 0xFF#32 = 0#32

/-- The access of `n` bytes is one the descriptor register allows (20 R160 to R165). -/
def Allowed (r : SegReg) (off : Word) (n : Nat) (rd wr : Bool) : Prop :=
  r.usable = true ∧ (wr = true → r.writeable = true) ∧ (rd = true → r.readable = true) ∧
  if r.expandDown = true ∧ r.executable = false then
    r.limit.toNat < off.toNat ∧ off.toNat + n ≤ (if r.big then 2 ^ 32 else 2 ^ 16)
  else off.toNat + n ≤ r.limit.toNat + 1

/-- What a prefix byte notes for the instruction it precedes (30 R252 to R256, R261). -/
def note : Instr → Insn → Insn
  | .opSizePrefix, n => { n with opSize := true }
  | .addrSizePrefix, n => { n with adSize := true }
  | .lockPrefix, n => { n with lock := true }
  | .repPrefix, n => { n with rep := true }
  | .repnePrefix, n => { n with repne := true }
  | .esPrefix, n => { n with seg := some .es }
  | .csPrefix, n => { n with seg := some .cs }
  | .ssPrefix, n => { n with seg := some .ss }
  | .dsPrefix, n => { n with seg := some .ds }
  | .fsPrefix, n => { n with seg := some .fs }
  | .gsPrefix, n => { n with seg := some .gs }
  | _, n => n

/-- The context after prefixes `ps` of one byte each. -/
def noted (ps : List Instr) : Insn :=
  ps.foldl (fun n p => { note p n with len := n.len + 1 }) Insn.start

/-- The bytes `bs` lie at CS:EIP, within the limit, and would be fetched as memory holds them. -/
def AtEip (s : State) (bs : List Byte) : Prop :=
  s.eip.toNat + bs.length ≤ s.segs.cs.limit.toNat + 1 ∧
  ∀ k (h : k < bs.length),
    Memory.read s.mem (s.segs.cs.base + BitVec.ofNat 32 (s.eip.toNat + k)).toNat = bs[k]

/-- A running machine with no event to take, no breakpoint on the instruction, nothing queued or cached. -/
def Quiet (s : State) : Prop :=
  s.run = .running ∧ s.resetPin = false ∧ s.pendingDb = 0#32 ∧ s.nmiPending = false ∧ s.intr = none ∧
  s.codeBreaks = 0#32 ∧ s.cr0.PG = false ∧ s.tlb = [] ∧ s.staleBytes = [] ∧ s.staleModes = [] ∧ s.repeating = none ∧
  s.physMap = []

end Sys2Proof.Claims

open Sys2Proof Sys2Proof.Machine Sys2Proof.Claims

/-- Moves to a register, SETcc, LEA, CBW, CWDE, CWD, CDQ and LAHF with a register destination complete: the register
takes the value, nothing else changes. The effective address, which LEA loads: the sum of base registers and
displacement modulo 2^16 or, with the scaled index, modulo 2^32; its segment is SS where the base is BP, EBP or ESP,
else DS, unless a prefix overrides it (30 R271 to R273). That the scale of a SIB byte without an index is ignored is in
log 45. -/
def Obligations.RegisterMovesComplete : Prop :=
  (∀ (s : State) (i : Instr) (w : Width) (n : RegNo) (v : Word), SetsReg s i w n v → s.prefixOk false false →
    exec i s = .next (complete s (s.started.setReg w n v).advanced)) ∧
  (∀ (s : State) (m : Mem), ((s.regs.offset m).toNat : Int) = eaValue s.regs m ∧
    s.ea m = (s.insn.seg.getD (if stackBased m then .ss else .ds), s.regs.offset m))

/-- MOV, MOVZX and MOVSX from an operand that can be read complete: the register takes its value, whole or extended.
MOV of a direct offset to the accumulator, and XLAT, complete where the bytes can be read. -/
def Obligations.LoadsComplete : Prop :=
  (∀ (s u : State) (i : Instr) (w v : Width) (n : RegNo) (rm : RM) (f : Word → Word) (x : Word),
    LoadsRM s i w n v rm f → s.prefixOk false false → readRM v rm s.started = .ok x u →
    exec i s = .next (complete s (u.setReg w n (f x)).advanced) ∧ AccessKeeps s.started u) ∧
  (∀ (s u : State) (i : Instr) (w : Width) (sg : SegNo) (off : Word) (x : Nat),
    LoadsAcc s i w sg off → s.prefixOk false false → memRead sg off w.bytes s.started = .ok x u →
    exec i s = .next (complete s (u.setReg w .eax (BitVec.ofNat 32 x)).advanced) ∧ AccessKeeps s.started u)

/-- A store by MOV or SETcc completes where the bytes may be written: they take the value, nothing else changes. -/
def Obligations.StoresComplete : Prop :=
  ∀ (s u : State) (i : Instr) (w : Width) (sg : SegNo) (off v : Word) (pas : List Word),
    StoresMem s i w sg off v → s.prefixOk false false → Memory.wf s.mem = true →
    memAddrs sg off w.bytes false true s.started = .ok pas u →
    ∃ t, exec i s = .next (complete s t.advanced) ∧ AccessKeeps s.started u ∧
      Stores u pas (toBytes w.bytes v.toNat) t

/-- XCHG completes where its operand may be read and written: the two values change places. LOCK is allowed with a
memory operand (30 R258), outside CPL 0 as log 15 says. -/
def Obligations.ExchangeCompletes : Prop :=
  ∀ (s u : State) (i : Instr) (w : Width) (rm : RM) (reg : RegNo) (p : Place) (x : Word),
    Exchanges s i w rm reg → s.prefixOk rm.isMem false → Memory.wf s.mem = true →
    modifyRM w rm s.started = .ok (p, x) u →
    ∃ t, exec i s = .next (complete s (t.setReg w reg x).advanced) ∧ AccessKeeps s.started u ∧
      Puts u w p (u.reg w reg) t

/-- PUSH of a register, an immediate or a segment register completes where the stack may be written: the bytes below
the top take the value, then the stack pointer moves down. PUSH of an r/m operand completes where it can be read and
the stack may be written. POP to a register completes where the stack can be read; a popped ESP is not moved again (40
R344). POP to memory completes where the stack can be read and, with the address formed after the pop, the destination
may be written (40 R345). -/
def Obligations.PushAndPopComplete : Prop :=
  (∀ (s u : State) (i : Instr) (v : Word) (k : Nat) (pas : List Word),
    Pushes s i v k → s.prefixOk false false → Memory.wf s.mem = true →
    memAddrs .ss (s.stackOff (s.sp - BitVec.ofNat 32 s.opWidth.bytes)) s.opWidth.bytes false true
      { s.started with draws := s.draws + k } = .ok pas u →
    ∃ t, exec i s = .next (complete s (t.setReg s.stackWidth .esp
          (s.stackOff (s.sp - BitVec.ofNat 32 s.opWidth.bytes))).advanced) ∧
      AccessKeeps { s.started with draws := s.draws + k } u ∧ Stores u pas (toBytes s.opWidth.bytes v.toNat) t) ∧
  (∀ (s u u' : State) (rm : RM) (v : Word) (pas : List Word), s.prefixOk false false → Memory.wf s.mem = true →
    readRM s.opWidth rm s.started = .ok v u →
    memAddrs .ss (s.stackOff (s.sp - BitVec.ofNat 32 s.opWidth.bytes)) s.opWidth.bytes false true u = .ok pas u' →
    ∃ t, exec (.pushEv rm) s = .next (complete s (t.setReg s.stackWidth .esp
        (s.stackOff (s.sp - BitVec.ofNat 32 s.opWidth.bytes))).advanced) ∧
      AccessKeeps s.started u' ∧ Stores u' pas (toBytes s.opWidth.bytes v.toNat) t) ∧
  (∀ (s u : State) (n : RegNo) (x : Nat), s.prefixOk false false →
    memRead .ss s.sp s.opWidth.bytes s.started = .ok x u →
    (∀ i ∈ [Instr.popR n, .popEv (.reg n)],
      exec i s = .next (complete s ((dropped u s.opWidth.bytes).setReg s.opWidth n (BitVec.ofNat 32 x)).advanced)) ∧
    AccessKeeps s.started u) ∧
  (∀ (s u u' : State) (m : Mem) (x : Nat) (pas : List Word), s.prefixOk false false → Memory.wf s.mem = true →
    memRead .ss s.sp s.opWidth.bytes s.started = .ok x u →
    memAddrs ((dropped u s.opWidth.bytes).ea m).1 ((dropped u s.opWidth.bytes).ea m).2 s.opWidth.bytes false true
      (dropped u s.opWidth.bytes) = .ok pas u' →
    ∃ t, exec (.popEv (.mem m)) s = .next (complete s t.advanced) ∧ AccessKeeps s.started u ∧
      AccessKeeps (dropped u s.opWidth.bytes) u' ∧ Stores u' pas (toBytes s.opWidth.bytes (x % 2 ^ 32)) t)

/-- ADD, OR, ADC, SBB, AND, SUB and XOR to an r/m operand complete where it may be read and written: the flags and the
operand take the result, nothing else changes. With a register destination they complete where the source can be
read. -/
def Obligations.AluToOperandCompletes : Prop :=
  (∀ (s u : State) (i : Instr) (op : AluOp) (w : Width) (rm : RM) (a b : Word) (p : Place),
    AluTo s i op w rm b → s.prefixOk rm.isMem false → Memory.wf s.mem = true →
    modifyRM w rm s.started = .ok (p, a) u →
    ∃ t, exec i s = .next (complete s t.advanced) ∧ AccessKeeps s.started u ∧
      Puts (u.aluState op w a b) w p (aluResult op w a b u.flags u.nextFree).1 t) ∧
  (∀ (s u : State) (i : Instr) (op : AluOp) (w : Width) (reg : RegNo) (rm : RM) (b : Word),
    AluFrom s i op w reg rm → s.prefixOk false false → readRM w rm s.started = .ok b u →
    exec i s = .next (complete s ((u.aluState op w (s.reg w reg) b).setReg w reg
        (aluResult op w (s.reg w reg) b u.flags u.nextFree).1).advanced) ∧
      AccessKeeps s.started u)

/-- CMP and TEST complete where the operand can be read: only the flags change. -/
def Obligations.CompareCompletes : Prop :=
  (∀ (s u : State) (i : Instr) (op : AluOp) (w : Width) (rm : RM) (a b : Word),
    Compares s i op w rm b → s.prefixOk false false → readRM w rm s.started = .ok a u →
    exec i s = .next (complete s (u.aluState op w a b).advanced) ∧ AccessKeeps s.started u) ∧
  ∀ (s u : State) (reg : RegNo) (rm : RM) (b : Word), s.prefixOk false false →
    (readRM .w8 rm s.started = .ok b u →
      exec (.cmpGbEb reg rm) s = .next (complete s (u.aluState .cmp .w8 (s.reg .w8 reg) b).advanced) ∧
      AccessKeeps s.started u) ∧
    (readRM s.opWidth rm s.started = .ok b u →
      exec (.cmpGvEv reg rm) s = .next (complete s (u.aluState .cmp s.opWidth (s.reg s.opWidth reg) b).advanced) ∧
      AccessKeeps s.started u)

/-- INC, DEC, NEG and NOT complete where the operand may be read and written. -/
def Obligations.UnaryCompletes : Prop :=
  ∀ (s u : State) (i : Instr) (w : Width) (rm : RM) (g : Word → Flags → Word × Flags) (a : Word) (p : Place),
    Unary s i w rm g → s.prefixOk rm.isMem false → Memory.wf s.mem = true →
    modifyRM w rm s.started = .ok (p, a) u →
    ∃ t, exec i s = .next (complete s t.advanced) ∧ AccessKeeps s.started u ∧
      Puts { u with flags := (g a u.flags).2 } w p (g a u.flags).1 t

/-- MUL and IMUL with one operand complete where it can be read: the double-width product goes to AX, DX:AX or
EDX:EAX, CF = OF = 1 when its upper half is not the zero or sign extension of the lower (41 R410, R411). IMUL into a
register completes where its operand can be read: the register takes the product modulo the width, CF = OF = 1 when
the signed product does not fit. -/
def Obligations.MultiplyCompletes : Prop :=
  (∀ (s u : State) (i : Instr) (w : Width) (rm : RM) (signed : Bool) (b : Word),
    Multiplies s i w rm signed → s.prefixOk false false → readRM w rm s.started = .ok b u →
    let p := asInt w signed (s.reg w .eax) * asInt w signed b
    exec i s = .next (complete s (mulFlagged (putWide u w p)
        (if signed then !w.fits p else decide ((2 ^ w.bits : Nat) ≤ p))).advanced) ∧
      AccessKeeps s.started u) ∧
  (∀ (s u : State) (i : Instr) (reg : RegNo) (rm : RM) (a b : Word),
    MultipliesTo s i reg rm a → s.prefixOk false false → readRM s.opWidth rm s.started = .ok b u →
    let p := s.opWidth.signed a * s.opWidth.signed b
    exec i s = .next (complete s (mulFlagged (u.setReg s.opWidth reg (BitVec.ofInt 32 p)) (!s.opWidth.fits p)).advanced) ∧
      AccessKeeps s.started u)

/-- DIV and IDIV complete where the operand can be read, is not 0, and the quotient fits: quotient and remainder go to
AL and AH, AX and DX, or EAX and EDX (41 R414, R415). Otherwise they take #DE, exception 0, a fault: it is delivered
in the state before the instruction, with the saved EIP at the instruction (41 R414, R415, 60 R740). -/
def Obligations.DivideCompletes : Prop :=
  (∀ (s u : State) (i : Instr) (w : Width) (rm : RM) (signed : Bool) (b : Word),
    Divides s i w rm signed → s.prefixOk false false → readRM w rm s.started = .ok b u →
    asInt w signed b ≠ 0 → quotientFits w signed (dividend s w signed) (asInt w signed b) = true →
    let d := dividend s w signed
    let q := d.tdiv (asInt w signed b)
    let r := d.tmod (asInt w signed b)
    exec i s = .next (complete s (allFlagsFree ((u.setReg w .eax (BitVec.ofInt 32 q)).setReg w
        (match w with | .w8 => .esp | _ => .edx) (BitVec.ofInt 32 r))).advanced) ∧ AccessKeeps s.started u) ∧
  (∀ (s u : State) (i : Instr) (w : Width) (rm : RM) (signed : Bool) (b : Word),
    Divides s i w rm signed → s.prefixOk false false → readRM w rm s.started = .ok b u →
    (asInt w signed b = 0 ∨ quotientFits w signed (dividend s w signed) (asInt w signed b) = false) →
    exec i s = takeException (plainExc 0#8) (rollback s u))

/-- A shift or rotate completes where its operand may be read and written. A count that is 0 modulo 32, and for RCL and
RCR one that is a multiple of the width plus 1, leaves the operand and the flags as they were; otherwise the operand
takes the result and the flags change as the operation says, and nothing else changes but the count of free values
drawn. That OF stays where RCL and RCR move nothing is in log 47. That the access to the operand counts as a write where
nothing is written (the Dirty bit of its page is set, breakpoints on writes match) is the model's choice, in log 28. -/
def Obligations.ShiftCompletes : Prop :=
  ∀ (s u : State) (i : Instr) (op : ShiftOp) (w : Width) (rm : RM) (c a : Word) (p : Place),
    Shifts s i op w rm c → s.prefixOk false false → Memory.wf s.mem = true →
    modifyRM w rm s.started = .ok (p, a) u →
    let idle := c.toNat % 32 = 0 ∨ (op = .rcl ∨ op = .rcr) ∧ c.toNat % 32 % (w.bits + 1) = 0
    AccessKeeps s.started u ∧
    (idle → exec i s = .next (complete s u.advanced)) ∧
    (¬idle → ∃ r f k t, shiftBy op w a (c.toNat % 32) u = .ok r { u with flags := f, draws := k } ∧
      exec i s = .next (complete s t.advanced) ∧ Puts { u with flags := f, draws := k } w p r t)

/-- SHL, SHR and SAR by a masked count `n` that is not 0 (41 R422, R423): the result, the last bit shifted out in CF
where the rule defines it, OF for a count of 1, SF, ZF and PF from the result. -/
def Obligations.ShiftResults : Prop :=
  ∀ (w : Width) (a : Word) (n : Nat) (u : State), a.toNat < 2 ^ w.bits → 0 < n → n < 32 →
    (∃ r f k, shiftBy .shl w a n u = .ok r { u with flags := f, draws := k } ∧
      r.toNat = a.toNat * 2 ^ n % 2 ^ w.bits ∧
      (n ≤ w.bits → f.CF = decide (a.toNat / 2 ^ (w.bits - n) % 2 = 1)) ∧
      (n = 1 → f.OF = decide (2 ^ (w.bits - 2) ≤ a.toNat % 2 ^ (w.bits - 1) ↔ a.toNat < 2 ^ (w.bits - 1))) ∧
      (∃ af o c, f = { u.flags with CF := c, OF := o, AF := af }.setSZP w r)) ∧
    (∃ r f k, shiftBy .shr w a n u = .ok r { u with flags := f, draws := k } ∧
      r.toNat = a.toNat / 2 ^ n ∧
      (n ≤ w.bits → f.CF = decide (a.toNat / 2 ^ (n - 1) % 2 = 1)) ∧
      (n = 1 → f.OF = decide (2 ^ (w.bits - 1) ≤ a.toNat)) ∧
      (∃ af o c, f = { u.flags with CF := c, OF := o, AF := af }.setSZP w r)) ∧
    (∃ r f k, shiftBy .sar w a n u = .ok r { u with flags := f, draws := k } ∧
      r.toNat < 2 ^ w.bits ∧ w.signed r = w.signed a / (2 ^ n : Nat) ∧
      f.CF = decide (w.signed a / (2 ^ (n - 1) : Nat) % 2 = 1) ∧
      (n = 1 → f.OF = false) ∧
      (∃ af o c, f = { u.flags with CF := c, OF := o, AF := af }.setSZP w r))

/-- ROL and ROR by a masked count, one place at a time (41 R424, R425): CF is the bit that last went round, and the
other flags but OF stay. RCL and RCR by a masked count, one place at a time, through CF (41 R426, R427). -/
def Obligations.RotatesResults : Prop :=
  (∀ (w : Width) (a : Word) (n : Nat) (u : State), a.toNat < 2 ^ w.bits → 0 < n → n < 32 →
    (∃ r f k, shiftBy .rol w a n u = .ok r { u with flags := f, draws := k } ∧
      r.toNat = Nat.repeat (fun v => v * 2 % 2 ^ w.bits + v / 2 ^ (w.bits - 1)) n a.toNat ∧
      f.CF = decide (r.toNat % 2 = 1) ∧ (n = 1 → f.OF = (decide (2 ^ (w.bits - 1) ≤ r.toNat) != f.CF)) ∧
      (∃ o c, f = { u.flags with CF := c, OF := o })) ∧
    (∃ r f k, shiftBy .ror w a n u = .ok r { u with flags := f, draws := k } ∧
      r.toNat = Nat.repeat (fun v => v / 2 + v % 2 * 2 ^ (w.bits - 1)) n a.toNat ∧
      f.CF = decide (2 ^ (w.bits - 1) ≤ r.toNat) ∧
      (n = 1 → f.OF = (decide (2 ^ (w.bits - 1) ≤ r.toNat) != decide (r.toNat / 2 ^ (w.bits - 2) % 2 = 1))) ∧
      (∃ o c, f = { u.flags with CF := c, OF := o }))) ∧
  (∀ (w : Width) (a : Word) (n : Nat) (u : State), a.toNat < 2 ^ w.bits → 0 < n → n < 32 →
    (∃ r f k, shiftBy .rcl w a n u = .ok r { u with flags := f, draws := k } ∧
      (r.toNat, f.CF) = Nat.repeat (fun v => ((v.1 * 2 + v.2.toNat) % 2 ^ w.bits, decide (2 ^ (w.bits - 1) ≤ v.1))) n
        (a.toNat, u.flags.CF) ∧
      (n = 1 → f.OF = (decide (2 ^ (w.bits - 1) ≤ r.toNat) != f.CF)) ∧
      (∃ o c, f = { u.flags with CF := c, OF := o })) ∧
    (∃ r f k, shiftBy .rcr w a n u = .ok r { u with flags := f, draws := k } ∧
      (r.toNat, f.CF) = Nat.repeat (fun v => (v.1 / 2 + v.2.toNat * 2 ^ (w.bits - 1), decide (v.1 % 2 = 1))) n
        (a.toNat, u.flags.CF) ∧
      (n = 1 → f.OF = (decide (2 ^ (w.bits - 1) ≤ r.toNat) != decide (r.toNat / 2 ^ (w.bits - 2) % 2 = 1))) ∧
      (∃ o c, f = { u.flags with CF := c, OF := o })))

/-- SHLD and SHRD complete where their operand may be read and written: a masked count of 0 leaves the operand and the
flags as they were, one up to the operand size shifts bits of the register in, CF is the last bit shifted out, OF for a
count of 1 tells a change of the sign; beyond the operand size the result and the status flags are free; the other flags
stay (41 R428, R429). That the access counts as a write where a masked count of 0 writes nothing (the Dirty bit of its
page is set, breakpoints on writes match) is the model's choice, in log 28. -/
def Obligations.DoubleShiftCompletes : Prop :=
  ∀ (s u : State) (i : Instr) (left : Bool) (rm : RM) (reg : RegNo) (c a : Word) (p : Place),
    DoubleShifts s i left rm reg c → s.prefixOk false false → Memory.wf s.mem = true →
    modifyRM s.opWidth rm s.started = .ok (p, a) u → a.toNat < 2 ^ s.opWidth.bits → AccessKeeps s.started u ∧
    (c.toNat % 32 = 0 → exec i s = .next (complete s u.advanced)) ∧
    (c.toNat % 32 ≠ 0 → ∃ r f k t, exec i s = .next (complete s t.advanced) ∧
      Puts { u with flags := f, draws := k } s.opWidth p r t ∧ r.toNat < 2 ^ s.opWidth.bits ∧
      KeepsControl u.flags f ∧
      (c.toNat % 32 ≤ s.opWidth.bits →
        let n := c.toNat % 32
        let b := (s.reg s.opWidth reg).toNat
        r.toNat = (if left then a.toNat * 2 ^ n % 2 ^ s.opWidth.bits + b / 2 ^ (s.opWidth.bits - n)
          else a.toNat / 2 ^ n + b % 2 ^ n * 2 ^ (s.opWidth.bits - n)) ∧
        f.CF = (if left then decide (a.toNat / 2 ^ (s.opWidth.bits - n) % 2 = 1)
          else decide (a.toNat / 2 ^ (n - 1) % 2 = 1)) ∧
        (n = 1 → f.OF = (bit r (s.opWidth.bits - 1) != bit a (s.opWidth.bits - 1))) ∧
        (∃ af o c, f = { u.flags with CF := c, OF := o, AF := af }.setSZP s.opWidth r)))

/-- BT completes where the unit that holds the bit can be read: CF takes the bit. BTS, BTR and BTC complete where the
unit may be read and written: CF takes the bit, the bit is set, cleared or inverted, no other bit changes. That the
address of the unit is reduced to the address size is in log 46, LOCK outside CPL 0 in log 15. BSF and BSR complete
where their operand can be read: ZF tells whether it is 0; if not, the register takes the number of its lowest or
highest one bit, else a free value (41 R434, R435). -/
def Obligations.BitInstructionsComplete : Prop :=
  (∀ (s u : State) (i : Instr) (a : RegNo ⊕ (SegNo × Word)) (k : Nat) (v : Word),
    TestsBit s i a k → s.prefixOk false false → unitRead s.opWidth a s.started = .ok v u →
    exec i s = .next (complete s (bitFlagged u (bit v k)).advanced) ∧ AccessKeeps s.started u) ∧
  (∀ (s u : State) (i : Instr) (a : RegNo ⊕ (SegNo × Word)) (k : Nat) (g : Bool → Bool) (v : Word) (p : Place),
    ChangesBit s i a k g → s.prefixOk (match a with | .inl _ => false | .inr _ => true) false →
    Memory.wf s.mem = true → unitModify s.opWidth a s.started = .ok (p, v) u →
    ∃ t r, exec i s = .next (complete s t.advanced) ∧ Puts (bitFlagged u (bit v k)) s.opWidth p r t ∧
      (∀ j, bit r j = if j = k then g (bit v k) else bit v j) ∧ AccessKeeps s.started u) ∧
  (∀ (s u : State) (reg : RegNo) (rm : RM) (v : Word) (low : Bool), s.prefixOk false false →
    readRM s.opWidth rm s.started = .ok v u →
    ∃ f k r, exec (if low then .bsfGvEv reg rm else .bsrGvEv reg rm) s =
        .next (complete s ({ u with flags := f, draws := k }.setReg s.opWidth reg r).advanced) ∧
      (∃ o sf a p c, f = { u.flags with OF := o, SF := sf, ZF := v == 0#32, AF := a, PF := p, CF := c }) ∧
      (v ≠ 0#32 → bit v r.toNat = true ∧
        ∀ j, j < 32 → bit v j = true → if low then r.toNat ≤ j else j ≤ r.toNat) ∧ AccessKeeps s.started u)

/-- CLC, STC, CMC, CLD, STD, SAHF and NOP complete: only the flags they name change. CLI and STI complete where CPL is
at most IOPL, and are #GP(0) elsewhere; STI holds INTR off until after the next instruction (43 R590, R591, 60 R725; log
27). -/
def Obligations.FlagInstructionsComplete : Prop :=
  (∀ (s : State) (i : Instr) (f : Flags), SetsFlags s i f → s.prefixOk false false →
    exec i s = .next (complete s { s.started with flags := f }.advanced)) ∧
  (∀ s : State, s.prefixOk false false →
    (s.cpl ≤ s.flags.IOPL →
      exec .cli s = .next (complete s { s.started with flags := { s.flags with IF := false } }.advanced) ∧
      exec .sti s = .next (complete s { s.started with flags := { s.flags with IF := true },
                                                       inhibitInt := true }.advanced)) ∧
    (s.flags.IOPL < s.cpl →
      exec .cli s = takeException (gpZero s) (rollback s s.started) ∧
      exec .sti s = takeException (gpZero s) (rollback s s.started)))

/-- A prefix byte is noted for the instruction that follows it, and changes nothing else. A prefix an instruction does
not take: LOCK is an invalid opcode, a repeat prefix before an instruction that is no string instruction is refused
(30 R255, R258). Shown for one instruction of each kind of argument check. LOCK outside CPL 0 is an invalid opcode where
`LOCK_NEEDS_CPL0` is true (log 15). The refusal is what 30 R255 orders (log 11). That a prefix byte is an item of its
own, whose `exec` records itself in `insn`, is the model's choice (log 20). -/
def Obligations.PrefixBytes : Prop :=
  (∀ (s : State) (i : Instr) (g : Insn → Insn), Prefixes i g → exec i s = .next { s with insn := g s.insn }) ∧
  (∀ (s : State) (n m : RegNo), s.insn.lock = true → s.insn.rep = false → s.insn.repne = false →
    (∀ i ∈ [Instr.nop, .movEvGv (.reg n) m, .addEvGv (.reg n) m, .xchgEvGv (.reg n) m, .movsb, .pushR n, .iret, .hlt],
      exec i s = takeException (plainExc 6#8) (rollback s s)) ∧
    (∀ i ∈ [Instr.nop, .movEvGv (.reg n) m, .addEvGv (.reg n) m, .pushR n, .iret, .hlt],
      exec i { s with insn := { s.insn with lock := false, rep := true } } = .refused .repBeforeOther) ∧
    (s.cpl ≠ 0#2 → ∀ m' : Mem,
      ∀ i ∈ [Instr.addEvGv (.mem m') m, .notEv (.mem m'), .xchgEvGv (.mem m') m, .btsEvGv (.mem m') m],
      Config.lockNeedsCpl0 = false ∨ exec i s = takeException (plainExc 6#8) (rollback s s)))

/-- PUSHA completes where its eight items can be pushed as one block: EAX, ECX, EDX, EBX, the ESP before, EBP, ESI, EDI
in this order. Otherwise the first slot in this order that may not be written decides: outside the limit it is #SS(0),
else what its access raises (40 R347, 20 R169). In real mode with an odd stack pointer below 16 it shuts down or is
#GP(0) (40 R347; log 29). POPA restores seven registers, and reads and discards the fourth item (40 R348). ENTER pushes
the frame pointer, at a level other than 0 copies level - 1 frame pointers and pushes the new one, sets the frame
pointer to the new top, and makes room (40 R356; its widths and the unprobed final stack pointer are in log 40); LEAVE
undoes it (40 R357). They complete where the stack may be written and read. -/
def Obligations.StackFramesComplete : Prop :=
  (∀ s u : State, s.prefixOk false false →
    let g := s.opWidth.bytes
    let items :=
      [s.regs.eax, s.regs.ecx, s.regs.edx, s.regs.ebx, s.regs.esp, s.regs.ebp, s.regs.esi, s.regs.edi]
    let odd := s.peNow = false ∧ s.sp.toNat < 16 ∧ s.sp.toNat % 2 = 1
    (¬odd → pushBlock g items s.started = .ok () u → exec .pusha s = .next (complete s u.advanced)) ∧
    (Plain s → s.room g 8 = true → ∃ v, pushBlock g items s.started = .ok () v) ∧
    (¬odd → ∀ (k : Nat) (ps : List (List Word)) (v : State) (e : Exc), k < 8 →
      BlockAddrs g s.sp ((List.range k).map (· + 1)) ps s.started u →
      let off := s.stackOff (s.sp - BitVec.ofNat 32 (g * (k + 1)))
      (¬Allowed s.segs.ss off g false true →
        exec .pusha s = takeException { gpZero s with vector := 12#8 } (rollback s u)) ∧
      (memAddrs .ss off g false true u = .error (.exc e) v → exec .pusha s = takeException e (rollback s v))) ∧
    (odd → s.sp.toNat < 6 → exec .pusha s = .next { rollback s s.started with run := .shutdown }) ∧
    (odd → 6 ≤ s.sp.toNat → exec .pusha s = takeException (gpZero s) (rollback s s.started))) ∧
  (∀ (s u0 u1 u2 u3 u4 u5 u6 u7 : State) (di si bp sp bx dx cx ax : Word), s.prefixOk false false →
    let n := s.opWidth.bytes
    peek n 0 s.started = .ok di u0 → peek n n u0 = .ok si u1 → peek n (2 * n) u1 = .ok bp u2 →
    peek n (3 * n) u2 = .ok sp u3 → peek n (4 * n) u3 = .ok bx u4 → peek n (5 * n) u4 = .ok dx u5 →
    peek n (6 * n) u5 = .ok cx u6 → peek n (7 * n) u6 = .ok ax u7 →
    exec .popa s = .next (complete s (((((((((dropped u7 (8 * n)).setReg s.opWidth .edi di).setReg s.opWidth .esi
      si).setReg s.opWidth .ebp bp).setReg s.opWidth .ebx bx).setReg s.opWidth .edx dx).setReg s.opWidth .ecx
      cx).setReg s.opWidth .eax ax)).advanced) ∧ AccessKeeps s.started u7) ∧
  (∀ (s u : State), s.prefixOk false false →
    (∀ (size : Half) (lv : Byte), lv.toNat % 32 = 0 →
      push s.opWidth.bytes (s.reg s.opWidth .ebp) s.started = .ok () u →
      exec (.enterIwIb size lv) s = .next (complete s
        ((u.setReg s.opWidth .ebp u.sp).setReg s.stackWidth .esp (u.sp - size.setWidth 32)).advanced)) ∧
    (∀ (size : Half) (lv : Byte) (u' u'' : State), lv.toNat % 32 ≠ 0 →
      push s.opWidth.bytes (s.reg s.opWidth .ebp) s.started = .ok () u →
      copyFrames s.opWidth (lv.toNat % 32 - 1) u = .ok () u' → push s.opWidth.bytes u.sp u' = .ok () u'' →
      exec (.enterIwIb size lv) s = .next (complete s
        ((u''.setReg s.opWidth .ebp u.sp).setReg s.stackWidth .esp (u''.sp - size.setWidth 32)).advanced)) ∧
    (∀ v : Word, pop s.opWidth.bytes (s.started.setReg s.stackWidth .esp (s.reg s.stackWidth .ebp)) = .ok v u →
      exec .leave s = .next (complete s (u.setReg s.opWidth .ebp v).advanced)))

/-- PUSHF completes outside V86 mode or with IOPL 3, where the stack may be written; bits 17 and 16 of the image are
free, the others are the flags. In V86 mode with a lower IOPL it is #GP(0) (43 R592). POPF completes outside V86 mode
or with IOPL 3, where the stack can be read: IF changes only with CPL at most IOPL, IOPL only at CPL 0, VM and RF do
not change (43 R593). In V86 mode with a lower IOPL it is #GP(0). The constant bits of the image are in log 5. -/
def Obligations.FlagsOnStackComplete : Prop :=
  (∀ (s : State), s.prefixOk false false → Memory.wf s.mem = true →
    (v86Allows s = true → ∀ (u : State) (pas : List Word),
      memAddrs .ss (s.stackOff (s.sp - BitVec.ofNat 32 s.opWidth.bytes)) s.opWidth.bytes false true
        { s.started with draws := s.draws + 2 } = .ok pas u →
      ∃ t v, exec .pushf s = .next (complete s (t.setReg s.stackWidth .esp
          (s.stackOff (s.sp - BitVec.ofNat 32 s.opWidth.bytes))).advanced) ∧
        Stores u pas (toBytes s.opWidth.bytes v) t ∧
        v % 2 ^ 16 = s.flags.toWord.toNat % 2 ^ 16 ∧ v / 2 ^ 18 = 0) ∧
    (v86Allows s = false → exec .pushf s = takeException (gpZero s) (rollback s s.started))) ∧
  (∀ s : State, s.prefixOk false false →
    (v86Allows s = true → ∀ (u : State) (x : Nat), memRead .ss s.sp s.opWidth.bytes s.started = .ok x u →
      exec .popf s = .next (complete s { dropped u s.opWidth.bytes with
        flags := loadedFlags s (BitVec.ofNat 32 x) false }.advanced) ∧ AccessKeeps s.started u) ∧
    (v86Allows s = false → exec .popf s = takeException (gpZero s) (rollback s s.started)))

/-- The flags word: each flag in its place, bit 1 set, the other constant bits 0; and back (10 R36, R42): the values of
the constant bits are the model's marked assumption that R42 asks for (log 5). The parts of a general register: a 16-bit
write keeps the upper half, a write of numbers 0 to 3 as bytes changes bits 7 to 0, one of numbers 4 to 7 bits 15 to 8
of registers 0 to 3; no other register changes (10 R31). CR0: PE, MP, EM, TS, ET and PG in their places, the reserved
bits between, and back (10 R57); that the reserved bits read as last written is the model's choice, in log 4. -/
def Obligations.RegisterLayouts : Prop :=
  (∀ f : Flags, Flags.ofWord f.toWord = f ∧ f.toWord &&& 0xFFFC802A#32 = 2#32 ∧
    bit f.toWord 0 = f.CF ∧ bit f.toWord 2 = f.PF ∧ bit f.toWord 4 = f.AF ∧ bit f.toWord 6 = f.ZF ∧
    bit f.toWord 7 = f.SF ∧ bit f.toWord 8 = f.TF ∧ bit f.toWord 9 = f.IF ∧ bit f.toWord 10 = f.DF ∧
    bit f.toWord 11 = f.OF ∧ f.toWord.extractLsb' 12 2 = f.IOPL ∧ bit f.toWord 14 = f.NT ∧
    bit f.toWord 16 = f.RF ∧ bit f.toWord 17 = f.VM) ∧
  (∀ (r : Regs) (n m : RegNo) (v : Word),
    (r.write .w32 n v).get m = (if m = n then v else r.get m) ∧
    (r.write .w16 n v).get m = (if m = n then (r.get m).extractLsb' 16 16 ++ v.extractLsb' 0 16 else r.get m) ∧
    (r.write .w8 n v).get m = (if m = (byteHome n).1 then
      (if (byteHome n).2 then (r.get m).extractLsb' 16 16 ++ v.extractLsb' 0 8 ++ (r.get m).extractLsb' 0 8
       else (r.get m).extractLsb' 8 24 ++ v.extractLsb' 0 8) else r.get m) ∧
    (∀ w, (r.write w n v).read w n = w.trunc v) ∧ (∀ w, (r.read w n).toNat < 2 ^ w.bits) ∧
    [RegNo.eax, .ecx, .edx, .ebx, .esp, .ebp, .esi, .edi].map byteHome =
      [(.eax, false), (.ecx, false), (.edx, false), (.ebx, false), (.eax, true), (.ecx, true), (.edx, true), (.ebx, true)]) ∧
  (∀ (c : Cr0) (v : Word), Cr0.ofWord c.toWord = c ∧ (Cr0.ofWord v).toWord = v ∧
    bit c.toWord 0 = c.PE ∧ bit c.toWord 1 = c.MP ∧ bit c.toWord 2 = c.EM ∧ bit c.toWord 3 = c.TS ∧
    bit c.toWord 4 = c.ET ∧ c.toWord.extractLsb' 5 26 = c.reserved ∧ bit c.toWord 31 = c.PG)

/-- What a push and a pop do: the bytes just below the top take the value, the stack pointer moves down by as many;
the bytes at the top give it, the stack pointer moves up (00 R14). What POPA, RET and IRET read of the stack: the `n`
bytes `k` bytes above its top. What is pushed, and in which order, by a far CALL (CS, then the offset: 42 R508), by an
event (EFLAGS, CS, EIP, then the error code: 60 R763, R730), by PUSHA (a block whose addresses are all checked before
the first byte is written: 40 R347), by ENTER (40 R356) and by a call gate with parameters (42 R527). -/
def Obligations.StackOperations : Prop :=
  (∀ (s u : State) (n x : Nat) (v : Word) (pas : List Word), n ≤ 4 → Memory.wf s.mem = true →
    (memAddrs .ss (s.stackOff (s.sp - BitVec.ofNat 32 n)) n false true s = .ok pas u →
      ∃ t, push n v s = .ok () (t.setReg s.stackWidth .esp (s.stackOff (s.sp - BitVec.ofNat 32 n))) ∧
        AccessKeeps s u ∧ Stores u pas (toBytes n v.toNat) t) ∧
    (memRead .ss s.sp n s = .ok x u → pop n s = .ok (BitVec.ofNat 32 x) (dropped u n) ∧ AccessKeeps s u)) ∧
  (∀ (s u : State) (n k x : Nat), memRead .ss (s.stackOff (s.sp + BitVec.ofNat 32 k)) n s = .ok x u →
    peek n k s = .ok (BitVec.ofNat 32 x) u ∧ AccessKeeps s u) ∧
  (∀ (s t : State) (g : Nat) (cs : Half) (next : Word) (image : Flags) (code : ErrCode), g = 2 ∨ g = 4 →
    Memory.wf s.mem = true →
    (pushSel g cs s = .ok () t → Pushed g [.sel cs] s t) ∧
    (pushReturn g cs next s = .ok () t → Pushed g [.sel cs, .val next] s t) ∧
    (pushFrame g image cs next s = .ok () t → Pushed g [.val image.toWord, .sel cs, .val next] s t) ∧
    (pushCode g code s = .ok () t → Pushed g (codeItems code) s t) ∧
    (Plain s → s.room g 2 = true → ∃ u, pushReturn g cs next s = .ok () u) ∧
    (Plain s → s.room g 3 = true → ∃ u, pushFrame g image cs next s = .ok () u) ∧
    (Plain s → s.room g 1 = true → ∃ u, pushCode g code s = .ok () u)) ∧
  (∀ (s t : State) (g k : Nat) (vs : List Word) (w : Width) (ss : SegReg) (esp : Word), g = 2 ∨ g = 4 →
    Memory.wf s.mem = true →
    (pushBlock g vs s = .ok () t → ∃ ps u v, BlockAddrs g s.sp ((List.range vs.length).map (· + 1)) ps s u ∧
      AccessKeeps s u ∧ BlockStores g ps vs u v ∧
      t = v.setReg s.stackWidth .esp (s.sp - BitVec.ofNat 32 (g * vs.length))) ∧
    (copyFrames w k s = .ok () t → FramesCopied w k s t) ∧
    (copyParams g ss esp k s = .ok () t → ParamsCopied g ss esp k s t))

/-- DAA and DAS complete (41 R436, R437; on every input: log 42). AAA and AAS complete: AL and AH are adjusted by
separate 8-bit additions (41 R438, R439; bytewise: log 43). AAM by a number that is not 0, and AAD, complete; AAM by 0
is #DE (41 R440, R441; bases other than 10: log 12). -/
def Obligations.DecimalAdjustCompletes : Prop :=
  (∀ s : State, s.prefixOk false false →
    let a := (s.regs.eax.setWidth 8).toNat
    let low := decide (9 < a % 16) || s.flags.AF
    let high := decide (0x99 < a) || s.flags.CF
    let sum := BitVec.ofNat 32 ((a + 6 * low.toNat + 0x60 * high.toNat) % 256)
    let diff := BitVec.ofInt 32 (((a : Int) - 6 * low.toNat - 0x60 * high.toNat) % 256)
    exec .daa s = .next (complete s (State.setReg { s.started with
      draws := s.draws + 1, flags := packedFlags s sum low high } .w8 .eax sum).advanced) ∧
    exec .das s = .next (complete s (State.setReg { s.started with
      draws := s.draws + 1, flags := packedFlags s diff low (high || low && decide (a < 6)) } .w8 .eax diff).advanced)) ∧
  (∀ s : State, s.prefixOk false false →
    let al := s.regs.eax.setWidth 8
    let ah : Byte := s.regs.eax.extractLsb' 8 8
    let adj := decide (9 < al.toNat % 16) || s.flags.AF
    let f : Flags := { s.flags with AF := adj, CF := adj, OF := freeBit s 0, SF := freeBit s 1, ZF := freeBit s 2,
                                    PF := freeBit s 3 }
    let d : Byte := if adj then 1#8 else 0#8
    exec .aaa s = .next (complete s (({ s.started with draws := s.draws + 4, flags := f }.setReg .w8 .eax
      (((al + 6#8 * d) &&& 15#8).setWidth 32)).setReg .w8 .esp ((ah + d).setWidth 32)).advanced) ∧
    exec .aas s = .next (complete s (({ s.started with draws := s.draws + 4, flags := f }.setReg .w8 .eax
      (((al - 6#8 * d) &&& 15#8).setWidth 32)).setReg .w8 .esp ((ah - d).setWidth 32)).advanced)) ∧
  (∀ (s : State) (k : Byte), s.prefixOk false false →
    let al := (s.regs.eax.setWidth 8).toNat
    let ah := (s.regs.eax.extractLsb' 8 8).toNat
    let f (r : Nat) : Flags := { s.flags with
      OF := freeBit s 0, AF := freeBit s 1, CF := freeBit s 2, SF := decide (128 ≤ r), ZF := decide (r = 0),
      PF := parity (BitVec.ofNat 32 r) }
    let r := (al + ah * k.toNat) % 256
    (k ≠ 0#8 → exec (.aamIb k) s = .next (complete s (State.setReg { s.started with
      draws := s.draws + 3, flags := f (al % k.toNat) }
      .w16 .eax (BitVec.ofNat 32 (al / k.toNat * 256 + al % k.toNat))).advanced)) ∧
    exec (.aamIb 0#8) s = takeException (plainExc 0#8) (rollback s s.started) ∧
    exec (.aadIb k) s = .next (complete s (State.setReg { s.started with draws := s.draws + 3, flags := f r }
      .w16 .eax (BitVec.ofNat 32 r)).advanced))

/-- BOUND completes without an effect where both bounds can be read, the lower first, and the index lies between them,
as signed numbers, the bounds included; elsewhere it takes #BR, exception 5, a fault (41 R442). That the address of the
upper bound is a sum modulo 2^32 is in log 38. -/
def Obligations.BoundChecksIndex : Prop :=
  ∀ (s u u' : State) (reg : RegNo) (m : Mem) (x y : Nat), s.prefixOk false false →
    let w := s.opWidth
    memRead (s.ea m).1 (s.ea m).2 w.bytes s.started = .ok x u →
    memRead (s.ea m).1 ((s.ea m).2 + BitVec.ofNat 32 w.bytes) w.bytes u = .ok y u' →
    let lo := w.signed (BitVec.ofNat 32 x)
    let hi := w.signed (BitVec.ofNat 32 y)
    let i := w.signed (s.reg w reg)
    AccessKeeps s.started u' ∧
    (lo ≤ i ∧ i ≤ hi → exec (.boundGvMa reg m) s = .next (complete s u'.advanced)) ∧
    (¬(lo ≤ i ∧ i ≤ hi) → exec (.boundGvMa reg m) s = takeException (plainExc 5#8) (rollback s u'))

/-- MOV to a segment register in real or V86 mode completes where the operand can be read: the selector is the base
divided by 16, nothing is checked; a load of SS holds interrupts off for an instruction (40 R335, 10 R45). POP to a
segment register in real or V86 mode completes where the stack can be read; the stack pointer moves after the load (40
R346; log 37). LDS, LES, LFS, LGS and LSS in real or V86 mode complete where the pointer can be read: offset, then
selector (40 R350; the sum of the selector's address: log 38). That the load makes the register usable again is the
model's choice (log 24). -/
def Obligations.RealSegmentLoadsComplete : Prop :=
  (∀ (s u : State) (n : SegNo) (rm : RM) (v : Word), n ≠ .cs → s.prefixOk false false → s.protMode = false →
    readRM .w16 rm s.started = .ok v u →
    exec (.movSwEw n rm) s = .next (complete s (inhibited
      { u with segs := u.segs.set n (realLoad s n (v.setWidth 16)) } n).advanced) ∧ AccessKeeps s.started u) ∧
  (∀ (s u : State) (i : Instr) (n : SegNo) (x : Nat), PopsSeg i n → s.prefixOk false false → s.protMode = false →
    memRead .ss s.sp s.opWidth.bytes s.started = .ok x u →
    exec i s = .next (complete s (inhibited (dropped
      { u with segs := u.segs.set n (realLoad s n (BitVec.ofNat 16 x)) } s.opWidth.bytes) n).advanced) ∧
    AccessKeeps s.started u) ∧
  (∀ (s u u' : State) (i : Instr) (n : SegNo) (reg : RegNo) (m : Mem) (x y : Nat), LoadsPointer i n reg m →
    s.prefixOk false false → s.protMode = false →
    memRead (s.ea m).1 (s.ea m).2 s.opWidth.bytes s.started = .ok x u →
    memRead (s.ea m).1 ((s.ea m).2 + BitVec.ofNat 32 s.opWidth.bytes) 2 u = .ok y u' →
    exec i s = .next (complete s (State.setReg { u' with
      segs := u'.segs.set n (realLoad s n (BitVec.ofNat 16 y)) }
      s.opWidth reg (BitVec.ofNat 32 x)).advanced) ∧
      AccessKeeps s.started u')

/-- In protected mode MOV, POP and the far pointer loads complete with the register loaded from the selector's
descriptor, where it may be loaded; `loadSeg` is the load, and an exception it raises is taken. POP moves the stack
pointer after the load, for POP SS at the new stack's width (40 R346; log 37). The sum of the address of a pointer's
selector is in log 38. -/
def Obligations.ProtectedSegmentLoadsComplete : Prop :=
  ∀ (s u u' u'' : State) (e : Exc), s.prefixOk false false → s.protMode = true →
    (∀ (n : SegNo) (rm : RM) (v : Word), n ≠ .cs → readRM .w16 rm s.started = .ok v u →
      (loadSeg n (v.setWidth 16) u = .ok () u'' →
        exec (.movSwEw n rm) s = .next (complete s (inhibited u'' n).advanced)) ∧
      (loadSeg n (v.setWidth 16) u = .error (.exc e) u'' →
        exec (.movSwEw n rm) s = takeException e (rollback s u''))) ∧
    (∀ (i : Instr) (n : SegNo) (x : Nat), PopsSeg i n → memRead .ss s.sp s.opWidth.bytes s.started = .ok x u →
      (loadSeg n (BitVec.ofNat 16 x) u = .ok () u'' →
        exec i s = .next (complete s (inhibited (dropped u'' s.opWidth.bytes) n).advanced)) ∧
      (loadSeg n (BitVec.ofNat 16 x) u = .error (.exc e) u'' → exec i s = takeException e (rollback s u''))) ∧
    (∀ (i : Instr) (n : SegNo) (reg : RegNo) (m : Mem) (x y : Nat), LoadsPointer i n reg m →
      memRead (s.ea m).1 (s.ea m).2 s.opWidth.bytes s.started = .ok x u →
      memRead (s.ea m).1 ((s.ea m).2 + BitVec.ofNat 32 s.opWidth.bytes) 2 u = .ok y u' →
      (loadSeg n (BitVec.ofNat 16 y) u' = .ok () u'' →
        exec i s = .next (complete s (u''.setReg s.opWidth reg (BitVec.ofNat 32 x)).advanced)) ∧
      (loadSeg n (BitVec.ofNat 16 y) u' = .error (.exc e) u'' → exec i s = takeException e (rollback s u'')))

/-- A segment register load in protected mode (20 R156, R157): DS, ES, FS and GS take a null selector and become
unusable; SS does not take one, #GP(0); a selector outside its table is #GP(selector), and so is a segment of a wrong
type or without enough privilege; one that is not present is #NP(selector), for SS #SS(selector); a present data
segment or readable code segment with enough privilege is loaded from its descriptor, with its Accessed bit set.
Setting the Accessed bit (20 R156, R229) and setting or clearing the Busy bit of a TSS descriptor (44 R617, 42 R543)
change byte 5 of the descriptor and no other byte of memory but, with paging on, those of page-table entries. -/
def Obligations.ProtectedSegmentLoad : Prop :=
  (∀ (s u u' : State) (n : SegNo) (sel : Half) (la : Word) (d : Desc), s.protMode = true → n ≠ .cs →
    let good := if n = .ss then d.writeable = true ∧ d.dpl = s.cpl ∧ sel.extractLsb' 0 2 = s.cpl
      else d.readable = true ∧ (d.conforming = false → sel.extractLsb' 0 2 ≤ d.dpl ∧ s.cpl ≤ d.dpl)
    (sel.toNat < 4 → n ≠ .ss →
      loadSeg n sel s = .ok () { s with segs := s.segs.set n { s.seg n with selector := sel, usable := false } }) ∧
    (sel.toNat < 4 → loadSeg .ss sel s = .error (.exc (gpZero s)) s) ∧
    (4 ≤ sel.toNat → s.descAddr sel = none → loadSeg n sel s = .error (.exc (selExc s 13#8 sel)) s) ∧
    (4 ≤ sel.toNat → s.descAddr sel = some la → readDesc la s = .ok d u → AccessKeeps s u ∧
      (¬good → loadSeg n sel s = .error (.exc (selExc s 13#8 sel)) u) ∧
      (good → d.present = false →
        loadSeg n sel s = .error (.exc (selExc s (if n = .ss then 12#8 else 11#8) sel)) u) ∧
      (good → d.present = true → markAccessed la d u = .ok () u' →
        loadSeg n sel s = .ok () { u' with segs := u'.segs.set n (d.toReg sel d.dpl) } ∧ AccessKeeps s u'))) ∧
  (∀ (s u v : State) (la p q : Word) (d : Desc) (busy : Bool), s.physMap = [] → Memory.wf s.mem = true →
    translate (la + 5#32) false false s = .ok p u → translate (la + 5#32) true false u = .ok q v →
    let b := Memory.read u.mem p.toNat
    AccessKeeps s v ∧
    (bit d.hi 8 = true → markAccessed la d s = .ok () s) ∧
    (bit d.hi 8 = false → b.getLsbD 0 = true → markAccessed la d s = .ok () u) ∧
    (bit d.hi 8 = false → b.getLsbD 0 = false → ∃ t, markAccessed la d s = .ok () t ∧ AccessKeeps s t ∧
      ∀ a, Memory.read t.mem a = Memory.read v.mem a ||| (if a = q.toNat then 1#8 else 0#8)) ∧
    (∃ t, putBusy la busy s = .ok () t ∧ Stores v [q] [if busy then b ||| 2#8 else b &&& 0xFD#8] t))

/-- MOV from a segment register, SMSW, SLDT and STR complete: memory and 16-bit registers take the 16 bits, of a 32-bit
register the upper half is free (40 R336, 44 R616, R618, R620). That the reserved bits of CR0, of which SMSW stores bits
15:5, read as they were last written is the model's choice, in log 4. SGDT and SIDT complete where a word and the dword
after it may be written, LGDT and LIDT at CPL 0 where they can be read, one after the other: the limit, then the base,
of which 24 bits count with a 16-bit operand size (44 R610 to R614; the sum of the second address: log 38). -/
def Obligations.TablesAndSelectorsComplete : Prop :=
  (∀ (s : State) (i : Instr) (rm : RM) (v : Half), StoresHalf s i rm v → s.prefixOk false false →
    (∀ n, rm = .reg n → s.opWidth = .w16 →
      exec i s = .next (complete s (s.started.setReg .w16 n (v.setWidth 32)).advanced)) ∧
    (∀ n, rm = .reg n → s.opWidth = .w32 →
      exec i s = .next (complete s (State.setReg { s.started with draws := s.draws + 1 }
        .w32 n (Config.free 16 s.draws ++ v)).advanced)) ∧
    (∀ (m : Mem) (u : State) (pas : List Word), rm = .mem m → Memory.wf s.mem = true →
      memAddrs (s.ea m).1 (s.ea m).2 2 false true s.started = .ok pas u →
      ∃ t, exec i s = .next (complete s t.advanced) ∧ AccessKeeps s.started u ∧ Stores u pas (toBytes 2 v.toNat) t)) ∧
  (∀ (s u u' v : State) (m : Mem) (i : Instr) (r : TableReg) (pas pas' : List Word) (x y : Nat),
    s.prefixOk false false →
    let k : Nat := if s.sizes.op32 then 2 ^ 32 else 2 ^ 24
    let loaded : TableReg := { base := BitVec.ofNat 32 (y % k), limit := BitVec.ofNat 16 x }
    (Memory.wf s.mem = true → (i = .sgdtMs m ∧ r = s.gdtr) ∨ (i = .sidtMs m ∧ r = s.idtr) →
      memAddrs (s.ea m).1 (s.ea m).2 2 false true s.started = .ok pas u →
      memWrite (s.ea m).1 (s.ea m).2 2 r.limit.toNat s.started = .ok () v →
      AccessKeeps s.started u ∧ Stores u pas (toBytes 2 r.limit.toNat) v ∧
      (memAddrs (s.ea m).1 ((s.ea m).2 + 2#32) 4 false true v = .ok pas' u' → AccessKeeps v u' ∧
        ∃ t, exec i s = .next (complete s t.advanced) ∧ Stores u' pas' (toBytes 4 (r.base.toNat % k)) t)) ∧
    (s.cpl = 0#2 → memRead (s.ea m).1 (s.ea m).2 2 s.started = .ok x u →
      memRead (s.ea m).1 ((s.ea m).2 + 2#32) 4 u = .ok y u' → AccessKeeps s.started u' ∧
      exec (.lgdtMs m) s = .next (complete s { u' with gdtr := loaded }.advanced) ∧
      exec (.lidtMs m) s = .next (complete s { u' with idtr := loaded }.advanced)))

/-- The relative jumps: not taken, the next instruction follows; taken, the target is the next instruction's offset
plus the displacement, at the operand size; a target beyond the CS limit is #GP(0) at the jump (42 R491, R495 to
R501). -/
def Obligations.RelativeJumpsComplete : Prop :=
  ∀ (s t : State) (i : Instr) (c : Bool) (d : Word), Branches s i c d t → s.prefixOk false false →
    let target := s.opWidth.trunc (s.nextEip + d)
    (c = false → exec i s = .next (complete s t.advanced)) ∧
    (c = true → target ≤ s.segs.cs.limit → exec i s = .next (complete s (t.jumped target))) ∧
    (c = true → s.segs.cs.limit < target → exec i s = takeException (gpZero s) (rollback s t))

/-- JMP and CALL through a register or memory, CALL relative, and near RET complete where the operands can be read,
the stack written, and the target lies within the CS limit; else the target is #GP(0) and nothing has changed. -/
def Obligations.NearTransfersComplete : Prop :=
  ∀ (s u u' : State) (rm : RM) (v : Word) (rel : ImmV) (imm : Half), s.prefixOk false false →
    let n := s.opWidth.bytes
    let target := s.opWidth.trunc v
    let called := s.opWidth.trunc (s.nextEip + rel.signed)
    (readRM s.opWidth rm s.started = .ok v u → AccessKeeps s.started u ∧
      (target ≤ s.segs.cs.limit → exec (.jmpEv rm) s = .next (complete s (u.jumped target)) ∧
        (push n s.nextEip u = .ok () u' → exec (.callEv rm) s = .next (complete s (u'.jumped target)))) ∧
      (s.segs.cs.limit < target → exec (.jmpEv rm) s = takeException (gpZero s) (rollback s u) ∧
        exec (.callEv rm) s = takeException (gpZero s) (rollback s u))) ∧
    (called ≤ s.segs.cs.limit → push n s.nextEip s.started = .ok () u →
      exec (.callJv rel) s = .next (complete s (u.jumped called))) ∧
    (s.segs.cs.limit < called → exec (.callJv rel) s = takeException (gpZero s) (rollback s s.started)) ∧
    (peek n 0 s.started = .ok v u → AccessKeeps s.started u ∧
      (target ≤ s.segs.cs.limit →
        exec .ret s = .next (complete s ((dropped u n).jumped target)) ∧
        exec (.retIw imm) s = .next (complete s ((dropped u (n + imm.toNat)).jumped target))) ∧
      (s.segs.cs.limit < target → exec .ret s = takeException (gpZero s) (rollback s u) ∧
        exec (.retIw imm) s = takeException (gpZero s) (rollback s u)))

/-- Far JMP, CALL and RET in real and V86 mode complete where their pointer can be read and the stack used, to an
offset of at most FFFFH; a greater one is #GP(0) (42 R506 to R510, R520). The attributes CS takes in real mode are in
log 23, the sum of the address of a pointer's selector in log 38. -/
def Obligations.RealFarTransfersComplete : Prop :=
  (∀ (s u u' : State) (i : Instr) (call : Bool) (sel : Half) (off : Word), FarGoes s i call sel off u →
    s.prefixOk false false → s.protMode = false → AccessKeeps s.started u ∧
    (off ≤ 0xFFFF#32 → call = false → exec i s = .next (complete s (farTo u sel off))) ∧
    (off ≤ 0xFFFF#32 → call = true → pushReturn s.opWidth.bytes s.segs.cs.selector s.nextEip u = .ok () u' →
      exec i s = .next (complete s (farTo u' sel off))) ∧
    (0xFFFF#32 < off → exec i s = takeException (gpZero s) (rollback s u))) ∧
  (∀ (s u u' : State) (i : Instr) (k : Nat) (ip cs : Word), FarReturns i k → s.prefixOk false false →
    s.protMode = false →
    let n := s.opWidth.bytes
    peek n 0 s.started = .ok ip u → peek n n u = .ok cs u' → AccessKeeps s.started u' ∧
    (ip ≤ 0xFFFF#32 → exec i s = .next (complete s (dropped (farTo u' (cs.setWidth 16) ip) (2 * n + k)))) ∧
    (0xFFFF#32 < ip → exec i s = takeException (gpZero s) (rollback s u')))

/-- Far JMP and CALL in protected mode, their pointer in the instruction or in memory: a null selector is #GP(0), one
outside its table or naming nothing that can be entered #GP(selector) (42 R521). To a present code segment that the
privilege rules let be reached they complete: CPL stays, CS holds the descriptor and the selector with the CPL in its
RPL bits; an unreachable one is #GP(selector), one that is not present #NP(selector), an offset beyond its limit #GP(0)
(42 R522, R523). Far RET at the same level completes to an offset within the limit of a code segment it may return to
(`returnDesc`); to an outer level it is `returnOuter` (42 R530). The sum of the address of a pointer's selector is in
log 38, that the frame of an outer return does not wrap past FFFFH in log 54. -/
def Obligations.ProtectedFarTransfersComplete : Prop :=
  (∀ (s u u1 u2 u3 : State) (i : Instr) (call : Bool) (sel : Half) (off la : Word) (d : Desc),
    FarGoes s i call sel off u → s.prefixOk false false → s.protMode = true →
    let n := s.opWidth.bytes
    (sel.toNat < 4 → exec i s = takeException (gpZero s) (rollback s u)) ∧
    (4 ≤ sel.toNat → s.descAddr sel = none → exec i s = takeException (selExc s 13#8 sel) (rollback s u)) ∧
    (4 ≤ sel.toNat → s.descAddr sel = some la → readDesc la u = .ok d u1 → AccessKeeps s.started u1 ∧
      (d.isCode = false → d.sysType ∉ [1, 4, 5, 9, 12] →
        exec i s = takeException (selExc s 13#8 sel) (rollback s u1)) ∧
      (d.isCode = true → ¬enterable d sel s.cpl → exec i s = takeException (selExc s 13#8 sel) (rollback s u1)) ∧
      (d.isCode = true → enterable d sel s.cpl → d.present = false →
        exec i s = takeException (selExc s 11#8 sel) (rollback s u1)) ∧
      (d.isCode = true → enterable d sel s.cpl → d.present = true → d.limit < off →
        exec i s = takeException (gpZero s) (rollback s u1)) ∧
      (d.isCode = true → enterable d sel s.cpl → d.present = true → off ≤ d.limit →
        (call = false → markAccessed la d u1 = .ok () u2 →
          exec i s = .next (complete s ((withCS u2 sel d s.cpl).jumped off))) ∧
        (call = true → s.room n 2 = false →
          exec i s = takeException { gpZero s with vector := 12#8 } (rollback s u1)) ∧
        (call = true → s.room n 2 = true → pushReturn n s.segs.cs.selector s.nextEip u1 = .ok () u2 →
          markAccessed la d u2 = .ok () u3 →
          exec i s = .next (complete s ((withCS u3 sel d s.cpl).jumped off)))))) ∧
  (∀ (s u u' v v' : State) (i : Instr) (k : Nat) (ip cs la : Word) (d : Desc) (e : Exc), FarReturns i k →
    s.prefixOk false false → s.protMode = true →
    let n := s.opWidth.bytes
    let sel : Half := cs.setWidth 16
    peek n 0 s.started = .ok ip u → peek n n u = .ok cs u' → AccessKeeps s.started u' ∧
    (returnDesc sel u' = .error (.exc e) v → exec i s = takeException e (rollback s v)) ∧
    (returnDesc sel u' = .ok (la, d) v →
      (sel.extractLsb' 0 2 = s.cpl → d.limit < ip → exec i s = takeException (gpZero s) (rollback s v)) ∧
      (sel.extractLsb' 0 2 = s.cpl → ip ≤ d.limit → markAccessed la d v = .ok () v' →
        exec i s = .next (complete s ((dropped (withCS v' sel d s.cpl) (2 * n + k)).jumped ip))) ∧
      (sel.extractLsb' 0 2 ≠ s.cpl →
        (returnOuter n (2 * n + k) k sel ip la d v = .ok () v' → exec i s = .next (complete s v')) ∧
        (returnOuter n (2 * n + k) k sel ip la d v = .error (.exc e) v' →
          exec i s = takeException e (rollback s v')))))

/-- INT n, INT 3 and INTO with OF = 1 complete, with the next instruction's offset saved, where the event can be
delivered: in real mode through the vector (60 R769), in protected and V86 mode through the gate (60 R760 to R768),
which must be one of at least CPL's DPL; an exception met there is taken with the saved EIP at the instruction. INTO
with OF = 0 does nothing in any mode. In V86 mode with IOPL below 3 INT n is #GP(0) (42 R512 to R514). IRET in real
mode, and in V86 mode with IOPL 3, completes where the three items can be read, to an offset of at most FFFFH: EIP, CS
and the flags are popped and NMI is no longer blocked; in V86 mode with a lower IOPL it is #GP(0) (42 R515, 60 R727). In
protected mode with NT = 0 it returns to V86 mode, to the same level, or to an outer one (42 R533). In real mode over
plain memory, the vector in the table and the stack with room for three words are all that INT n, INT 3 and INTO need.
The attributes CS takes are in log 23, the EIP that a failed delivery saves in log 36, what IRET makes pending again in
log 48, that the frame of an outer return does not wrap past FFFFH in log 54. -/
def Obligations.InterruptsAndReturnComplete : Prop :=
  (∀ (s : State) (i : Instr) (v : Byte), Interrupts s i v → s.prefixOk false false → s.peNow = false → Plain s →
    4 * v.toNat + 3 ≤ s.idtr.limit.toNat →
    (∀ k ∈ [2, 4, 6], Allowed s.segs.ss (s.stackOff (s.sp - BitVec.ofNat 32 k)) 2 false true) →
    ∃ t, RealEntry (softEvent v) s.started.advanced t ∧ exec i s = .next (complete s t)) ∧
  (∀ (s t : State) (i : Instr) (v : Byte) (e : Exc), Interrupts s i v → s.prefixOk false false →
    (RealEntry (softEvent v) s.started.advanced t → exec i s = .next (complete s t)) ∧
    (GateEntry (softEvent v) s.started.advanced t → exec i s = .next (complete s t)) ∧
    (deliverOnce (softEvent v) s.started.advanced = .error (.exc e) t → exec i s = takeException e (rollback s t)) ∧
    (deliverOnce (softEvent v) s.started.advanced = .error (.excHere e) t →
      exec i s = takeException e (idled t))) ∧
  (∀ (s : State) (v : Byte), s.prefixOk false false →
    (s.flags.OF = false → exec .into s = .next (complete s s.started.advanced)) ∧
    (v86Allows s = false → exec (.intIb v) s = takeException (gpZero s) (rollback s s.started))) ∧
  (∀ (s u1 u2 u3 : State) (ip cs fl : Word), s.prefixOk false false → s.protMode = false →
    let n := s.opWidth.bytes
    let s0 := released s.started
    (v86Allows s = true → peek n 0 s0 = .ok ip u1 → peek n n u1 = .ok cs u2 → peek n (2 * n) u2 = .ok fl u3 →
      AccessKeeps s0 u3 ∧
      (ip ≤ 0xFFFF#32 →
        let w := dropped (farTo u3 (cs.setWidth 16) ip) (3 * n)
        exec .iret s = .next (complete s { w with
          flags := loadedFlags s fl s.sizes.op32, insn := { w.insn with keepRF := w.insn.keepRF || s.sizes.op32 } })) ∧
      (0xFFFF#32 < ip → exec .iret s = takeException (gpZero s) (rollback s u3))) ∧
    (v86Allows s = false → exec .iret s = takeException (gpZero s) (rollback s s0))) ∧
  (∀ (s u1 u2 u3 u4 u5 : State) (ip cs fl la : Word) (d : Desc) (e : Exc), s.prefixOk false false →
    s.protMode = true → s.flags.NT = false →
    let n := s.opWidth.bytes
    let sel : Half := cs.setWidth 16
    let back (w : State) : State := { w with
      flags := loadedFlags s fl s.sizes.op32, insn := { w.insn with keepRF := w.insn.keepRF || s.sizes.op32 } }
    let v86 := n = 4 ∧ bit fl 17 = true ∧ s.cpl = 0#2
    peek n 0 (released s.started) = .ok ip u1 → peek n n u1 = .ok cs u2 → peek n (2 * n) u2 = .ok fl u3 →
    (¬v86 → returnDesc sel u3 = .error (.exc e) u4 → exec .iret s = takeException e (rollback s u4)) ∧
    (¬v86 → returnDesc sel u3 = .ok (la, d) u4 →
      (sel.extractLsb' 0 2 = s.cpl → d.limit < ip → exec .iret s = takeException (gpZero s) (rollback s u4)) ∧
      (sel.extractLsb' 0 2 = s.cpl → ip ≤ d.limit → markAccessed la d u4 = .ok () u5 →
        exec .iret s = .next (complete s (back ((dropped (withCS u5 sel d s.cpl) (3 * n)).jumped ip)))) ∧
      (sel.extractLsb' 0 2 ≠ s.cpl →
        (returnOuter n (3 * n) 0 sel ip la d u4 = .ok () u5 → exec .iret s = .next (complete s (back u5))) ∧
        (returnOuter n (3 * n) 0 sel ip la d u4 = .error (.exc e) u5 →
          exec .iret s = takeException e (rollback s u5)))) ∧
    (v86 → ∀ (w1 w2 w3 w4 w5 w6 : State) (esp ss es ds fs gs : Word), peek 4 12 u3 = .ok esp w1 →
      peek 4 16 w1 = .ok ss w2 → peek 4 20 w2 = .ok es w3 → peek 4 24 w3 = .ok ds w4 → peek 4 28 w4 = .ok fs w5 →
      peek 4 32 w5 = .ok gs w6 →
      let seg (v : Word) : SegReg := .real (v.setWidth 16) ((v.setWidth 16 : Half).setWidth 32 <<< 4) 3#2
      exec .iret s = .next (complete s { w6 with
        regs := { w6.regs with esp := esp }, flags := Flags.ofWord fl, eip := ip &&& 0xFFFF#32,
        segs := { es := seg es, cs := seg cs, ss := seg ss, ds := seg ds, fs := seg fs, gs := seg gs },
        staleBytes := [], staleModes := [], repeating := none, insn := { w6.insn with keepRF := true } })))

/-- Taking an event in real mode (60 R769, R722, R723): where the stack can be written and then the vector read, the
machine goes on at the handler with FLAGS, CS and IP pushed, in the state the event found; a vector beyond the IDT limit
is a double fault, with error code 0 (R748). An exception is taken as an event once CR2 and DR6 record it. The limit and
the attributes CS takes besides its base are in log 23. Which images take RF is the model's choice (log 25); the
acknowledgement of events is in log 21, 22 and 44. -/
def Obligations.RealModeEventEntry : Prop :=
  (∀ (s t : State) (ev : Event) (k : Nat),
    (RealEntry ev s t → deliverOnce ev s = .ok () t) ∧
    (RealEntry ev (delivering ev s) t → takeEvent (k + 1) ev s = .next { idled t with run := .running }) ∧
    (s.peNow = false → s.idtr.limit.toNat < 4 * ev.vector.toNat + 3 →
      deliverOnce ev s = .error (.exc { plainExc 8#8 with code := .sel 0#16 }) (acked ev s))) ∧
  (∀ (s : State) (e : Exc), takeException e s = takeEvent 8 (excEvent e) (recordedExc e s))

/-- Taking an event in protected or V86 mode (60 R760 to R766, R768, R770): where its gate may be used and the handler
entered, at the same level, at an inner one, from V86 mode or as a task, the machine goes on at the handler, with the
frame pushed at supervisor level; what the gate or the handler's segment lacks is #GP or #NP naming the IDT entry or the
segment, no room on the stack #SS(0), and what the checks of an inner stack raise is met before that stack is loaded.
From V86 mode all of ESP is loaded (a word in the TSS: log 37). An 80286 gate from V86 mode is refused by name (93 S19;
log 31). Which images take RF is the model's choice (log 25); that CPL is the DPL field of CS is in log 34, the
acknowledgement of events in log 21, 22 and 44, that the handler's offset is checked before its stack in log 51. -/
def Obligations.ProtectedEventEntry : Prop :=
  (∀ (s t : State) (ev : Event) (k : Nat),
    (GateEntry ev s t → deliverOnce ev s = .ok () t) ∧
    (GateEntry ev (delivering ev s) t → takeEvent (k + 1) ev s = .next { idled t with run := .running })) ∧
  (∀ (s u v : State) (ev : Event) (gate d : Desc) (la : Word), s.peNow = true →
    let a : State := { acked ev s with insn := { s.insn with system := true } }
    let idt (vector : Byte) : Exc := { gpZero s with
      vector := vector, code := .sel (BitVec.ofNat 16 (8 * ev.vector.toNat + 2) ||| extBit s) }
    let usable := ¬(ev.kind = .software ∧ gate.dpl < s.cpl)
    (s.idtr.limit.toNat < 8 * ev.vector.toNat + 7 → deliverOnce ev s = .error (.exc (idt 13#8)) a) ∧
    (8 * ev.vector.toNat + 7 ≤ s.idtr.limit.toNat →
      readDesc (s.idtr.base + BitVec.ofNat 32 (8 * ev.vector.toNat)) a = .ok gate u →
      (gate.sysType ∉ [5, 6, 7, 14, 15] ∨ ¬usable → deliverOnce ev s = .error (.exc (idt 13#8)) u) ∧
      (gate.sysType ∈ [5, 6, 7, 14, 15] → usable → gate.present = false →
        deliverOnce ev s = .error (.exc (idt 11#8)) u) ∧
      (gate.sysType ∈ [6, 7, 14, 15] → usable → gate.present = true →
        (gate.gateSel.toNat < 4 → deliverOnce ev s = .error (.exc (gpZero s)) u) ∧
        (4 ≤ gate.gateSel.toNat → s.descAddr gate.gateSel = none →
          deliverOnce ev s = .error (.exc (selExc s 13#8 gate.gateSel)) u) ∧
        (4 ≤ gate.gateSel.toNat → s.descAddr gate.gateSel = some la → readDesc la u = .ok d v →
          (¬(d.isCode = true ∧ d.dpl ≤ s.cpl) →
            deliverOnce ev s = .error (.exc (selExc s 13#8 gate.gateSel)) v) ∧
          (d.isCode = true → d.dpl ≤ s.cpl → d.present = false →
            deliverOnce ev s = .error (.exc (selExc s 11#8 gate.gateSel)) v) ∧
          (d.isCode = true → d.dpl ≤ s.cpl → d.present = true →
            s.flags.VM = true ∧ (d.conforming = true ∨ d.dpl ≠ 0#2) →
            deliverOnce ev s = .error (.exc (selExc s 13#8 gate.gateSel)) v) ∧
          (d.isCode = true → d.dpl ≤ s.cpl → d.present = true →
            ¬(s.flags.VM = true ∧ (d.conforming = true ∨ d.dpl ≠ 0#2)) →
            (d.limit < gate.gateOff → deliverOnce ev s = .error (.exc (gpZero s)) v) ∧
            (gate.gateOff ≤ d.limit → s.flags.VM = true → gate.gate386 = false →
              deliverOnce ev s = .error (.refuse .gate286FromV86) v) ∧
            (gate.gateOff ≤ d.limit → s.flags.VM = false → d.conforming = true ∨ d.dpl = s.cpl →
              s.room (gateSize gate) (3 + (codeItems ev.code).length) = false →
              deliverOnce ev s = .error (.exc { gpZero s with vector := 12#8 }) v) ∧
            (gate.gateOff ≤ d.limit → ∀ (level : BitVec 2) (g k : Nat) (e : Exc) (w : State),
              (s.flags.VM = false ∧ d.conforming = false ∧ d.dpl ≠ s.cpl ∧ level = d.dpl ∧ g = gateSize gate ∧ k = 5) ∨
                (s.flags.VM = true ∧ gate.gate386 = true ∧ level = 0#2 ∧ g = 4 ∧ k = 9) →
              innerStack level g (k + (codeItems ev.code).length) v = .error (.exc e) w →
              deliverOnce ev s = .error (.exc e) w))))))

/-- One element of each string instruction, where its bytes can be read and written: what moves where, the flags, and
the index registers stepped by the element's size (43 R560, R564 to R570). -/
def Obligations.StringElements : Prop :=
  ∀ (s u u' : State) (w : Width) (x y : Nat) (pas : List Word), Memory.wf s.mem = true →
    let si := s.reg s.adWidth .esi
    let di := s.reg s.adWidth .edi
    let p := (s.regs.edx.setWidth 16 : Half)
    (memRead (s.overridden .ds) si w.bytes s = .ok x u → AccessKeeps s u ∧
      loadElement w s = .ok () (stepped (u.setReg w .eax (BitVec.ofNat 32 x)) w.bytes .esi) ∧
      (memAddrs .es di w.bytes false true u = .ok pas u' → AccessKeeps s u' ∧ ∃ t, Stores u' pas (toBytes w.bytes x) t ∧
        moveElement w s = .ok () (stepped (stepped t w.bytes .esi) w.bytes .edi)) ∧
      (memRead .es di w.bytes u = .ok y u' → AccessKeeps s u' ∧ compareElement w s = .ok () (stepped (stepped
        (u'.aluState .cmp w (BitVec.ofNat 32 x) (BitVec.ofNat 32 y)) w.bytes .esi) w.bytes .edi))) ∧
    (memRead .es di w.bytes s = .ok x u → AccessKeeps s u ∧
      scanElement w s = .ok () (stepped (u.aluState .cmp w (s.reg w .eax) (BitVec.ofNat 32 x)) w.bytes .edi)) ∧
    (memAddrs .es di w.bytes false true s = .ok pas u → AccessKeeps s u ∧
      ∃ t, Stores u pas (toBytes w.bytes (s.reg w .eax).toNat) t ∧ storeElement w s = .ok () (stepped t w.bytes .edi)) ∧
    (ioCheck p.toNat w.bytes s = .ok () u → AccessKeeps s u ∧
      (memAddrs .es di w.bytes false true u = .ok pas u' → AccessKeeps s u' ∧
        ∃ t, Stores { u' with draws := u'.draws + 1 } pas
            (toBytes w.bytes (w.trunc (Config.free 32 u'.draws)).toNat) t ∧
          inputElement w s = .ok () (stepped t w.bytes .edi)) ∧
      (memRead (s.overridden .ds) si w.bytes u = .ok x u' → AccessKeeps s u' ∧ outputElement w s = .ok () (stepped
        { u' with trace := u'.trace ++ [IoEvent.out p w.bytes (BitVec.ofNat 32 x)] } w.bytes .esi)))

/-- The string instructions complete where the step for an element does: without a prefix one element; with one,
nothing when the counter is 0, else an element, the counter less 1, and the instruction again at the same EIP, or the
next one when the counter is 0 or, for CMPS and SCAS, ZF ends the repetition (43 R561 to R563). One element a step, an
instruction that is kept and not fetched again, and F2 as F3 where ZF is not looked at, are in log 10. -/
def Obligations.StringInstructionsComplete : Prop :=
  ∀ (s u : State) (i : Instr) (z : Bool) (el : M Unit), StringOps s i z el → s.prefixOk false true →
    let c := s.reg s.adWidth .ecx
    let t := u.setReg s.adWidth .ecx (c - 1#32)
    (s.insn.rep = false → s.insn.repne = false → el s.started = .ok () u → exec i s = .next (complete s u.advanced)) ∧
    ((s.insn.rep = true ∨ s.insn.repne = true) →
      (c = 0#32 → exec i s = .next (complete s s.started.advanced)) ∧
      (c ≠ 0#32 → el s.started = .ok () u →
        (c = 1#32 ∨ (z = true ∧ u.flags.ZF = s.insn.repne) → exec i s = .next (complete s t.advanced)) ∧
        (¬(c = 1#32 ∨ (z = true ∧ u.flags.ZF = s.insn.repne)) →
          t.eip = s.eip ∧ exec i s = .next (complete s { t with
            insn := { t.insn with keepRF := true }, repeating := some (i, { s.insn with kept := [] }) }))))

/-- IN and OUT complete where the port may be accessed: the accumulator takes what the device answers, a free value; the
device is sent the accumulator. The access is allowed in real mode and with CPL at most IOPL; otherwise the two bytes of
the permission map that hold the port's bits decide, and a map base of FFFFH is no map; an access past port FFFFH is
refused, after the check, where the map allows it too (20 R205, R210 to R215). The refusal past the last port and a TSS
too small for a map base are in log 30. -/
def Obligations.PortsComplete : Prop :=
  (∀ (s u : State) (i : Instr) (w : Width) (p : Half), s.prefixOk false false →
    ioCheck p.toNat w.bytes s.started = .ok () u → AccessKeeps s.started u ∧
    (PortIns s i w p → exec i s =
      .next (complete s (State.setReg { u with draws := u.draws + 1 } w .eax (Config.free 32 u.draws)).advanced)) ∧
    (PortOuts s i w p → exec i s =
      .next (complete s { u with trace := u.trace ++ [IoEvent.out p w.bytes (s.reg w .eax)] }.advanced))) ∧
  ∀ (s u u' : State) (p n base x : Nat),
    let free := s.peNow = false ∨ (s.flags.VM = false ∧ s.cpl ≤ s.flags.IOPL)
    let a := base + p / 8
    (free → p + n ≤ 0x10000 → ioCheck p n s = .ok () s) ∧
    (free → 0x10000 < p + n → ioCheck p n s = .error (.refuse .portPastEnd) s) ∧
    (¬free → s.tr.is386 = false ∨ s.tr.limit.toNat < 0x67 → ioCheck p n s = .error (.exc (gpZero s)) s) ∧
    (¬free → s.tr.is386 = true → 0x67 ≤ s.tr.limit.toNat → linRead (s.tr.base + 0x66#32) 2 s = .ok base u →
      (base = 0xFFFF ∨ s.tr.limit.toNat < a + 1 → ioCheck p n s = .error (.exc (gpZero s)) u) ∧
      (base ≠ 0xFFFF → a + 1 ≤ s.tr.limit.toNat → linRead (s.tr.base + BitVec.ofNat 32 a) 2 u = .ok x u' →
        (x / 2 ^ (p % 8) % 2 ^ n ≠ 0 → ioCheck p n s = .error (.exc (gpZero s)) u') ∧
        (x / 2 ^ (p % 8) % 2 ^ n = 0 → p + n ≤ 0x10000 → ioCheck p n s = .ok () u') ∧
        (x / 2 ^ (p % 8) % 2 ^ n = 0 → 0x10000 < p + n → ioCheck p n s = .error (.refuse .portPastEnd) u')))

/-- MOV to and from CR0, CR2 and CR3, LMSW and CLTS complete at CPL 0, but a CR0 with PG = 1 and PE = 0 is #GP(0).
LMSW cannot clear PE; a write of CR3 empties the TLB (44 R619, R621, R630, R631). MOV to and from the debug registers
completes at CPL 0 with DR7.GD = 0: reserved bits of DR6 and DR7 read as free. DR4 and DR5 are refused, as the spec
says. With GD = 1 it is the general-detect fault (44 R632, R633, 60 R741). MOV to and from TR6 and TR7 stops on every
path: #GP(0) at a CPL other than 0, else the refusal the spec orders (44 R634). DR4, DR5, TR6 and TR7 are in log 13, the
reserved bits of CR0 in log 4, those of DR6 and DR7 in log 14, the old mode that queued instructions may keep in log
19. -/
def Obligations.ControlAndDebugRegistersComplete : Prop :=
  (∀ (s u : State) (reg : RegNo) (cr : CrNo) (rm : RM) (v : Word), s.prefixOk false false → s.cpl = 0#2 →
    exec (.movRdCd reg cr) s = .next (complete s (allFlagsFree (s.started.setReg .w32 reg
      (match cr with | .cr0 => s.cr0.toWord | .cr2 => s.cr2 | .cr3 => s.cr3))).advanced) ∧
    (∀ t, loadCr s.started (s.reg .w32 reg) cr = some t → ∃ ms,
      exec (.movCdRd cr reg) s = .next (complete s (allFlagsFree { t with staleModes := ms }).advanced)) ∧
    (loadCr s.started (s.reg .w32 reg) cr = none →
      exec (.movCdRd cr reg) s = takeException (gpZero s) (rollback s s.started)) ∧
    exec .clts s = .next (complete s { s.started with cr0 := { s.cr0 with TS := false } }.advanced) ∧
    (readRM .w16 rm s.started = .ok v u → s.cr0.PG = false ∨ s.cr0.PE = true → AccessKeeps s.started u ∧ ∃ ms,
      exec (.lmswEw rm) s = .next (complete s { u with
        staleModes := ms,
        cr0 := { s.cr0 with PE := s.cr0.PE || bit v 0, MP := bit v 1, EM := bit v 2, TS := bit v 3 } }.advanced))) ∧
  (∀ (s : State) (reg : RegNo) (n : DrNo), s.prefixOk false false → s.cpl = 0#2 →
    (bit s.dr.dr7 13 = false →
      (∀ v mask, readDebug s.dr n = some (v, mask) → ∃ r k,
        exec (.movRdDd reg n) s = .next (complete s (allFlagsFree
          (State.setReg { s.started with draws := k } .w32 reg r)).advanced) ∧ r &&& mask = v &&& mask) ∧
      (readDebug s.dr n ≠ none → exec (.movDdRd n reg) s = .next (complete s (allFlagsFree
        { s.started with dr := writeDebug s.dr (s.reg .w32 reg) n }).advanced)) ∧
      (readDebug s.dr n = none → exec (.movRdDd reg n) s = .refused .debugRegister ∧
        exec (.movDdRd n reg) s = .refused .debugRegister)) ∧
    (bit s.dr.dr7 13 = true → ∀ i ∈ [Instr.movRdDd reg n, .movDdRd n reg],
      exec i s = takeException { plainExc 1#8 with dr6 := 0x2000#32 } (rollback s s.started))) ∧
  (∀ (s : State) (reg : RegNo) (tr : TrNo), s.prefixOk false false →
    ∀ i ∈ [Instr.movRdTd reg tr, .movTdRd tr reg],
      (s.cpl = 0#2 → exec i s = .refused .testRegister) ∧
      (s.cpl ≠ 0#2 → exec i s = takeException (gpZero s) (rollback s s.started)))

/-- LAR, LSL, VERR and VERW complete in protected mode where their operand can be read: ZF tells whether the selector
is visible and of a kind they accept, a bad one never faults (44 R640 to R643; that VERR and VERW do not look at Present
is in log 53). ARPL completes where its operand may be
read and written, and raises the RPL (44 R644; that its operand is one to be written, as 20 R246 has it, is in log 49).
LLDT and LTR complete there at CPL 0 with the selector of a present LDT or available TSS; LLDT takes a null one; a
selector of anything else is #GP, one of an absent segment #NP (44 R615, R617). -/
def Obligations.ProtectionChecksComplete : Prop :=
  (∀ (s u u' u'' : State) (rm : RM) (v la : Word) (d : Desc), s.prefixOk false false → s.protMode = true →
    readRM .w16 rm s.started = .ok v u →
    let sel : Half := v.setWidth 16
    AccessKeeps s.started u ∧
    (∀ i ok f, Probes s i rm ok f →
      (sel.toNat < 4 ∨ s.descAddr sel = none →
        exec i s = .next (complete s { u with flags := { s.flags with ZF := false } }.advanced)) ∧
      (4 ≤ sel.toNat → s.descAddr sel = some la → readDesc la u = .ok d u' → AccessKeeps s.started u' ∧
        (ok d = true ∧ seen s d sel = true →
          exec i s = .next (complete s (f d { u' with flags := { s.flags with ZF := true } }).advanced)) ∧
        (¬(ok d = true ∧ seen s d sel = true) →
          exec i s = .next (complete s { u' with flags := { s.flags with ZF := false } }.advanced)))) ∧
    (s.cpl = 0#2 →
      (sel.toNat < 4 → exec (.lldtEw rm) s =
          .next (complete s { u with ldtr := { s.ldtr with selector := sel, valid := false } }.advanced) ∧
        exec (.ltrEw rm) s = takeException (gpZero s) (rollback s u)) ∧
      (4 ≤ sel.toNat → sel.getLsbD 2 = true ∨ s.descAddr sel = none →
        ∀ i ∈ [Instr.lldtEw rm, .ltrEw rm], exec i s = takeException (selExc s 13#8 sel) (rollback s u)) ∧
      (4 ≤ sel.toNat → sel.getLsbD 2 = false → s.descAddr sel = some la → readDesc la u = .ok d u' →
        (d.sysType ≠ 2 → exec (.lldtEw rm) s = takeException (selExc s 13#8 sel) (rollback s u')) ∧
        (d.sysType = 2 → d.present = false → exec (.lldtEw rm) s = takeException (selExc s 11#8 sel) (rollback s u')) ∧
        (d.sysType = 2 → d.present = true → exec (.lldtEw rm) s = .next (complete s { u' with
          ldtr := { selector := sel, base := d.base, limit := d.limit, valid := true } }.advanced)) ∧
        (¬(d.sysType = 1 ∨ d.sysType = 9) → exec (.ltrEw rm) s = takeException (selExc s 13#8 sel) (rollback s u')) ∧
        (d.sysType = 1 ∨ d.sysType = 9 → d.present = false →
          exec (.ltrEw rm) s = takeException (selExc s 11#8 sel) (rollback s u')) ∧
        (d.sysType = 1 ∨ d.sysType = 9 → d.present = true → putBusy la true u' = .ok () u'' →
          exec (.ltrEw rm) s = .next (complete s { u'' with
            tr := { selector := sel, base := d.base, limit := d.limit, is386 := bit d.hi 11 } }.advanced))))) ∧
  (∀ (s u : State) (rm : RM) (reg : RegNo) (p : Place) (v : Word), s.prefixOk false false → s.protMode = true →
    Memory.wf s.mem = true → modifyRM .w16 rm s.started = .ok (p, v) u →
    let sel : Half := v.setWidth 16
    let rpl : BitVec 2 := (s.reg .w16 reg).extractLsb' 0 2
    AccessKeeps s.started u ∧
    (rpl ≤ sel.extractLsb' 0 2 →
      exec (.arplEwGw rm reg) s = .next (complete s { u with flags := { s.flags with ZF := false } }.advanced)) ∧
    (sel.extractLsb' 0 2 < rpl → ∃ t, exec (.arplEwGw rm reg) s = .next (complete s t.advanced) ∧
      Puts { u with flags := { s.flags with ZF := true } } .w16 p
        (((sel &&& 0xFFFC#16) ||| rpl.setWidth 16).setWidth 32) t))

/-- The privileged instructions are #GP(0) at a CPL other than 0; those of protected mode only are #UD in real and V86
mode, and LLDT and LTR #GP(0) at another CPL (30 R312, 44 R660). -/
def Obligations.PrivilegedInstructionsTrap : Prop :=
  ∀ (s : State) (i : Instr), s.prefixOk false false →
    (s.cpl ≠ 0#2 → Privileged i → exec i s = takeException (gpZero s) (rollback s s.started)) ∧
    (s.protMode = false → ProtectedOnly i → exec i s = takeException (plainExc 6#8) (rollback s s.started)) ∧
    (∀ rm, s.protMode = true → s.cpl ≠ 0#2 → i = .lldtEw rm ∨ i = .ltrEw rm →
      exec i s = takeException (gpZero s) (rollback s s.started))

/-- HLT at CPL 0 halts (44 R650). What comes between two instructions, by rank (60 R725 to R728): a pending debug trap,
a code breakpoint, an NMI that is not blocked, an INTR that IF and STI let in; nothing while a load of SS holds them
off. A running machine takes them in this order: after the instruction about to execute where a trial of it in a copy of
the machine takes an exception (a general-detect fault: an NMI or INTR only) or it is INT n, INT 3 or INTO with OF set,
before it otherwise; a halted one takes them at once, and with nothing to take waits while IF = 1 and ends the run while
IF = 0 (70 R875). A repeated string instruction in progress goes on as it is. In shutdown an NMI restarts the machine in
real mode, and nothing else goes on but RESET (60 R771). The waiting step, the end of the run, the restart, and that a
debug trap too ends a halt are in log 32, the ranks and the trial in log 50, that a load of SS holds off code
breakpoints too in log 27 (10 R72), that a repetition is not fetched again in log 10, what the coprocessor stores
meanwhile in log 17. -/
def Obligations.EventsBetweenInstructions : Prop :=
  ∀ s : State, (s.prefixOk false false → s.cpl = 0#2 →
      exec .hlt s = .next (complete s { s.started with run := .halted }.advanced)) ∧
    (∀ i c, s.repeating = some (i, c) → runInstruction s = exec i { s with insn := c }) ∧
    (s.resetPin = false → s.run ≠ .shutdown →
      let codeBreak := s.run = .running ∧ s.flags.RF = false ∧ s.codeBreaks ≠ 0#32
      let nmi := s.nmiPending = true ∧ s.nmiBlocked = false
      let idle : Answer :=
        if s.run = .running then runInstruction s else if s.flags.IF then .next s.coprocessed else .fault .halted
      (s.inhibitAll = true → step s = idle) ∧
      (s.inhibitAll = false → s.pendingDb ≠ 0#32 → step s = atBoundary s false (takeEvent 8 trapEvent)) ∧
      (s.inhibitAll = false → s.pendingDb = 0#32 → codeBreak →
        step s = atBoundary s false (takeException { plainExc 1#8 with dr6 := s.codeBreaks })) ∧
      (s.inhibitAll = false → s.pendingDb = 0#32 → ¬codeBreak →
        (nmi → step s = atBoundary s true (takeEvent 8 nmiEvent)) ∧
        (¬nmi → ∀ v, s.intr = some v → s.flags.IF = true → s.inhibitInt = false →
          step s = atBoundary s true (takeEvent 8 (intrEvent v))) ∧
        (¬nmi → s.intr = none ∨ s.flags.IF = false ∨ s.inhibitInt = true → step s = idle))) ∧
    (s.resetPin = false → s.run = .shutdown → step s =
      if s.nmiPending = true ∧ s.nmiBlocked = false then
        takeEvent 8 nmiEvent
          { s with cr0 := { s.cr0 with PE := false, PG := false }, flags := { s.flags with VM := false } }
      else .fault .shutdown) ∧
    (∀ u, trial s = .next u →
      (u.run ≠ .halted → s.ahead = (if bit u.dr.dr6 13 then .debugFault else .fault, u.draws)) ∧
      (u.run = .halted → softwareNext s → s.ahead = (.trap, u.draws)) ∧
      (u.run = .halted → ¬softwareNext s → s.ahead = (.plain, u.draws))) ∧
    ((∀ u, trial s ≠ .next u) → s.ahead = (.plain, s.draws))

/-- The numerics instructions and WAIT complete where no test stops them and their memory operand can be accessed: the
pointers are recorded, the coprocessor is given the instruction, what it stores is free; it is stored at once, or left
to a busy coprocessor, but for FNSTSW and FNSTCW (70 R865). FSETPM does nothing, FNSTSW AX leaves a free AX (45 R682 to
R690). That the coprocessor and its lines are free values is in log 16 and 17. -/
def Obligations.NumericsComplete : Prop :=
  ∀ (s : State), s.prefixOk false false →
    (∀ i noWait op, EscRegs i noWait op → EscReady s noWait →
      exec i s = .next (complete s (passed (recorded s.started op none)).advanced)) ∧
    (∀ i noWait op ext m kind, EscMems i noWait op ext m kind → EscReady s noWait →
      let code : BitVec 11 := op ++ memModRM ext m
      (operandSize s.sizes.op32 kind = none →
        exec i s = .next (complete s (passed (recorded s.started code (some m))).advanced)) ∧
      (∀ n pas bs u u', operandSize s.sizes.op32 kind = some (n, false) →
        memAddrs (s.ea m).1 (s.ea m).2 n true false s.started = .ok pas u → physReadList pas u = .ok bs u' →
        exec i s = .next (complete s (passed (recorded u' code (some m))).advanced) ∧ AccessKeeps s.started u') ∧
      (∀ n pas bs u u', operandSize s.sizes.op32 kind = some (n, true) → n ≤ 4096 → Memory.wf s.mem = true →
        memAddrs (s.ea m).1 (s.ea m).2 n false true s.started = .ok pas u → drawBytes n u = .ok bs u' →
        AccessKeeps s.started u' ∧
        let v := passed (recorded u' code (some m))
        (storedLate noWait kind = true ∧ npxWorks v ∧ exec i s = .next (complete s (State.advanced { v with
            lateBytes := v.lateBytes ++ (pas.zip bs).map fun p => { pa := p.1, bytes := n, value := p.2 } }))) ∨
        (¬(storedLate noWait kind = true ∧ npxWorks v) ∧
          ∃ t, Stores v pas bs t ∧ exec i s = .next (complete s t.advanced)))) ∧
    (s.cr0.EM = false → s.cr0.TS = false → exec .fsetpm s = .next (complete s s.started.advanced) ∧
      exec .fnstswAx s =
        let u := passed (recorded s.started (7#3 ++ 0xE0#8) none)
        .next (complete s (State.setReg { u with draws := u.draws + 1 } .w16 .eax
          ((Config.free 16 u.draws).setWidth 32)).advanced)) ∧
    (¬(s.cr0.MP = true ∧ s.cr0.TS = true) → ¬npxErrs s → ¬npxWorks s →
      exec .wait s = .next (complete s s.started.advanced))

/-- Where the tests stop them: #NM with EM or TS set (WAIT: with MP and TS set), then #MF while ERROR# is active, then
waiting while BUSY# is, before a memory operand is looked at (45 R682, R683, R685, 60 R747, R755). Waiting as trying
again, and its place before the operand's checks, are in log 17, that it keeps the inhibits of MOV SS and STI in
log 27. -/
def Obligations.NumericsTraps : Prop :=
  ∀ (s : State), s.prefixOk false false →
    (s.cr0.EM = true ∨ s.cr0.TS = true →
      (∀ i noWait op, EscRegs i noWait op → exec i s = takeException (plainExc 7#8) (rollback s s.started)) ∧
      (∀ i noWait op ext m kind, EscMems i noWait op ext m kind →
        exec i s = takeException (plainExc 7#8) (rollback s s.started)) ∧
      ∀ i ∈ [Instr.fsetpm, .fnstswAx], exec i s = takeException (plainExc 7#8) (rollback s s.started)) ∧
    (s.cr0.EM = false → s.cr0.TS = false → npxErrs s →
      (∀ i op, EscRegs i false op → exec i s = takeException (plainExc 16#8) (rollback s s.started)) ∧
      ∀ i op ext m kind, EscMems i false op ext m kind →
        exec i s = takeException (plainExc 16#8) (rollback s s.started)) ∧
    (s.cr0.EM = false → s.cr0.TS = false → ¬npxErrs s → npxWorks s →
      (∀ i op, EscRegs i false op → exec i s = .next (waiting s)) ∧
      ∀ i op ext m kind, EscMems i false op ext m kind → exec i s = .next (waiting s)) ∧
    (s.cr0.MP = true → s.cr0.TS = true → exec .wait s = takeException (plainExc 7#8) (rollback s s.started)) ∧
    (¬(s.cr0.MP = true ∧ s.cr0.TS = true) →
      (npxErrs s → exec .wait s = takeException (plainExc 16#8) (rollback s s.started)) ∧
      (¬npxErrs s → npxWorks s → exec .wait s = .next (waiting s)))

/-- The condition of each condition code (42 R494), and the codes of Jcc and SETcc as bytes. -/
def Obligations.ConditionCodes : Prop :=
  ∀ f : Flags,
    [Cond.o, .no, .b, .nb, .z, .nz, .be, .nbe, .s, .ns, .p, .np, .l, .nl, .le, .nle].map (Cond.holds f) =
      [decide (f.OF = true), decide (f.OF = false), decide (f.CF = true), decide (f.CF = false), decide (f.ZF = true),
       decide (f.ZF = false), decide (f.CF = true ∨ f.ZF = true), decide (f.CF = false ∧ f.ZF = false),
       decide (f.SF = true), decide (f.SF = false), decide (f.PF = true), decide (f.PF = false),
       decide (f.SF ≠ f.OF), decide (f.SF = f.OF), decide (f.ZF = true ∨ f.SF ≠ f.OF),
       decide (f.ZF = false ∧ f.SF = f.OF)] ∧
    ∀ z rest (k : Fin 16) (d : Byte) (n : RegNo),
      let cc := [Cond.o, .no, .b, .nb, .z, .nz, .be, .nbe, .s, .ns, .p, .np, .l, .nl, .le, .nle][k]
      decode z ((0x70#8 + BitVec.ofNat 8 k) :: d :: rest) = .ok (.jccJb cc d, rest) ∧
      decode z (0x0F#8 :: (0x90#8 + BitVec.ofNat 8 k) :: (0xC0#8 ||| n.num.setWidth 8) :: rest) =
        .ok (.setccEb cc (.reg n), rest) ∧
      ∀ rel : Half, decode { z with op32 := false }
          (0x0F#8 :: (0x80#8 + BitVec.ofNat 8 k) :: rel.extractLsb' 0 8 :: rel.extractLsb' 8 8 :: rest) =
        .ok (.jccJv cc (.v16 rel), rest)

/-- The flags of addition, subtraction and logic at every width (41 R401, 00 R17): the result modulo 2^w, CF the carry
or borrow, OF, AF from bit 4, SF, ZF and PF from the result; logic clears CF and OF and leaves AF free; nothing else
is written. -/
def Obligations.ArithmeticFlags : Prop :=
  ∀ (w : Width) (a b : Word) (f : Flags) (af : Bool), a.toNat < 2 ^ w.bits → b.toNat < 2 ^ w.bits →
    (∀ op c, (op = AluOp.add ∧ c = 0 ∨ op = .adc ∧ c = f.CF.toNat) →
      let p := aluResult op w a b f af
      p.1.toNat = (a.toNat + b.toNat + c) % 2 ^ w.bits ∧
      p.2.CF = decide (2 ^ w.bits ≤ a.toNat + b.toNat + c) ∧ p.2.AF = bit (a ^^^ b ^^^ p.1) 4 ∧
      p.2.OF = (decide (bit a (w.bits - 1) = bit b (w.bits - 1)) && decide (bit p.1 (w.bits - 1) ≠ bit a (w.bits - 1))) ∧
      ResultFlags w p.1.toNat p.2 ∧ KeepsControl f p.2) ∧
    (∀ op c, (op = AluOp.sub ∧ c = 0 ∨ op = .cmp ∧ c = 0 ∨ op = .sbb ∧ c = f.CF.toNat) →
      let p := aluResult op w a b f af
      (p.1.toNat : Int) = ((a.toNat : Int) - b.toNat - c) % 2 ^ w.bits ∧
      p.2.CF = decide (a.toNat < b.toNat + c) ∧ p.2.AF = bit (a ^^^ b ^^^ p.1) 4 ∧
      p.2.OF = (decide (bit a (w.bits - 1) ≠ bit b (w.bits - 1)) && decide (bit p.1 (w.bits - 1) ≠ bit a (w.bits - 1))) ∧
      ResultFlags w p.1.toNat p.2 ∧ KeepsControl f p.2) ∧
    (∀ op r, (op = AluOp.and ∧ r = a &&& b ∨ op = .or ∧ r = a ||| b ∨ op = .xor ∧ r = a ^^^ b) →
      let p := aluResult op w a b f af
      p.1 = r ∧ p.2.CF = false ∧ p.2.OF = false ∧ p.2.AF = af ∧ ResultFlags w r.toNat p.2 ∧ KeepsControl f p.2)

/-- OF tells whether the signed result fits, AF whether bit 3 carries or borrows. -/
def Obligations.OverflowIsSigned : Prop :=
  ∀ (w : Width) (a b : Word) (c : Bool) (f : Flags), a.toNat < 2 ^ w.bits → b.toNat < 2 ^ w.bits →
    ((addFlags w a b c f).2.OF = true ↔
      ¬(-(2 ^ (w.bits - 1) : Int) ≤ w.signed a + w.signed b + c.toNat ∧
        w.signed a + w.signed b + c.toNat < 2 ^ (w.bits - 1))) ∧
    ((subFlags w a b c f).2.OF = true ↔
      ¬(-(2 ^ (w.bits - 1) : Int) ≤ w.signed a - w.signed b - c.toNat ∧
        w.signed a - w.signed b - c.toNat < 2 ^ (w.bits - 1))) ∧
    ((addFlags w a b c f).2.AF = true ↔ 16 ≤ a.toNat % 16 + b.toNat % 16 + c.toNat) ∧
    ((subFlags w a b c f).2.AF = true ↔ a.toNat % 16 < b.toNat % 16 + c.toNat)

/-- An access the segment's descriptor register does not allow is #SS(0) through SS, #GP(0) through another register,
before anything is read or written; an allowed one, with linear addresses physical, is at base plus offset (20 R131,
R160 to R166). That the register's readable and writeable rights are looked at in every mode is in log 24. -/
def Obligations.SegmentChecks : Prop :=
  ∀ (s : State) (sg : SegNo) (off : Word) (n : Nat) (rd wr : Bool),
    (¬Allowed (s.seg sg) off n rd wr → memAddrs sg off n rd wr s =
      .error (.exc { gpZero s with vector := if sg = .ss then 12#8 else 13#8 }) s) ∧
    (Allowed (s.seg sg) off n rd wr → Plain s → memAddrs sg off n rd wr s =
      .ok ((List.range n).map fun k => (s.seg sg).base + off + BitVec.ofNat 32 k) s)

/-- What MOV, PUSH and every other store writes, a load from the same place reads: little-endian, at every allowed
offset, where linear addresses are physical (20 R135). -/
def Obligations.StoreThenLoad : Prop :=
  ∀ (s : State) (sg : SegNo) (off : Word) (n v : Nat), n ≤ 4096 → Plain s → Memory.wf s.mem = true →
    Allowed (s.seg sg) off n true true →
    ∃ t, memWrite sg off n v s = .ok () t ∧ memRead sg off n t = .ok (v % 256 ^ n) t ∧ Memory.wf t.mem = true ∧
      ∀ k, k < n → Memory.read t.mem ((s.seg sg).base + off + BitVec.ofNat 32 k).toNat = BitVec.ofNat 8 (v / 256 ^ k)

/-- Without paging a linear address is physical (20 R190). Translation with paging on and nothing cached, over RAM (20
R193 to R196): a missing PDE or PTE, or a right that user level lacks, is #PF with the address and the code; else the
page frame and the offset, with Accessed set in both entries, Dirty in the PTE for a write, and no other byte of memory
changed. Whatever is cached, a write that is translated leaves Dirty set in the PTE (20 R195, 92 D33). What cached
entries may change else is in log 18; the mode, the CR3 and the TLB are those the executing instruction sees, older ones
for a queued instruction of an older mode (log 19). -/
def Obligations.PagedTranslation : Prop :=
  (∀ (s : State) (la : Word) (wr user : Bool), s.pgNow = false → s.tlbNow = [] → translate la wr user s = .ok la s) ∧
  ∀ (s : State) (la : Word) (wr user : Bool), s.pgNow = true → s.physMap = [] → Memory.wf s.mem = true →
    let pdeAddr := (s.cr3Now &&& 0xFFFFF000#32) ||| ((la >>> 22) <<< 2)
    let pde := memWord s.mem pdeAddr.toNat
    let pteAddr := (pde &&& 0xFFFFF000#32) ||| (((la >>> 12) &&& 0x3FF#32) <<< 2)
    let pte := memWord s.mem pteAddr.toNat
    let denied := user && (!(bit pde 2 && bit pte 2) || (wr && !(bit pde 1 && bit pte 1)))
    let code (present : Bool) : ErrCode := .page (BitVec.ofBool user ++ BitVec.ofBool wr ++ BitVec.ofBool present)
    let pf (present : Bool) : Exc := { vector := 14#8, cr2 := some la, dr6 := 0#32, code := code present }
    (s.tlbNow = [] → bit pde 0 = false → translate la wr user s = .error (.exc (pf false)) s) ∧
    (s.tlbNow = [] → bit pde 0 = true → bit pte 0 = false → translate la wr user s = .error (.exc (pf false)) s) ∧
    (s.tlbNow = [] → bit pde 0 = true → bit pte 0 = true → denied = true →
      translate la wr user s = .error (.exc (pf true)) s) ∧
    (s.tlbNow = [] → bit pde 0 = true → bit pte 0 = true → denied = false →
      ∃ u, translate la wr user s = .ok ((pte &&& 0xFFFFF000#32) ||| (la &&& 0xFFF#32)) u ∧ AccessKeeps s u ∧
        ∀ a, Memory.read u.mem a = Memory.read s.mem a |||
          (if a = pdeAddr.toNat then 0x20#8 else 0#8) |||
          (if a = pteAddr.toNat then (if wr then 0x60#8 else 0x20#8) else 0#8)) ∧
    (∀ pa u, bit pde 0 = true → bit pte 0 = true → wr = true → translate la wr user s = .ok pa u →
      bit (memWord u.mem pteAddr.toNat) 6 = true)

/-- Every well-formed instruction's encoding decodes to it, whatever follows. -/
def Obligations.DecodeEncode : Prop :=
  ∀ (z : Sizes) (i : Instr) (rest : List Byte), i.wf z = true → decode z (encode i ++ rest) = .ok (i, rest)

/-- Words of several families, written out from the spec's encodings. -/
def Obligations.DecodeWords : Prop :=
  let z16 : Sizes := { op32 := false, ad32 := false }
  let z32 : Sizes := { op32 := true, ad32 := true }
  decode z16 [0x8B#8, 0x46#8, 0xFE#8] = .ok (.movGvEv .eax (.mem (.ind16 .bp (.d8 0xFE#8))), []) ∧
  decode z32 [0x8B#8, 0x44#8, 0x8B#8, 0x10#8] = .ok (.movGvEv .eax (.mem (.sib 2#2 .ecx .ebx (.d8 0x10#8))), []) ∧
  decode z32 [0x81#8, 0xC3#8, 0x78#8, 0x56#8, 0x34#8, 0x12#8] = .ok (.addEvIv (.reg .ebx) (.v32 0x12345678#32), []) ∧
  decode z16 [0xD3#8, 0xE0#8] = .ok (.shlEvCl (.reg .eax), []) ∧
  decode z16 [0x74#8, 0xAF#8] = .ok (.jccJb .z 0xAF#8, []) ∧
  decode z16 [0xEA#8, 0x00#8, 0x10#8, 0x34#8, 0x12#8] = .ok (.jmpFarAp (.v16 0x1000#16) 0x1234#16, []) ∧
  decode z16 [0xA5#8] = .ok (.movsv, []) ∧
  decode z32 [0x0F#8, 0x22#8, 0xD8#8] = .ok (.movCdRd .cr3 .eax, []) ∧
  decode z16 [0x9B#8] = .ok (.wait, []) ∧
  decode z16 [0x66#8] = .ok (.opSizePrefix, [])

/-- A step runs the decoded instruction: when the bytes at CS:EIP are prefixes and then bytes that decode, at the
sizes the prefixes give, to an instruction, `step` is `exec` of it with the prefixes noted and its length known (30
R251, R310). Bytes that are no instruction are #UD (30 R300; the undocumented ones of R303: log 9); an instruction that
goes on past the CS limit, or past 15 bytes, is #GP(0) (30 R251, 92 D21), each a fault that leaves all as it was.
Prefixes as items of their own are in log 20, queued bytes in log 19. -/
def Obligations.StepRunsDecoded : Prop :=
  ∀ (s : State), Quiet s →
    let gp : Exc := { plainExc 13#8 with code := .sel 0#16 }
    (s.segs.cs.limit < s.eip → step s = takeException gp (idled s)) ∧
    ∀ (ps : List Instr) (bs : List Byte), (∀ p ∈ ps, isPrefix p = true) → ps.length + bs.length ≤ 15 →
      AtEip s (ps.flatMap encode ++ bs) →
      let z := { s with insn := noted ps }.sizes
      (∀ i, isPrefix i = false → (∀ rest, decode z (bs ++ rest) = .ok (i, rest)) →
        step s = exec i { s with insn := { noted ps with len := ps.length + bs.length } }) ∧
      ((∀ rest, ∃ rest', decode z (bs ++ rest) = .error (.invalid rest')) →
        step s = takeException (plainExc 6#8) (idled s)) ∧
      (decode z bs = .error .short →
        ps.length + bs.length = 15 ∨ s.segs.cs.limit.toNat + 1 = s.eip.toNat + ps.length + bs.length →
        step s = takeException gp (idled s))

/-- What RESET leaves (10 R121): the values the spec gives. DH = 3, and the values of CS, of the data segment selectors,
of IDTR and of DR7 that Table 6-1 does not give, are in log 1 and 2, the reserved bits of EFLAGS in log 5. RESET of a
running machine leaves the same, with memory, the devices and INTR as they were (70 R830, R834; what is kept of the
coprocessor: log 16, 21). -/
def Obligations.ResetValues : Prop :=
  let r := State.reset
  r.eip = 0xFFF0#32 ∧ r.flags.toWord = 2#32 ∧ r.segs.cs.selector = 0xF000#16 ∧ r.segs.cs.base = 0xFFFF0000#32 ∧
  r.segs.cs.limit = 0xFFFF#32 ∧ r.cr0.PE = false ∧ r.cr0.PG = false ∧ r.cr0.TS = false ∧ r.cr0.EM = false ∧
  r.cr0.MP = false ∧ r.idtr.base = 0#32 ∧ r.dr.dr7 = 0#32 ∧ r.regs.edx.extractLsb' 8 8 = 3#8 ∧
  (∀ n ∈ [SegNo.ds, .es, .fs, .gs],
    (r.seg n).selector = 0#16 ∧ (r.seg n).base = 0#32 ∧ (r.seg n).limit = 0xFFFF#32) ∧
  r.cpl = 0#2 ∧ r.default32 = false ∧
  ∀ s : State, s.resetPin = true → step s = .next { State.reset with
    cr0 := { State.reset.cr0 with ET := decide (s.npx.kind = .npx387) },
    npx := { State.reset.npx with kind := s.npx.kind, busy := s.npx.busy, error := s.npx.error },
    intr := s.intr, mem := s.mem, physMap := s.physMap, trace := s.trace, draws := s.draws }

/-- The invariant holds after RESET. -/
def Obligations.ResetInvariant : Prop :=
  Machine.Inv State.reset

/-- Every step keeps the invariant: memory has its canonical form, CR3 reads 0 in its low 12 bits, paging implies
protected mode, no instruction is in progress, and a repetition in progress is one of a string instruction with no
memory bits to keep. That no instruction is in progress between steps, and what a repetition keeps, are the model's own
(log 20, log 10). -/
def Obligations.StepKeepsInvariant : Prop :=
  ∀ s t : State, Machine.Inv s → step s = .next t → Machine.Inv t

/-- How an instruction ends. A fault leaves the state before the instruction, but for the memory bits the processor has
set in its own structures, the TLB, the free values drawn and what devices were sent (60 R722; log 28). An instruction
that completes ends its context, clears RF unless it loaded it, and makes a single-step trap due where TF was set before
and after (60 R722, R741; log 25, 26); a coprocessor with bytes still to store has stored any number of them (70 R865;
log 17), in order; what the queue can no longer hold is forgotten (20 R233; log 19). -/
def Obligations.InstructionEnds : Prop :=
  (∀ s t : State, rollback s t = { s with
      mem := (rollback s t).mem, tlb := t.tlb, draws := t.draws, trace := t.trace, insn := Insn.start,
      inhibitInt := false, inhibitAll := false, repeating := none } ∧
    (Memory.wf s.mem = true → (∀ c ∈ t.insn.kept, c.1 < 2 ^ 32) → Memory.wf (rollback s t).mem = true ∧
      ∀ a, Memory.read (rollback s t).mem a =
        Memory.read s.mem a ||| (if physKind s.physMap a = none then bitsAt t.insn.kept a else 0#8))) ∧
  (∀ s t : State,
    let u : State := { t with
      flags := { t.flags with RF := t.insn.keepRF && t.flags.RF }, insn := Insn.start,
      pendingDb := if s.flags.TF = true ∧ t.flags.TF = true then t.pendingDb ||| 0x4000#32 else t.pendingDb }
    let lives (next : Word) : Prop := (t.segs.cs.base + t.eip + 15#32 - next).toNat < 31
    ∃ k, k ≤ t.lateBytes.length ∧
      let v := if t.lateBytes = [] then u else State.landed { u with draws := u.draws + 1 } k
      complete s t = { v with
        staleBytes := (complete s t).staleBytes, staleModes := (complete s t).staleModes } ∧
      (∀ e, e ∈ (complete s t).staleBytes ↔ e ∈ v.staleBytes ∧ lives e.next) ∧
      (∀ e, e ∈ (complete s t).staleModes ↔ e ∈ v.staleModes ∧ lives e.next)) ∧
  (∀ (s : State) (n : Nat) (pa : Word) (b : Byte), Memory.wf s.mem = true →
    let t := s.stored n pa b
    let kind := physKind s.physMap pa.toNat
    t = { s with mem := t.mem, staleBytes := t.staleBytes, trace := t.trace } ∧
    (∀ a, Memory.read t.mem a = if kind = none ∧ a = pa.toNat then b else Memory.read s.mem a) ∧
    t.trace = s.trace ++ (if kind = some .device then [IoEvent.mem pa n b] else [])) ∧
  (∀ (s : State) (b : LateByte) (bs : List LateByte) (k : Nat), s.lateBytes = b :: bs →
    s.landed (k + 1) = State.landed (State.stored { s with lateBytes := bs } b.bytes b.pa b.value) k) ∧
  ∀ s : State, s.landed 0 = s

/-- What follows an exception that the delivery of an event meets (60 R748, R770, R771): the state is the one the event
found, the exception is recorded, and next comes the exception itself, a double fault for a pair that is one, or
shutdown; an NMI, an INTR or a debug trap that could not be delivered recurs at the next IRET, also where the double
fault of a vector beyond the limit of the real-mode table follows (60 R769). After a task switch the exception is taken
in the new task (42 R548), and the event does not recur. Which events recur, and when, is the model's choice, in log 48;
that the fetch of the handler's first instruction is no part of the delivery is in log 55. -/
def Obligations.FailedDeliveries : Prop :=
  ∀ (s t : State) (ev : Event) (e : Exc) (k : Nat),
    (deliverOnce ev (delivering ev s) = .error (.exc e) t →
      let r := recordedExc e (keptEvent ev (rollback s t))
      takeEvent (k + 1) ev s = match nextOf (!s.cr0.PE) ev e with
        | none => .next { r with run := .shutdown }
        | some ev' => takeEvent k ev' r) ∧
    (deliverOnce ev (delivering ev s) = .error (.excHere e) t →
      let r := recordedExc e (idled t)
      takeEvent (k + 1) ev s = match nextOf (!t.cr0.PE) ev e with
        | none => .next { r with run := .shutdown }
        | some ev' => takeEvent k ev' r)

/-- The checks on a stack segment for a privilege level (20 R157), the stack of an inner level, which the TSS names: its
checks, the room on it the last of them, and after them its loading (42 R527, 20 R240), the checks on the code segment a
far return names (42 R530), and the return to an outer level, which pops a stack as well and takes away the data
segments that level may not use (42 R531, R532). The upper half of a stack pointer loaded as a word is in log 37, that
the frame of an outer return does not wrap past FFFFH in log 54. -/
def Obligations.StackSwitches : Prop :=
  (∀ (s u : State) (bad : Byte) (sel : Half) (level : BitVec 2) (la : Word) (d : Desc),
    let good := sel.extractLsb' 0 2 = level ∧ d.writeable = true ∧ d.dpl = level
    (s.descAddr sel = none → stackDesc bad sel level s = .error (.exc (selExc s bad sel)) s) ∧
    (s.descAddr sel = some la → readDesc la s = .ok d u → AccessKeeps s u ∧
      (¬good → stackDesc bad sel level s = .error (.exc (selExc s bad sel)) u) ∧
      (good → d.present = false → stackDesc bad sel level s = .error (.exc (selExc s 12#8 sel)) u) ∧
      (good → d.present = true → stackDesc bad sel level s = .ok (la, d) u))) ∧
  (∀ (r : SegReg) (s : State) (sp : Word) (g k : Nat), s.room g k = s.segs.ss.room s.sp g k ∧
    (r.room sp g k = true ↔ ∀ j, 1 ≤ j → j ≤ k →
      let off := sp - BitVec.ofNat 32 (g * j)
      Allowed r (if r.big then off else off &&& 0xFFFF#32) g false true)) ∧
  (∀ (s u u' v : State) (level : BitVec 2) (x y g k : Nat) (la : Word) (d : Desc) (e : Exc),
    let n := if s.tr.is386 then 4 else 2
    let o := n + 2 * n * level.toNat
    let sel : Half := BitVec.ofNat 16 y
    (s.tr.limit.toNat < o + n + 1 → innerStack level g k s = .error (.exc (selExc s 10#8 s.tr.selector)) s) ∧
    (o + n + 1 ≤ s.tr.limit.toNat → linRead (s.tr.base + BitVec.ofNat 32 o) n s = .ok x u →
      linRead (s.tr.base + BitVec.ofNat 32 (o + n)) 2 u = .ok y u' →
      (sel.toNat < 4 → innerStack level g k s = .error (.exc { gpZero s with vector := 10#8 }) u') ∧
      (4 ≤ sel.toNat → stackDesc 10#8 sel level u' = .error (.exc e) v →
        innerStack level g k s = .error (.exc e) v) ∧
      (4 ≤ sel.toNat → stackDesc 10#8 sel level u' = .ok (la, d) v →
        let r := d.toReg sel d.dpl
        let free := r.big && decide (n = 2)
        let esp : Word := if free then Config.free 16 v.draws ++ BitVec.ofNat 16 x else BitVec.ofNat 32 x
        let w : State := if free then { v with draws := v.draws + 1 } else v
        (r.room esp g k = false → innerStack level g k s = .error (.exc { gpZero s with vector := 12#8 }) w) ∧
        (r.room esp g k = true → innerStack level g k s =
          .ok { sel := sel, la := la, desc := d, esp := esp, wide := s.tr.is386 } w)))) ∧
  (∀ (s u : State) (level : BitVec 2) (t : InnerStack), markAccessed t.la t.desc s = .ok () u →
    let r := t.desc.toReg t.sel t.desc.dpl
    AccessKeeps s u ∧ enterLevel level t s = .ok () (State.setReg { u with
      segs := { u.segs with ss := r, cs := { u.segs.cs with dpl := level } } }
      (if r.big then .w32 else .w16) .esp t.esp)) ∧
  (∀ (s u : State) (sel : Half) (la : Word) (d : Desc),
    let rpl : BitVec 2 := sel.extractLsb' 0 2
    let good := d.isCode = true ∧ if d.conforming = true then d.dpl ≤ rpl else d.dpl = rpl
    (sel.toNat < 4 → returnDesc sel s = .error (.exc (gpZero s)) s) ∧
    (4 ≤ sel.toNat → rpl < s.cpl ∨ s.descAddr sel = none →
      returnDesc sel s = .error (.exc (selExc s 13#8 sel)) s) ∧
    (4 ≤ sel.toNat → s.cpl ≤ rpl → s.descAddr sel = some la → readDesc la s = .ok d u →
      (¬good → returnDesc sel s = .error (.exc (selExc s 13#8 sel)) u) ∧
      (good → d.present = false → returnDesc sel s = .error (.exc (selExc s 11#8 sel)) u) ∧
      (good → d.present = true → returnDesc sel s = .ok (la, d) u))) ∧
  (∀ (s u u' v w w' : State) (n k imm : Nat) (cs : Half) (ip la sla spw ssw : Word) (d sd : Desc) (e : Exc),
    let level : BitVec 2 := cs.extractLsb' 0 2
    let ss : Half := ssw.setWidth 16
    (¬Allowed s.segs.ss s.sp (k + 2 * n) true false →
      returnOuter n k imm cs ip la d s = .error (.exc { gpZero s with vector := 12#8 }) s) ∧
    (Allowed s.segs.ss s.sp (k + 2 * n) true false → peek n k s = .ok spw u → peek n (k + n) u = .ok ssw u' →
      (ss.toNat < 4 → returnOuter n k imm cs ip la d s = .error (.exc (gpZero s)) u') ∧
      (4 ≤ ss.toNat → stackDesc 13#8 ss level u' = .error (.exc e) v →
        returnOuter n k imm cs ip la d s = .error (.exc e) v) ∧
      (4 ≤ ss.toNat → stackDesc 13#8 ss level u' = .ok (sla, sd) v →
        (d.limit < ip → returnOuter n k imm cs ip la d s = .error (.exc (gpZero s)) v) ∧
        (ip ≤ d.limit → markAccessed la d v = .ok () w → markAccessed sla sd (withCS w cs d level) = .ok () w' →
          let a := dropped (withSP { w' with segs := { w'.segs with ss := sd.toReg ss sd.dpl } } n spw) imm
          returnOuter n k imm cs ip la d s =
            .ok () (State.jumped { a with segs := returnedSegs a.segs level } ip)))))

/-- Far JMP and CALL through a call gate (42 R524 to R527): the gate must be usable from the CPL and the RPL, #GP, and
present, #NP; its selector names a present code segment at least as privileged as the CPL. A conforming segment or one
of the same level is entered at the same level, by CALL with CS and the return offset pushed in the size of the gate;
CALL to a more privileged one checks the new stack, with room for all that is pushed, and the offset, then enters its
level and pushes the old SS and ESP, the parameters, CS and the return offset on the new stack; JMP to one is #GP. The
sum of the address of a pointer's selector is in log 38. -/
def Obligations.CallGates : Prop :=
  ∀ (s u u1 u2 : State) (i : Instr) (call : Bool) (sel : Half) (off lg la : Word) (gate d : Desc),
    FarGoes s i call sel off u → s.prefixOk false false → s.protMode = true → 4 ≤ sel.toNat →
    s.descAddr sel = some lg → readDesc lg u = .ok gate u1 → gate.sysType = 4 ∨ gate.sysType = 12 →
    let g := gateSize gate
    let usable := s.cpl ≤ gate.dpl ∧ sel.extractLsb' 0 2 ≤ gate.dpl
    let noRoom : Exc := { gpZero s with vector := 12#8 }
    (¬usable → exec i s = takeException (selExc s 13#8 sel) (rollback s u1)) ∧
    (usable → gate.present = false → exec i s = takeException (selExc s 11#8 sel) (rollback s u1)) ∧
    (usable → gate.present = true → gate.gateSel.toNat < 4 → exec i s = takeException (gpZero s) (rollback s u1)) ∧
    (usable → gate.present = true → 4 ≤ gate.gateSel.toNat → s.descAddr gate.gateSel = none →
      exec i s = takeException (selExc s 13#8 gate.gateSel) (rollback s u1)) ∧
    (usable → gate.present = true → 4 ≤ gate.gateSel.toNat → s.descAddr gate.gateSel = some la →
      readDesc la u1 = .ok d u2 →
      let same := d.conforming = true ∨ d.dpl = s.cpl
      (¬(d.isCode = true ∧ d.dpl ≤ s.cpl) →
        exec i s = takeException (selExc s 13#8 gate.gateSel) (rollback s u2)) ∧
      (d.isCode = true → d.dpl ≤ s.cpl → d.present = false →
        exec i s = takeException (selExc s 11#8 gate.gateSel) (rollback s u2)) ∧
      (d.isCode = true → d.dpl ≤ s.cpl → d.present = true →
        (call = false → ¬same → exec i s = takeException (selExc s 13#8 gate.gateSel) (rollback s u2)) ∧
        (call = false → same → d.limit < gate.gateOff → exec i s = takeException (gpZero s) (rollback s u2)) ∧
        (call = false → same → gate.gateOff ≤ d.limit → ∀ v, markAccessed la d u2 = .ok () v →
          exec i s = .next (complete s ((withCS v gate.gateSel d s.cpl).jumped gate.gateOff))) ∧
        (call = true → same → s.room g 2 = false → exec i s = takeException noRoom (rollback s u2)) ∧
        (call = true → same → s.room g 2 = true → d.limit < gate.gateOff →
          exec i s = takeException (gpZero s) (rollback s u2)) ∧
        (call = true → same → s.room g 2 = true → gate.gateOff ≤ d.limit → ∀ v w,
          pushReturn g s.segs.cs.selector s.nextEip u2 = .ok () v → markAccessed la d v = .ok () w →
          exec i s = .next (complete s ((withCS w gate.gateSel d s.cpl).jumped gate.gateOff))) ∧
        (call = true → ¬same → ∀ v e, innerStack d.dpl g (4 + gate.gateCount) u2 = .error (.exc e) v →
          exec i s = takeException e (rollback s v)) ∧
        (call = true → ¬same → ∀ stack v, innerStack d.dpl g (4 + gate.gateCount) u2 = .ok stack v →
          (d.limit < gate.gateOff → exec i s = takeException (gpZero s) (rollback s v)) ∧
          (gate.gateOff ≤ d.limit → ∀ v0 v1 v2 v3 v4 v5, enterLevel d.dpl stack v = .ok () v0 →
            pushSel g s.segs.ss.selector v0 = .ok () v1 → push g s.regs.esp v1 = .ok () v2 →
            copyParams g s.segs.ss s.regs.esp gate.gateCount v2 = .ok () v3 →
            pushReturn g s.segs.cs.selector s.nextEip v3 = .ok () v4 → markAccessed la d v4 = .ok () v5 →
            exec i s = .next (complete s ((withCS v5 gate.gateSel d d.dpl).jumped gate.gateOff))))))

/-- Task switches (42 R528, R529, R533, R540 to R548). The state saved in a TSS, and what is read from one: each field
at its place. A switch needs both TSSs large enough, #TS; it writes the old task's state, the Busy bits and the back
link; it leaves the new task's state, with TS set, the local breakpoints off and a debug trap where the T bit is set;
the new selectors are then checked and loaded, LDT first, then, with VM set, all six segment registers as in V86 mode,
else CS, SS, DS, ES, FS and GS at the CPL of the RPL of CS, with #TS(selector), and #NP(selector) or #SS(selector) for a
segment that is not present; an exception in these checks is taken in the new task. Far JMP and CALL to a TSS or through
a task gate, and IRET with NT = 1, switch tasks; what they may not name is #GP, #NP or, for the back link, #TS. What the
spec leaves open of a switch is in log 33, of a debug trap pending where its checks fault in log 35. The sum of the
address of a pointer's selector is in log 38. -/
def Obligations.TaskSwitches : Prop :=
  (∀ (s u : State) (image : Flags) (eip : Word) (pas : List Word), s.physMap = [] → Memory.wf s.mem = true →
    (s.tr.is386 = true → physAddrs (s.tr.base + 0x20#32) 64 true false s = .ok pas u → AccessKeeps s u ∧
      ∃ t, saveTask image eip s = .ok () t ∧ Stores u pas (layout 4 (taskWords s image eip ++
        [s.segs.fs.selector.setWidth 32, s.segs.gs.selector.setWidth 32])) t) ∧
    (s.tr.is386 = false → physAddrs (s.tr.base + 0xE#32) 28 true false s = .ok pas u → AccessKeeps s u ∧
      ∃ t, saveTask image eip s = .ok () t ∧ Stores u pas (layout 2 (taskWords s image eip)) t)) ∧
  (∀ (s t : State) (image : Flags) (eip : Word), Plain s → Memory.wf s.mem = true →
    s.tr.base.toNat + 0x68 ≤ 2 ^ 32 → saveTask image eip s = .ok () t →
    let b := s.tr.base.toNat
    (s.tr.is386 = true → readTask s.tr.base true t = .ok
      { eip := eip, flags := image, regs := s.regs, es := s.segs.es.selector, cs := s.segs.cs.selector,
        ss := s.segs.ss.selector, ds := s.segs.ds.selector, fs := s.segs.fs.selector, gs := s.segs.gs.selector,
        ldt := memHalf t.mem (b + 0x60), cr3 := some (memWord t.mem (b + 0x1C) &&& 0xFFFFF000#32),
        trap := (Memory.read t.mem (b + 0x64)).getLsbD 0 } t) ∧
    (s.tr.is386 = false → ∃ x, readTask s.tr.base false t = .ok x { t with draws := t.draws + 8 } ∧
      x.eip = eip &&& 0xFFFF#32 ∧ x.flags = { image with RF := false, VM := false } ∧
      (∀ n, x.regs.read .w16 n = s.regs.read .w16 n) ∧ x.es = s.segs.es.selector ∧ x.cs = s.segs.cs.selector ∧
      x.ss = s.segs.ss.selector ∧ x.ds = s.segs.ds.selector ∧ x.fs = 0#16 ∧ x.gs = 0#16 ∧
      x.ldt = memHalf t.mem (b + 0x2A) ∧ x.cr3 = none ∧ x.trap = false)) ∧
  (∀ (s u v w : State) (kind : SwitchKind) (sel : Half) (la eip : Word) (d : Desc) (image : Flags) (x : TaskImage)
    (e : Exc),
    let least (is386 : Bool) : Nat := if is386 then 0x67 else 0x2B
    let tr : TaskReg := { selector := sel, base := d.base, limit := d.limit, is386 := bit d.hi 11 }
    (d.limit.toNat < least (bit d.hi 11) →
      taskSwitch kind sel la d image eip s = .error (.exc (selExc s 10#8 sel)) s) ∧
    (least (bit d.hi 11) ≤ d.limit.toNat → s.tr.limit.toNat < least s.tr.is386 →
      taskSwitch kind sel la d image eip s = .error (.exc (selExc s 10#8 s.tr.selector)) s) ∧
    (least (bit d.hi 11) ≤ d.limit.toNat → least s.tr.is386 ≤ s.tr.limit.toNat →
      SwitchWrites kind la d.base image eip s u → readTask d.base (bit d.hi 11) u = .ok x v →
      let nest := decide (kind = .nest)
      (validateTask x (v.switched nest tr x) = .ok () w → ∃ t, taskSwitch kind sel la d image eip s = .ok () t ∧
        OfTask nest tr x v t ∧ t.pendingDb = v.pendingDb ||| (if x.trap then 0x8000#32 else 0#32) ∧
        t.staleBytes = [] ∧ t.staleModes = [] ∧ t.repeating = none ∧ t.insn.keepRF = true) ∧
      (validateTask x (v.switched nest tr x) = .error (.exc e) w →
        taskSwitch kind sel la d image eip s = .error (.excHere e) w ∧ OfTask nest tr x v w))) ∧
  (∀ (s u : State) (x : TaskImage),
    (∀ e, checkLdt x.ldt s = .error e u → validateTask x s = .error e u) ∧
    (checkLdt x.ldt s = .ok () u →
      (x.flags.VM = true → validateTask x s = .ok () { u with segs := v86Segs x }) ∧
      (x.flags.VM = false → validateTask x s = taskSegChecks x
        { u with segs := { u.segs with cs := { u.segs.cs with dpl := x.cs.extractLsb' 0 2 } } }))) ∧
  (∀ (s u u' : State) (n : SegNo) (sel : Half) (la : Word) (d : Desc),
    let bad : Stop := .exc (selExc s 10#8 sel)
    let absent : Stop := .exc (selExc s 11#8 sel)
    let goodCS := d.isCode = true ∧ enterable d sel (sel.extractLsb' 0 2)
    let goodData := d.readable = true ∧ (d.conforming = false → sel.extractLsb' 0 2 ≤ d.dpl ∧ s.cpl ≤ d.dpl)
    (sel.toNat < 4 → checkLdt sel s = .ok () s ∧ checkTaskCS sel s = .error bad s ∧ checkTaskSS sel s = .error bad s ∧
      loadDataSeg 10#8 n sel s = .ok () { s with segs := s.segs.set n { s.seg n with selector := sel, usable := false } }) ∧
    (4 ≤ sel.toNat → sel.getLsbD 2 = true ∨ s.descAddr sel = none → checkLdt sel s = .error bad s) ∧
    (4 ≤ sel.toNat → s.descAddr sel = none →
      checkTaskCS sel s = .error bad s ∧ loadDataSeg 10#8 n sel s = .error bad s) ∧
    (4 ≤ sel.toNat → s.descAddr sel = some la → readDesc la s = .ok d u → AccessKeeps s u ∧
      (sel.getLsbD 2 = false →
        (d.sysType ≠ 2 ∨ d.present = false → checkLdt sel s = .error bad u) ∧
        (d.sysType = 2 → d.present = true → checkLdt sel s = .ok ()
          { u with ldtr := { selector := sel, base := d.base, limit := d.limit, valid := true } })) ∧
      (¬goodCS → checkTaskCS sel s = .error bad u) ∧
      (goodCS → d.present = false → checkTaskCS sel s = .error absent u) ∧
      (¬goodData → loadDataSeg 10#8 n sel s = .error bad u) ∧
      (goodData → d.present = false → loadDataSeg 10#8 n sel s = .error absent u) ∧
      (d.present = true → markAccessed la d u = .ok () u' → AccessKeeps s u' ∧
        (goodCS → checkTaskCS sel s = .ok () (withCS u' sel d (sel.extractLsb' 0 2))) ∧
        (goodData → loadDataSeg 10#8 n sel s = .ok () { u' with segs := u'.segs.set n (d.toReg sel d.dpl) }))) ∧
    (4 ≤ sel.toNat →
      (∀ e, stackDesc 10#8 sel s.cpl s = .error e u → checkTaskSS sel s = .error e u) ∧
      (stackDesc 10#8 sel s.cpl s = .ok (la, d) u → markAccessed la d u = .ok () u' →
        checkTaskSS sel s = .ok () { u' with segs := u'.segs.set .ss (d.toReg sel d.dpl) }))) ∧
  (∀ (s u u1 u2 t : State) (i : Instr) (call : Bool) (sel tsel : Half) (off la lt : Word) (d dt : Desc) (e : Exc),
    FarGoes s i call sel off u → s.prefixOk false false → s.protMode = true → 4 ≤ sel.toNat →
    s.descAddr sel = some la → readDesc la u = .ok d u1 →
    let kind : SwitchKind := if call then .nest else .jump
    let usable := s.cpl ≤ d.dpl ∧ sel.extractLsb' 0 2 ≤ d.dpl
    (d.sysType ∈ [1, 5, 9] → ¬usable → exec i s = takeException (selExc s 13#8 sel) (rollback s u1)) ∧
    (d.sysType ∈ [1, 5, 9] → usable → d.present = false →
      exec i s = takeException (selExc s 11#8 sel) (rollback s u1)) ∧
    (d.sysType = 1 ∨ d.sysType = 9 → usable → d.present = true →
      (taskSwitch kind sel la d s.flags s.nextEip u1 = .ok () t → exec i s = .next (complete s t)) ∧
      (taskSwitch kind sel la d s.flags s.nextEip u1 = .error (.exc e) t →
        exec i s = takeException e (rollback s t)) ∧
      (taskSwitch kind sel la d s.flags s.nextEip u1 = .error (.excHere e) t →
        exec i s = takeException e (idled t))) ∧
    (d.sysType = 5 → usable → d.present = true →
      (gateTss d u1 = .error (.exc e) u2 → exec i s = takeException e (rollback s u2)) ∧
      (gateTss d u1 = .ok (tsel, lt, dt) u2 →
        (taskSwitch kind tsel lt dt s.flags s.nextEip u2 = .ok () t → exec i s = .next (complete s t)) ∧
        (taskSwitch kind tsel lt dt s.flags s.nextEip u2 = .error (.exc e) t →
          exec i s = takeException e (rollback s t)) ∧
        (taskSwitch kind tsel lt dt s.flags s.nextEip u2 = .error (.excHere e) t →
          exec i s = takeException e (idled t))))) ∧
  (∀ (s u : State) (gate d : Desc) (la : Word),
    let sel := gate.gateSel
    (sel.toNat < 4 ∨ sel.getLsbD 2 = true ∨ s.descAddr sel = none →
      gateTss gate s = .error (.exc (selExc s 13#8 sel)) s) ∧
    (4 ≤ sel.toNat → sel.getLsbD 2 = false → s.descAddr sel = some la → readDesc la s = .ok d u →
      (d.sysType ∉ [1, 9] → gateTss gate s = .error (.exc (selExc s 13#8 sel)) u) ∧
      (d.sysType ∈ [1, 9] → d.present = false → gateTss gate s = .error (.exc (selExc s 11#8 sel)) u) ∧
      (d.sysType ∈ [1, 9] → d.present = true → gateTss gate s = .ok (sel, la, d) u))) ∧
  (∀ (s u u1 t : State) (x : Nat) (la : Word) (d : Desc) (e : Exc), s.prefixOk false false → s.protMode = true →
    s.flags.NT = true → linRead s.tr.base 2 (released s.started) = .ok x u →
    let link : Half := BitVec.ofNat 16 x
    (link.toNat < 4 ∨ link.getLsbD 2 = true ∨ s.descAddr link = none →
      exec .iret s = takeException (selExc s 10#8 link) (rollback s u)) ∧
    (4 ≤ link.toNat → link.getLsbD 2 = false → s.descAddr link = some la → readDesc la u = .ok d u1 →
      (d.sysType ∉ [3, 11] → exec .iret s = takeException (selExc s 10#8 link) (rollback s u1)) ∧
      (d.sysType ∈ [3, 11] → d.present = false →
        exec .iret s = takeException (selExc s 11#8 link) (rollback s u1)) ∧
      (d.sysType ∈ [3, 11] → d.present = true →
        (taskSwitch .back link la d s.flags s.nextEip u1 = .ok () t → exec .iret s = .next (complete s t)) ∧
        (taskSwitch .back link la d s.flags s.nextEip u1 = .error (.exc e) t →
          exec .iret s = takeException e (rollback s t)) ∧
        (taskSwitch .back link la d s.flags s.nextEip u1 = .error (.excHere e) t →
          exec .iret s = takeException e (idled t)))))
end

