-- ==== Sys2Proof/Laws/Monad.lean ====
section
/-! SUPPORT. How the sequencing of `Machine/Monad.lean` computes: one equation per primitive, applied to a state. -/

namespace Sys2Proof.Machine

variable {α β : Type}

@[simp] theorem bind_apply (x : M α) (f : α → M β) (s : State) :
    (x >>= f) s = match x s with | .ok a t => f a t | .error e t => .error e t := by
  show EStateM.bind x f s = _
  unfold EStateM.bind
  cases x s <;> rfl

@[simp] theorem map_apply (f : α → β) (x : M α) (s : State) :
    (f <$> x) s = match x s with | .ok a t => .ok (f a) t | .error e t => .error e t := by
  show EStateM.map f x s = _
  unfold EStateM.map
  cases x s <;> rfl

@[simp] theorem pure_apply (a : α) (s : State) : (pure a : M α) s = .ok a s := rfl

@[simp] theorem get_apply (s : State) : (get : M State) s = .ok s s := rfl

@[simp] theorem set_apply (s t : State) : (set t : M PUnit) s = .ok ⟨⟩ t := rfl

@[simp] theorem modify_apply (f : State → State) (s : State) : (modify f : M PUnit) s = .ok ⟨⟩ (f s) := rfl

@[simp] theorem throw_apply (e : Stop) (s : State) : (throw e : M α) s = .error e s := rfl

@[simp] theorem ite_apply (c : Prop) [Decidable c] (x y : M α) (s : State) :
    (if c then x else y) s = if c then x s else y s := by split <;> rfl

@[simp] theorem refuse_apply (r : Refusal) (s : State) : (refuse r : M α) s = .error (.refuse r) s := rfl

@[simp] theorem raise_apply (v : Byte) (s : State) :
    (raise v : M α) s = .error (.exc { vector := v, code := .none, cr2 := none, dr6 := 0#32 }) s := rfl

@[simp] theorem raiseCode_apply (v : Byte) (c : Half) (s : State) :
    (raiseCode v c : M α) s =
      .error (.exc { vector := v, code := .sel (c ||| extBit s), cr2 := none, dr6 := 0#32 }) s := rfl

@[simp] theorem raiseSel_apply (v : Byte) (c : Half) (s : State) :
    (raiseSel v c : M α) s =
      .error (.exc { vector := v, code := .sel ((c &&& 0xFFFC#16) ||| extBit s), cr2 := none, dr6 := 0#32 }) s := rfl

@[simp] theorem draw_apply (w : Nat) (s : State) :
    draw w s = .ok (Config.free w s.draws) { s with draws := s.draws + 1 } := rfl

@[simp] theorem drawBool_apply (s : State) :
    drawBool s = .ok s.nextFree { s with draws := s.draws + 1 } := rfl

/-- What a sequence answers, from what its first part answers. -/
theorem bind_ok {x : M α} {f : α → M β} {s t : State} {a : α} (h : x s = .ok a t) : (x >>= f) s = f a t := by
  simp [h]

theorem bind_error {x : M α} {f : α → M β} {s t : State} {e : Stop} (h : x s = .error e t) :
    (x >>= f) s = .error e t := by
  simp [h]

/-- A sequence that completes did so through its first part. -/
theorem bind_eq_ok {x : M α} {f : α → M β} {s u : State} {b : β} (h : (x >>= f) s = .ok b u) :
    ∃ a t, x s = .ok a t ∧ f a t = .ok b u := by
  rw [bind_apply] at h
  split at h
  · exact ⟨_, _, ‹_›, h⟩
  · cases h

/-! ### What every outcome's state has in common with the state before -/

/-- Whatever `x` answers, the state it leaves is related by `R` to the one it starts in. -/
def Preserves (R : State → State → Prop) (x : M α) : Prop :=
  ∀ s, match x s with | .ok _ t => R s t | .error _ t => R s t

namespace Preserves

variable {R : State → State → Prop} {x : M α} {f : α → M β} {s t : State}

theorem ok (h : Preserves R x) {a : α} (e : x s = .ok a t) : R s t := by
  have := h s
  rwa [e] at this

theorem error (h : Preserves R x) {e : Stop} (he : x s = .error e t) : R s t := by
  have := h s
  rwa [he] at this

theorem pure (hr : ∀ s, R s s) (a : α) : Preserves R (pure a : M α) := fun s => hr s

theorem get (hr : ∀ s, R s s) : Preserves R (get : M State) := fun s => hr s

theorem throw (hr : ∀ s, R s s) (e : Stop) : Preserves R (throw e : M α) := fun s => hr s

theorem modify {g : State → State} (h : ∀ s, R s (g s)) : Preserves R (modify g : M PUnit) := fun s => h s

theorem bind (ht : ∀ {a b c}, R a b → R b c → R a c) (hx : Preserves R x) (hf : ∀ a, Preserves R (f a)) :
    Preserves R (x >>= f) := by
  intro s
  have h1 := hx s
  rw [bind_apply]
  cases h : x s with
  | ok a t =>
    rw [h] at h1
    have h2 := hf a t
    show match f a t with | .ok _ u => R s u | .error _ u => R s u
    cases h' : f a t <;> rw [h'] at h2 <;> exact ht h1 h2
  | error e t =>
    rw [h] at h1
    exact h1

theorem ite {c : Prop} [Decidable c] {y : M α} (hx : Preserves R x) (hy : Preserves R y) :
    Preserves R (if c then x else y) := by
  split
  · exact hx
  · exact hy

end Preserves

end Sys2Proof.Machine
end

