-- ==== Sys2Proof/Laws/State.lean ====
section
/-! SUPPORT. The fields of a state after each named update: one equation per field, so that no proof unfolds an update. -/

namespace Sys2Proof.Machine

@[simp] theorem State.setReg_regs (s : State) (w : Width) (n : RegNo) (v : Word) : (s.setReg w n v).regs = s.regs.write w n v := rfl
@[simp] theorem State.setReg_eip (s : State) (w : Width) (n : RegNo) (v : Word) : (s.setReg w n v).eip = s.eip := rfl
@[simp] theorem State.setReg_flags (s : State) (w : Width) (n : RegNo) (v : Word) : (s.setReg w n v).flags = s.flags := rfl
@[simp] theorem State.setReg_segs (s : State) (w : Width) (n : RegNo) (v : Word) : (s.setReg w n v).segs = s.segs := rfl
@[simp] theorem State.setReg_gdtr (s : State) (w : Width) (n : RegNo) (v : Word) : (s.setReg w n v).gdtr = s.gdtr := rfl
@[simp] theorem State.setReg_idtr (s : State) (w : Width) (n : RegNo) (v : Word) : (s.setReg w n v).idtr = s.idtr := rfl
@[simp] theorem State.setReg_ldtr (s : State) (w : Width) (n : RegNo) (v : Word) : (s.setReg w n v).ldtr = s.ldtr := rfl
@[simp] theorem State.setReg_tr (s : State) (w : Width) (n : RegNo) (v : Word) : (s.setReg w n v).tr = s.tr := rfl
@[simp] theorem State.setReg_cr0 (s : State) (w : Width) (n : RegNo) (v : Word) : (s.setReg w n v).cr0 = s.cr0 := rfl
@[simp] theorem State.setReg_cr2 (s : State) (w : Width) (n : RegNo) (v : Word) : (s.setReg w n v).cr2 = s.cr2 := rfl
@[simp] theorem State.setReg_cr3 (s : State) (w : Width) (n : RegNo) (v : Word) : (s.setReg w n v).cr3 = s.cr3 := rfl
@[simp] theorem State.setReg_dr (s : State) (w : Width) (n : RegNo) (v : Word) : (s.setReg w n v).dr = s.dr := rfl
@[simp] theorem State.setReg_tr6 (s : State) (w : Width) (n : RegNo) (v : Word) : (s.setReg w n v).tr6 = s.tr6 := rfl
@[simp] theorem State.setReg_tr7 (s : State) (w : Width) (n : RegNo) (v : Word) : (s.setReg w n v).tr7 = s.tr7 := rfl
@[simp] theorem State.setReg_npx (s : State) (w : Width) (n : RegNo) (v : Word) : (s.setReg w n v).npx = s.npx := rfl
@[simp] theorem State.setReg_nmiPending (s : State) (w : Width) (n : RegNo) (v : Word) : (s.setReg w n v).nmiPending = s.nmiPending := rfl
@[simp] theorem State.setReg_nmiBlocked (s : State) (w : Width) (n : RegNo) (v : Word) : (s.setReg w n v).nmiBlocked = s.nmiBlocked := rfl
@[simp] theorem State.setReg_intr (s : State) (w : Width) (n : RegNo) (v : Word) : (s.setReg w n v).intr = s.intr := rfl
@[simp] theorem State.setReg_inhibitInt (s : State) (w : Width) (n : RegNo) (v : Word) : (s.setReg w n v).inhibitInt = s.inhibitInt := rfl
@[simp] theorem State.setReg_inhibitAll (s : State) (w : Width) (n : RegNo) (v : Word) : (s.setReg w n v).inhibitAll = s.inhibitAll := rfl
@[simp] theorem State.setReg_pendingDb (s : State) (w : Width) (n : RegNo) (v : Word) : (s.setReg w n v).pendingDb = s.pendingDb := rfl
@[simp] theorem State.setReg_heldDb (s : State) (w : Width) (n : RegNo) (v : Word) : (s.setReg w n v).heldDb = s.heldDb := rfl
@[simp] theorem State.setReg_heldIntr (s : State) (w : Width) (n : RegNo) (v : Word) : (s.setReg w n v).heldIntr = s.heldIntr := rfl
@[simp] theorem State.setReg_resetPin (s : State) (w : Width) (n : RegNo) (v : Word) : (s.setReg w n v).resetPin = s.resetPin := rfl
@[simp] theorem State.setReg_run (s : State) (w : Width) (n : RegNo) (v : Word) : (s.setReg w n v).run = s.run := rfl
@[simp] theorem State.setReg_tlb (s : State) (w : Width) (n : RegNo) (v : Word) : (s.setReg w n v).tlb = s.tlb := rfl
@[simp] theorem State.setReg_staleBytes (s : State) (w : Width) (n : RegNo) (v : Word) : (s.setReg w n v).staleBytes = s.staleBytes := rfl
@[simp] theorem State.setReg_staleModes (s : State) (w : Width) (n : RegNo) (v : Word) : (s.setReg w n v).staleModes = s.staleModes := rfl
@[simp] theorem State.setReg_repeating (s : State) (w : Width) (n : RegNo) (v : Word) : (s.setReg w n v).repeating = s.repeating := rfl
@[simp] theorem State.setReg_lateBytes (s : State) (w : Width) (n : RegNo) (v : Word) : (s.setReg w n v).lateBytes = s.lateBytes := rfl
@[simp] theorem State.setReg_mem (s : State) (w : Width) (n : RegNo) (v : Word) : (s.setReg w n v).mem = s.mem := rfl
@[simp] theorem State.setReg_physMap (s : State) (w : Width) (n : RegNo) (v : Word) : (s.setReg w n v).physMap = s.physMap := rfl
@[simp] theorem State.setReg_trace (s : State) (w : Width) (n : RegNo) (v : Word) : (s.setReg w n v).trace = s.trace := rfl
@[simp] theorem State.setReg_draws (s : State) (w : Width) (n : RegNo) (v : Word) : (s.setReg w n v).draws = s.draws := rfl
@[simp] theorem State.setReg_insn (s : State) (w : Width) (n : RegNo) (v : Word) : (s.setReg w n v).insn = s.insn := rfl

@[simp] theorem State.flushed_regs (s : State) : s.flushed.regs = s.regs := rfl
@[simp] theorem State.flushed_eip (s : State) : s.flushed.eip = s.eip := rfl
@[simp] theorem State.flushed_flags (s : State) : s.flushed.flags = s.flags := rfl
@[simp] theorem State.flushed_segs (s : State) : s.flushed.segs = s.segs := rfl
@[simp] theorem State.flushed_gdtr (s : State) : s.flushed.gdtr = s.gdtr := rfl
@[simp] theorem State.flushed_idtr (s : State) : s.flushed.idtr = s.idtr := rfl
@[simp] theorem State.flushed_ldtr (s : State) : s.flushed.ldtr = s.ldtr := rfl
@[simp] theorem State.flushed_tr (s : State) : s.flushed.tr = s.tr := rfl
@[simp] theorem State.flushed_cr0 (s : State) : s.flushed.cr0 = s.cr0 := rfl
@[simp] theorem State.flushed_cr2 (s : State) : s.flushed.cr2 = s.cr2 := rfl
@[simp] theorem State.flushed_cr3 (s : State) : s.flushed.cr3 = s.cr3 := rfl
@[simp] theorem State.flushed_dr (s : State) : s.flushed.dr = s.dr := rfl
@[simp] theorem State.flushed_tr6 (s : State) : s.flushed.tr6 = s.tr6 := rfl
@[simp] theorem State.flushed_tr7 (s : State) : s.flushed.tr7 = s.tr7 := rfl
@[simp] theorem State.flushed_npx (s : State) : s.flushed.npx = s.npx := rfl
@[simp] theorem State.flushed_nmiPending (s : State) : s.flushed.nmiPending = s.nmiPending := rfl
@[simp] theorem State.flushed_nmiBlocked (s : State) : s.flushed.nmiBlocked = s.nmiBlocked := rfl
@[simp] theorem State.flushed_intr (s : State) : s.flushed.intr = s.intr := rfl
@[simp] theorem State.flushed_inhibitInt (s : State) : s.flushed.inhibitInt = s.inhibitInt := rfl
@[simp] theorem State.flushed_inhibitAll (s : State) : s.flushed.inhibitAll = s.inhibitAll := rfl
@[simp] theorem State.flushed_pendingDb (s : State) : s.flushed.pendingDb = s.pendingDb := rfl
@[simp] theorem State.flushed_heldDb (s : State) : s.flushed.heldDb = s.heldDb := rfl
@[simp] theorem State.flushed_heldIntr (s : State) : s.flushed.heldIntr = s.heldIntr := rfl
@[simp] theorem State.flushed_resetPin (s : State) : s.flushed.resetPin = s.resetPin := rfl
@[simp] theorem State.flushed_run (s : State) : s.flushed.run = s.run := rfl
@[simp] theorem State.flushed_tlb (s : State) : s.flushed.tlb = s.tlb := rfl
@[simp] theorem State.flushed_staleBytes (s : State) : s.flushed.staleBytes = [] := rfl
@[simp] theorem State.flushed_staleModes (s : State) : s.flushed.staleModes = [] := rfl
@[simp] theorem State.flushed_repeating (s : State) : s.flushed.repeating = none := rfl
@[simp] theorem State.flushed_lateBytes (s : State) : s.flushed.lateBytes = s.lateBytes := rfl
@[simp] theorem State.flushed_mem (s : State) : s.flushed.mem = s.mem := rfl
@[simp] theorem State.flushed_physMap (s : State) : s.flushed.physMap = s.physMap := rfl
@[simp] theorem State.flushed_trace (s : State) : s.flushed.trace = s.trace := rfl
@[simp] theorem State.flushed_draws (s : State) : s.flushed.draws = s.draws := rfl
@[simp] theorem State.flushed_insn (s : State) : s.flushed.insn = s.insn := rfl

@[simp] theorem State.jumped_regs (s : State) (t : Word) : (s.jumped t).regs = s.regs := rfl
@[simp] theorem State.jumped_eip (s : State) (t : Word) : (s.jumped t).eip = t := rfl
@[simp] theorem State.jumped_flags (s : State) (t : Word) : (s.jumped t).flags = s.flags := rfl
@[simp] theorem State.jumped_segs (s : State) (t : Word) : (s.jumped t).segs = s.segs := rfl
@[simp] theorem State.jumped_gdtr (s : State) (t : Word) : (s.jumped t).gdtr = s.gdtr := rfl
@[simp] theorem State.jumped_idtr (s : State) (t : Word) : (s.jumped t).idtr = s.idtr := rfl
@[simp] theorem State.jumped_ldtr (s : State) (t : Word) : (s.jumped t).ldtr = s.ldtr := rfl
@[simp] theorem State.jumped_tr (s : State) (t : Word) : (s.jumped t).tr = s.tr := rfl
@[simp] theorem State.jumped_cr0 (s : State) (t : Word) : (s.jumped t).cr0 = s.cr0 := rfl
@[simp] theorem State.jumped_cr2 (s : State) (t : Word) : (s.jumped t).cr2 = s.cr2 := rfl
@[simp] theorem State.jumped_cr3 (s : State) (t : Word) : (s.jumped t).cr3 = s.cr3 := rfl
@[simp] theorem State.jumped_dr (s : State) (t : Word) : (s.jumped t).dr = s.dr := rfl
@[simp] theorem State.jumped_tr6 (s : State) (t : Word) : (s.jumped t).tr6 = s.tr6 := rfl
@[simp] theorem State.jumped_tr7 (s : State) (t : Word) : (s.jumped t).tr7 = s.tr7 := rfl
@[simp] theorem State.jumped_npx (s : State) (t : Word) : (s.jumped t).npx = s.npx := rfl
@[simp] theorem State.jumped_nmiPending (s : State) (t : Word) : (s.jumped t).nmiPending = s.nmiPending := rfl
@[simp] theorem State.jumped_nmiBlocked (s : State) (t : Word) : (s.jumped t).nmiBlocked = s.nmiBlocked := rfl
@[simp] theorem State.jumped_intr (s : State) (t : Word) : (s.jumped t).intr = s.intr := rfl
@[simp] theorem State.jumped_inhibitInt (s : State) (t : Word) : (s.jumped t).inhibitInt = s.inhibitInt := rfl
@[simp] theorem State.jumped_inhibitAll (s : State) (t : Word) : (s.jumped t).inhibitAll = s.inhibitAll := rfl
@[simp] theorem State.jumped_pendingDb (s : State) (t : Word) : (s.jumped t).pendingDb = s.pendingDb := rfl
@[simp] theorem State.jumped_heldDb (s : State) (t : Word) : (s.jumped t).heldDb = s.heldDb := rfl
@[simp] theorem State.jumped_heldIntr (s : State) (t : Word) : (s.jumped t).heldIntr = s.heldIntr := rfl
@[simp] theorem State.jumped_resetPin (s : State) (t : Word) : (s.jumped t).resetPin = s.resetPin := rfl
@[simp] theorem State.jumped_run (s : State) (t : Word) : (s.jumped t).run = s.run := rfl
@[simp] theorem State.jumped_tlb (s : State) (t : Word) : (s.jumped t).tlb = s.tlb := rfl
@[simp] theorem State.jumped_staleBytes (s : State) (t : Word) : (s.jumped t).staleBytes = [] := rfl
@[simp] theorem State.jumped_staleModes (s : State) (t : Word) : (s.jumped t).staleModes = [] := rfl
@[simp] theorem State.jumped_repeating (s : State) (t : Word) : (s.jumped t).repeating = none := rfl
@[simp] theorem State.jumped_lateBytes (s : State) (t : Word) : (s.jumped t).lateBytes = s.lateBytes := rfl
@[simp] theorem State.jumped_mem (s : State) (t : Word) : (s.jumped t).mem = s.mem := rfl
@[simp] theorem State.jumped_physMap (s : State) (t : Word) : (s.jumped t).physMap = s.physMap := rfl
@[simp] theorem State.jumped_trace (s : State) (t : Word) : (s.jumped t).trace = s.trace := rfl
@[simp] theorem State.jumped_draws (s : State) (t : Word) : (s.jumped t).draws = s.draws := rfl
@[simp] theorem State.jumped_insn (s : State) (t : Word) : (s.jumped t).insn = s.insn := rfl

@[simp] theorem State.advanced_regs (s : State) : s.advanced.regs = s.regs := rfl
@[simp] theorem State.advanced_eip (s : State) : s.advanced.eip = s.nextEip := rfl
@[simp] theorem State.advanced_flags (s : State) : s.advanced.flags = s.flags := rfl
@[simp] theorem State.advanced_segs (s : State) : s.advanced.segs = s.segs := rfl
@[simp] theorem State.advanced_gdtr (s : State) : s.advanced.gdtr = s.gdtr := rfl
@[simp] theorem State.advanced_idtr (s : State) : s.advanced.idtr = s.idtr := rfl
@[simp] theorem State.advanced_ldtr (s : State) : s.advanced.ldtr = s.ldtr := rfl
@[simp] theorem State.advanced_tr (s : State) : s.advanced.tr = s.tr := rfl
@[simp] theorem State.advanced_cr0 (s : State) : s.advanced.cr0 = s.cr0 := rfl
@[simp] theorem State.advanced_cr2 (s : State) : s.advanced.cr2 = s.cr2 := rfl
@[simp] theorem State.advanced_cr3 (s : State) : s.advanced.cr3 = s.cr3 := rfl
@[simp] theorem State.advanced_dr (s : State) : s.advanced.dr = s.dr := rfl
@[simp] theorem State.advanced_tr6 (s : State) : s.advanced.tr6 = s.tr6 := rfl
@[simp] theorem State.advanced_tr7 (s : State) : s.advanced.tr7 = s.tr7 := rfl
@[simp] theorem State.advanced_npx (s : State) : s.advanced.npx = s.npx := rfl
@[simp] theorem State.advanced_nmiPending (s : State) : s.advanced.nmiPending = s.nmiPending := rfl
@[simp] theorem State.advanced_nmiBlocked (s : State) : s.advanced.nmiBlocked = s.nmiBlocked := rfl
@[simp] theorem State.advanced_intr (s : State) : s.advanced.intr = s.intr := rfl
@[simp] theorem State.advanced_inhibitInt (s : State) : s.advanced.inhibitInt = s.inhibitInt := rfl
@[simp] theorem State.advanced_inhibitAll (s : State) : s.advanced.inhibitAll = s.inhibitAll := rfl
@[simp] theorem State.advanced_pendingDb (s : State) : s.advanced.pendingDb = s.pendingDb := rfl
@[simp] theorem State.advanced_heldDb (s : State) : s.advanced.heldDb = s.heldDb := rfl
@[simp] theorem State.advanced_heldIntr (s : State) : s.advanced.heldIntr = s.heldIntr := rfl
@[simp] theorem State.advanced_resetPin (s : State) : s.advanced.resetPin = s.resetPin := rfl
@[simp] theorem State.advanced_run (s : State) : s.advanced.run = s.run := rfl
@[simp] theorem State.advanced_tlb (s : State) : s.advanced.tlb = s.tlb := rfl
@[simp] theorem State.advanced_staleBytes (s : State) : s.advanced.staleBytes = s.staleBytes := rfl
@[simp] theorem State.advanced_staleModes (s : State) : s.advanced.staleModes = s.staleModes := rfl
@[simp] theorem State.advanced_repeating (s : State) : s.advanced.repeating = s.repeating := rfl
@[simp] theorem State.advanced_lateBytes (s : State) : s.advanced.lateBytes = s.lateBytes := rfl
@[simp] theorem State.advanced_mem (s : State) : s.advanced.mem = s.mem := rfl
@[simp] theorem State.advanced_physMap (s : State) : s.advanced.physMap = s.physMap := rfl
@[simp] theorem State.advanced_trace (s : State) : s.advanced.trace = s.trace := rfl
@[simp] theorem State.advanced_draws (s : State) : s.advanced.draws = s.draws := rfl
@[simp] theorem State.advanced_insn (s : State) : s.advanced.insn = s.insn := rfl

@[simp] theorem State.started_regs (s : State) : s.started.regs = s.regs := rfl
@[simp] theorem State.started_eip (s : State) : s.started.eip = s.eip := rfl
@[simp] theorem State.started_flags (s : State) : s.started.flags = s.flags := rfl
@[simp] theorem State.started_segs (s : State) : s.started.segs = s.segs := rfl
@[simp] theorem State.started_gdtr (s : State) : s.started.gdtr = s.gdtr := rfl
@[simp] theorem State.started_idtr (s : State) : s.started.idtr = s.idtr := rfl
@[simp] theorem State.started_ldtr (s : State) : s.started.ldtr = s.ldtr := rfl
@[simp] theorem State.started_tr (s : State) : s.started.tr = s.tr := rfl
@[simp] theorem State.started_cr0 (s : State) : s.started.cr0 = s.cr0 := rfl
@[simp] theorem State.started_cr2 (s : State) : s.started.cr2 = s.cr2 := rfl
@[simp] theorem State.started_cr3 (s : State) : s.started.cr3 = s.cr3 := rfl
@[simp] theorem State.started_dr (s : State) : s.started.dr = s.dr := rfl
@[simp] theorem State.started_tr6 (s : State) : s.started.tr6 = s.tr6 := rfl
@[simp] theorem State.started_tr7 (s : State) : s.started.tr7 = s.tr7 := rfl
@[simp] theorem State.started_npx (s : State) : s.started.npx = s.npx := rfl
@[simp] theorem State.started_nmiPending (s : State) : s.started.nmiPending = s.nmiPending := rfl
@[simp] theorem State.started_nmiBlocked (s : State) : s.started.nmiBlocked = s.nmiBlocked := rfl
@[simp] theorem State.started_intr (s : State) : s.started.intr = s.intr := rfl
@[simp] theorem State.started_inhibitInt (s : State) : s.started.inhibitInt = false := rfl
@[simp] theorem State.started_inhibitAll (s : State) : s.started.inhibitAll = false := rfl
@[simp] theorem State.started_pendingDb (s : State) : s.started.pendingDb = s.pendingDb := rfl
@[simp] theorem State.started_heldDb (s : State) : s.started.heldDb = s.heldDb := rfl
@[simp] theorem State.started_heldIntr (s : State) : s.started.heldIntr = s.heldIntr := rfl
@[simp] theorem State.started_resetPin (s : State) : s.started.resetPin = s.resetPin := rfl
@[simp] theorem State.started_run (s : State) : s.started.run = s.run := rfl
@[simp] theorem State.started_tlb (s : State) : s.started.tlb = s.tlb := rfl
@[simp] theorem State.started_staleBytes (s : State) : s.started.staleBytes = s.staleBytes := rfl
@[simp] theorem State.started_staleModes (s : State) : s.started.staleModes = s.staleModes := rfl
@[simp] theorem State.started_repeating (s : State) : s.started.repeating = none := rfl
@[simp] theorem State.started_lateBytes (s : State) : s.started.lateBytes = s.lateBytes := rfl
@[simp] theorem State.started_mem (s : State) : s.started.mem = s.mem := rfl
@[simp] theorem State.started_physMap (s : State) : s.started.physMap = s.physMap := rfl
@[simp] theorem State.started_trace (s : State) : s.started.trace = s.trace := rfl
@[simp] theorem State.started_draws (s : State) : s.started.draws = s.draws := rfl
@[simp] theorem State.started_insn (s : State) : s.started.insn = s.insn := rfl

@[simp] theorem State.between_regs (s : State) : s.between.regs = s.regs := rfl
@[simp] theorem State.between_eip (s : State) : s.between.eip = s.eip := rfl
@[simp] theorem State.between_flags (s : State) : s.between.flags = s.flags := rfl
@[simp] theorem State.between_segs (s : State) : s.between.segs = s.segs := rfl
@[simp] theorem State.between_gdtr (s : State) : s.between.gdtr = s.gdtr := rfl
@[simp] theorem State.between_idtr (s : State) : s.between.idtr = s.idtr := rfl
@[simp] theorem State.between_ldtr (s : State) : s.between.ldtr = s.ldtr := rfl
@[simp] theorem State.between_tr (s : State) : s.between.tr = s.tr := rfl
@[simp] theorem State.between_cr0 (s : State) : s.between.cr0 = s.cr0 := rfl
@[simp] theorem State.between_cr2 (s : State) : s.between.cr2 = s.cr2 := rfl
@[simp] theorem State.between_cr3 (s : State) : s.between.cr3 = s.cr3 := rfl
@[simp] theorem State.between_dr (s : State) : s.between.dr = s.dr := rfl
@[simp] theorem State.between_tr6 (s : State) : s.between.tr6 = s.tr6 := rfl
@[simp] theorem State.between_tr7 (s : State) : s.between.tr7 = s.tr7 := rfl
@[simp] theorem State.between_npx (s : State) : s.between.npx = s.npx := rfl
@[simp] theorem State.between_nmiPending (s : State) : s.between.nmiPending = s.nmiPending := rfl
@[simp] theorem State.between_nmiBlocked (s : State) : s.between.nmiBlocked = s.nmiBlocked := rfl
@[simp] theorem State.between_intr (s : State) : s.between.intr = s.intr := rfl
@[simp] theorem State.between_inhibitInt (s : State) : s.between.inhibitInt = false := rfl
@[simp] theorem State.between_inhibitAll (s : State) : s.between.inhibitAll = false := rfl
@[simp] theorem State.between_pendingDb (s : State) : s.between.pendingDb = s.pendingDb := rfl
@[simp] theorem State.between_heldDb (s : State) : s.between.heldDb = s.heldDb := rfl
@[simp] theorem State.between_heldIntr (s : State) : s.between.heldIntr = s.heldIntr := rfl
@[simp] theorem State.between_resetPin (s : State) : s.between.resetPin = s.resetPin := rfl
@[simp] theorem State.between_run (s : State) : s.between.run = s.run := rfl
@[simp] theorem State.between_tlb (s : State) : s.between.tlb = s.tlb := rfl
@[simp] theorem State.between_staleBytes (s : State) : s.between.staleBytes = s.staleBytes := rfl
@[simp] theorem State.between_staleModes (s : State) : s.between.staleModes = s.staleModes := rfl
@[simp] theorem State.between_repeating (s : State) : s.between.repeating = none := rfl
@[simp] theorem State.between_lateBytes (s : State) : s.between.lateBytes = s.lateBytes := rfl
@[simp] theorem State.between_mem (s : State) : s.between.mem = s.mem := rfl
@[simp] theorem State.between_physMap (s : State) : s.between.physMap = s.physMap := rfl
@[simp] theorem State.between_trace (s : State) : s.between.trace = s.trace := rfl
@[simp] theorem State.between_draws (s : State) : s.between.draws = s.draws := rfl
@[simp] theorem State.between_insn (s : State) : s.between.insn = Insn.start := rfl

@[simp] theorem State.waited_regs (s : State) (t : State) : (s.waited t).regs = t.regs := rfl
@[simp] theorem State.waited_eip (s : State) (t : State) : (s.waited t).eip = t.eip := rfl
@[simp] theorem State.waited_flags (s : State) (t : State) : (s.waited t).flags = t.flags := rfl
@[simp] theorem State.waited_segs (s : State) (t : State) : (s.waited t).segs = t.segs := rfl
@[simp] theorem State.waited_gdtr (s : State) (t : State) : (s.waited t).gdtr = t.gdtr := rfl
@[simp] theorem State.waited_idtr (s : State) (t : State) : (s.waited t).idtr = t.idtr := rfl
@[simp] theorem State.waited_ldtr (s : State) (t : State) : (s.waited t).ldtr = t.ldtr := rfl
@[simp] theorem State.waited_tr (s : State) (t : State) : (s.waited t).tr = t.tr := rfl
@[simp] theorem State.waited_cr0 (s : State) (t : State) : (s.waited t).cr0 = t.cr0 := rfl
@[simp] theorem State.waited_cr2 (s : State) (t : State) : (s.waited t).cr2 = t.cr2 := rfl
@[simp] theorem State.waited_cr3 (s : State) (t : State) : (s.waited t).cr3 = t.cr3 := rfl
@[simp] theorem State.waited_dr (s : State) (t : State) : (s.waited t).dr = t.dr := rfl
@[simp] theorem State.waited_tr6 (s : State) (t : State) : (s.waited t).tr6 = t.tr6 := rfl
@[simp] theorem State.waited_tr7 (s : State) (t : State) : (s.waited t).tr7 = t.tr7 := rfl
@[simp] theorem State.waited_npx (s : State) (t : State) : (s.waited t).npx = t.npx := rfl
@[simp] theorem State.waited_nmiPending (s : State) (t : State) : (s.waited t).nmiPending = t.nmiPending := rfl
@[simp] theorem State.waited_nmiBlocked (s : State) (t : State) : (s.waited t).nmiBlocked = t.nmiBlocked := rfl
@[simp] theorem State.waited_intr (s : State) (t : State) : (s.waited t).intr = t.intr := rfl
@[simp] theorem State.waited_inhibitInt (s : State) (t : State) : (s.waited t).inhibitInt = s.inhibitInt := rfl
@[simp] theorem State.waited_inhibitAll (s : State) (t : State) : (s.waited t).inhibitAll = s.inhibitAll := rfl
@[simp] theorem State.waited_pendingDb (s : State) (t : State) : (s.waited t).pendingDb = t.pendingDb := rfl
@[simp] theorem State.waited_heldDb (s : State) (t : State) : (s.waited t).heldDb = t.heldDb := rfl
@[simp] theorem State.waited_heldIntr (s : State) (t : State) : (s.waited t).heldIntr = t.heldIntr := rfl
@[simp] theorem State.waited_resetPin (s : State) (t : State) : (s.waited t).resetPin = t.resetPin := rfl
@[simp] theorem State.waited_run (s : State) (t : State) : (s.waited t).run = t.run := rfl
@[simp] theorem State.waited_tlb (s : State) (t : State) : (s.waited t).tlb = t.tlb := rfl
@[simp] theorem State.waited_staleBytes (s : State) (t : State) : (s.waited t).staleBytes = t.staleBytes := rfl
@[simp] theorem State.waited_staleModes (s : State) (t : State) : (s.waited t).staleModes = t.staleModes := rfl
@[simp] theorem State.waited_repeating (s : State) (t : State) : (s.waited t).repeating = none := rfl
@[simp] theorem State.waited_lateBytes (s : State) (t : State) : (s.waited t).lateBytes = t.lateBytes := rfl
@[simp] theorem State.waited_mem (s : State) (t : State) : (s.waited t).mem = t.mem := rfl
@[simp] theorem State.waited_physMap (s : State) (t : State) : (s.waited t).physMap = t.physMap := rfl
@[simp] theorem State.waited_trace (s : State) (t : State) : (s.waited t).trace = t.trace := rfl
@[simp] theorem State.waited_draws (s : State) (t : State) : (s.waited t).draws = t.draws := rfl
@[simp] theorem State.waited_insn (s : State) (t : State) : (s.waited t).insn = Insn.start := rfl

@[simp] theorem State.shutDown_regs (s : State) : s.shutDown.regs = s.regs := rfl
@[simp] theorem State.shutDown_eip (s : State) : s.shutDown.eip = s.eip := rfl
@[simp] theorem State.shutDown_flags (s : State) : s.shutDown.flags = s.flags := rfl
@[simp] theorem State.shutDown_segs (s : State) : s.shutDown.segs = s.segs := rfl
@[simp] theorem State.shutDown_gdtr (s : State) : s.shutDown.gdtr = s.gdtr := rfl
@[simp] theorem State.shutDown_idtr (s : State) : s.shutDown.idtr = s.idtr := rfl
@[simp] theorem State.shutDown_ldtr (s : State) : s.shutDown.ldtr = s.ldtr := rfl
@[simp] theorem State.shutDown_tr (s : State) : s.shutDown.tr = s.tr := rfl
@[simp] theorem State.shutDown_cr0 (s : State) : s.shutDown.cr0 = s.cr0 := rfl
@[simp] theorem State.shutDown_cr2 (s : State) : s.shutDown.cr2 = s.cr2 := rfl
@[simp] theorem State.shutDown_cr3 (s : State) : s.shutDown.cr3 = s.cr3 := rfl
@[simp] theorem State.shutDown_dr (s : State) : s.shutDown.dr = s.dr := rfl
@[simp] theorem State.shutDown_tr6 (s : State) : s.shutDown.tr6 = s.tr6 := rfl
@[simp] theorem State.shutDown_tr7 (s : State) : s.shutDown.tr7 = s.tr7 := rfl
@[simp] theorem State.shutDown_npx (s : State) : s.shutDown.npx = s.npx := rfl
@[simp] theorem State.shutDown_nmiPending (s : State) : s.shutDown.nmiPending = s.nmiPending := rfl
@[simp] theorem State.shutDown_nmiBlocked (s : State) : s.shutDown.nmiBlocked = s.nmiBlocked := rfl
@[simp] theorem State.shutDown_intr (s : State) : s.shutDown.intr = s.intr := rfl
@[simp] theorem State.shutDown_inhibitInt (s : State) : s.shutDown.inhibitInt = s.inhibitInt := rfl
@[simp] theorem State.shutDown_inhibitAll (s : State) : s.shutDown.inhibitAll = s.inhibitAll := rfl
@[simp] theorem State.shutDown_pendingDb (s : State) : s.shutDown.pendingDb = s.pendingDb := rfl
@[simp] theorem State.shutDown_heldDb (s : State) : s.shutDown.heldDb = s.heldDb := rfl
@[simp] theorem State.shutDown_heldIntr (s : State) : s.shutDown.heldIntr = s.heldIntr := rfl
@[simp] theorem State.shutDown_resetPin (s : State) : s.shutDown.resetPin = s.resetPin := rfl
@[simp] theorem State.shutDown_run (s : State) : s.shutDown.run = .shutdown := rfl
@[simp] theorem State.shutDown_tlb (s : State) : s.shutDown.tlb = s.tlb := rfl
@[simp] theorem State.shutDown_staleBytes (s : State) : s.shutDown.staleBytes = s.staleBytes := rfl
@[simp] theorem State.shutDown_staleModes (s : State) : s.shutDown.staleModes = s.staleModes := rfl
@[simp] theorem State.shutDown_repeating (s : State) : s.shutDown.repeating = s.repeating := rfl
@[simp] theorem State.shutDown_lateBytes (s : State) : s.shutDown.lateBytes = s.lateBytes := rfl
@[simp] theorem State.shutDown_mem (s : State) : s.shutDown.mem = s.mem := rfl
@[simp] theorem State.shutDown_physMap (s : State) : s.shutDown.physMap = s.physMap := rfl
@[simp] theorem State.shutDown_trace (s : State) : s.shutDown.trace = s.trace := rfl
@[simp] theorem State.shutDown_draws (s : State) : s.shutDown.draws = s.draws := rfl
@[simp] theorem State.shutDown_insn (s : State) : s.shutDown.insn = s.insn := rfl

@[simp] theorem State.withCr0_regs (s : State) (c : Cr0) : (s.withCr0 c).regs = s.regs := rfl
@[simp] theorem State.withCr0_eip (s : State) (c : Cr0) : (s.withCr0 c).eip = s.eip := rfl
@[simp] theorem State.withCr0_flags (s : State) (c : Cr0) : (s.withCr0 c).flags = s.flags := rfl
@[simp] theorem State.withCr0_segs (s : State) (c : Cr0) : (s.withCr0 c).segs = s.segs := rfl
@[simp] theorem State.withCr0_gdtr (s : State) (c : Cr0) : (s.withCr0 c).gdtr = s.gdtr := rfl
@[simp] theorem State.withCr0_idtr (s : State) (c : Cr0) : (s.withCr0 c).idtr = s.idtr := rfl
@[simp] theorem State.withCr0_ldtr (s : State) (c : Cr0) : (s.withCr0 c).ldtr = s.ldtr := rfl
@[simp] theorem State.withCr0_tr (s : State) (c : Cr0) : (s.withCr0 c).tr = s.tr := rfl
@[simp] theorem State.withCr0_cr0 (s : State) (c : Cr0) : (s.withCr0 c).cr0 = c := rfl
@[simp] theorem State.withCr0_cr2 (s : State) (c : Cr0) : (s.withCr0 c).cr2 = s.cr2 := rfl
@[simp] theorem State.withCr0_cr3 (s : State) (c : Cr0) : (s.withCr0 c).cr3 = s.cr3 := rfl
@[simp] theorem State.withCr0_dr (s : State) (c : Cr0) : (s.withCr0 c).dr = s.dr := rfl
@[simp] theorem State.withCr0_tr6 (s : State) (c : Cr0) : (s.withCr0 c).tr6 = s.tr6 := rfl
@[simp] theorem State.withCr0_tr7 (s : State) (c : Cr0) : (s.withCr0 c).tr7 = s.tr7 := rfl
@[simp] theorem State.withCr0_npx (s : State) (c : Cr0) : (s.withCr0 c).npx = s.npx := rfl
@[simp] theorem State.withCr0_nmiPending (s : State) (c : Cr0) : (s.withCr0 c).nmiPending = s.nmiPending := rfl
@[simp] theorem State.withCr0_nmiBlocked (s : State) (c : Cr0) : (s.withCr0 c).nmiBlocked = s.nmiBlocked := rfl
@[simp] theorem State.withCr0_intr (s : State) (c : Cr0) : (s.withCr0 c).intr = s.intr := rfl
@[simp] theorem State.withCr0_inhibitInt (s : State) (c : Cr0) : (s.withCr0 c).inhibitInt = s.inhibitInt := rfl
@[simp] theorem State.withCr0_inhibitAll (s : State) (c : Cr0) : (s.withCr0 c).inhibitAll = s.inhibitAll := rfl
@[simp] theorem State.withCr0_pendingDb (s : State) (c : Cr0) : (s.withCr0 c).pendingDb = s.pendingDb := rfl
@[simp] theorem State.withCr0_heldDb (s : State) (c : Cr0) : (s.withCr0 c).heldDb = s.heldDb := rfl
@[simp] theorem State.withCr0_heldIntr (s : State) (c : Cr0) : (s.withCr0 c).heldIntr = s.heldIntr := rfl
@[simp] theorem State.withCr0_resetPin (s : State) (c : Cr0) : (s.withCr0 c).resetPin = s.resetPin := rfl
@[simp] theorem State.withCr0_run (s : State) (c : Cr0) : (s.withCr0 c).run = s.run := rfl
@[simp] theorem State.withCr0_tlb (s : State) (c : Cr0) : (s.withCr0 c).tlb = s.tlb := rfl
@[simp] theorem State.withCr0_staleBytes (s : State) (c : Cr0) : (s.withCr0 c).staleBytes = s.staleBytes := rfl
@[simp] theorem State.withCr0_staleModes (s : State) (c : Cr0) : (s.withCr0 c).staleModes =
    if c.PE != s.cr0.PE || c.PG != s.cr0.PG then
      s.staleModes ++ [{ PE := s.cr0.PE, PG := s.cr0.PG, next := s.segs.cs.base + s.nextEip, clean := true,
                         paging := if s.cr0.PG then none else some { cr3 := s.cr3, tlb := s.tlb } }]
    else s.staleModes := rfl
@[simp] theorem State.withCr0_repeating (s : State) (c : Cr0) : (s.withCr0 c).repeating = s.repeating := rfl
@[simp] theorem State.withCr0_lateBytes (s : State) (c : Cr0) : (s.withCr0 c).lateBytes = s.lateBytes := rfl
@[simp] theorem State.withCr0_mem (s : State) (c : Cr0) : (s.withCr0 c).mem = s.mem := rfl
@[simp] theorem State.withCr0_physMap (s : State) (c : Cr0) : (s.withCr0 c).physMap = s.physMap := rfl
@[simp] theorem State.withCr0_trace (s : State) (c : Cr0) : (s.withCr0 c).trace = s.trace := rfl
@[simp] theorem State.withCr0_draws (s : State) (c : Cr0) : (s.withCr0 c).draws = s.draws := rfl
@[simp] theorem State.withCr0_insn (s : State) (c : Cr0) : (s.withCr0 c).insn = s.insn := rfl

@[simp] theorem State.withCr3_regs (s : State) (v : Word) : (s.withCr3 v).regs = s.regs := rfl
@[simp] theorem State.withCr3_eip (s : State) (v : Word) : (s.withCr3 v).eip = s.eip := rfl
@[simp] theorem State.withCr3_flags (s : State) (v : Word) : (s.withCr3 v).flags = s.flags := rfl
@[simp] theorem State.withCr3_segs (s : State) (v : Word) : (s.withCr3 v).segs = s.segs := rfl
@[simp] theorem State.withCr3_gdtr (s : State) (v : Word) : (s.withCr3 v).gdtr = s.gdtr := rfl
@[simp] theorem State.withCr3_idtr (s : State) (v : Word) : (s.withCr3 v).idtr = s.idtr := rfl
@[simp] theorem State.withCr3_ldtr (s : State) (v : Word) : (s.withCr3 v).ldtr = s.ldtr := rfl
@[simp] theorem State.withCr3_tr (s : State) (v : Word) : (s.withCr3 v).tr = s.tr := rfl
@[simp] theorem State.withCr3_cr0 (s : State) (v : Word) : (s.withCr3 v).cr0 = s.cr0 := rfl
@[simp] theorem State.withCr3_cr2 (s : State) (v : Word) : (s.withCr3 v).cr2 = s.cr2 := rfl
@[simp] theorem State.withCr3_cr3 (s : State) (v : Word) : (s.withCr3 v).cr3 = v := rfl
@[simp] theorem State.withCr3_dr (s : State) (v : Word) : (s.withCr3 v).dr = s.dr := rfl
@[simp] theorem State.withCr3_tr6 (s : State) (v : Word) : (s.withCr3 v).tr6 = s.tr6 := rfl
@[simp] theorem State.withCr3_tr7 (s : State) (v : Word) : (s.withCr3 v).tr7 = s.tr7 := rfl
@[simp] theorem State.withCr3_npx (s : State) (v : Word) : (s.withCr3 v).npx = s.npx := rfl
@[simp] theorem State.withCr3_nmiPending (s : State) (v : Word) : (s.withCr3 v).nmiPending = s.nmiPending := rfl
@[simp] theorem State.withCr3_nmiBlocked (s : State) (v : Word) : (s.withCr3 v).nmiBlocked = s.nmiBlocked := rfl
@[simp] theorem State.withCr3_intr (s : State) (v : Word) : (s.withCr3 v).intr = s.intr := rfl
@[simp] theorem State.withCr3_inhibitInt (s : State) (v : Word) : (s.withCr3 v).inhibitInt = s.inhibitInt := rfl
@[simp] theorem State.withCr3_inhibitAll (s : State) (v : Word) : (s.withCr3 v).inhibitAll = s.inhibitAll := rfl
@[simp] theorem State.withCr3_pendingDb (s : State) (v : Word) : (s.withCr3 v).pendingDb = s.pendingDb := rfl
@[simp] theorem State.withCr3_heldDb (s : State) (v : Word) : (s.withCr3 v).heldDb = s.heldDb := rfl
@[simp] theorem State.withCr3_heldIntr (s : State) (v : Word) : (s.withCr3 v).heldIntr = s.heldIntr := rfl
@[simp] theorem State.withCr3_resetPin (s : State) (v : Word) : (s.withCr3 v).resetPin = s.resetPin := rfl
@[simp] theorem State.withCr3_run (s : State) (v : Word) : (s.withCr3 v).run = s.run := rfl
@[simp] theorem State.withCr3_tlb (s : State) (v : Word) : (s.withCr3 v).tlb = [] := rfl
@[simp] theorem State.withCr3_staleBytes (s : State) (v : Word) : (s.withCr3 v).staleBytes = s.staleBytes := rfl
@[simp] theorem State.withCr3_staleModes (s : State) (v : Word) : (s.withCr3 v).staleModes = s.staleModes.map fun e => { e with paging := e.paging.or (some { cr3 := s.cr3, tlb := s.tlb }) } := rfl
@[simp] theorem State.withCr3_repeating (s : State) (v : Word) : (s.withCr3 v).repeating = s.repeating := rfl
@[simp] theorem State.withCr3_lateBytes (s : State) (v : Word) : (s.withCr3 v).lateBytes = s.lateBytes := rfl
@[simp] theorem State.withCr3_mem (s : State) (v : Word) : (s.withCr3 v).mem = s.mem := rfl
@[simp] theorem State.withCr3_physMap (s : State) (v : Word) : (s.withCr3 v).physMap = s.physMap := rfl
@[simp] theorem State.withCr3_trace (s : State) (v : Word) : (s.withCr3 v).trace = s.trace := rfl
@[simp] theorem State.withCr3_draws (s : State) (v : Word) : (s.withCr3 v).draws = s.draws := rfl
@[simp] theorem State.withCr3_insn (s : State) (v : Word) : (s.withCr3 v).insn = { s.insn with oldMode := s.insn.oldMode.map fun e => { e with paging := none } } := rfl

@[simp] theorem State.repaged_regs (s : State) (v : Option Word) : (s.repaged v).regs = s.regs := by cases v <;> rfl
@[simp] theorem State.repaged_eip (s : State) (v : Option Word) : (s.repaged v).eip = s.eip := by cases v <;> rfl
@[simp] theorem State.repaged_flags (s : State) (v : Option Word) : (s.repaged v).flags = s.flags := by cases v <;> rfl
@[simp] theorem State.repaged_segs (s : State) (v : Option Word) : (s.repaged v).segs = s.segs := by cases v <;> rfl
@[simp] theorem State.repaged_gdtr (s : State) (v : Option Word) : (s.repaged v).gdtr = s.gdtr := by cases v <;> rfl
@[simp] theorem State.repaged_idtr (s : State) (v : Option Word) : (s.repaged v).idtr = s.idtr := by cases v <;> rfl
@[simp] theorem State.repaged_ldtr (s : State) (v : Option Word) : (s.repaged v).ldtr = s.ldtr := by cases v <;> rfl
@[simp] theorem State.repaged_tr (s : State) (v : Option Word) : (s.repaged v).tr = s.tr := by cases v <;> rfl
@[simp] theorem State.repaged_cr0 (s : State) (v : Option Word) : (s.repaged v).cr0 = s.cr0 := by cases v <;> rfl
@[simp] theorem State.repaged_cr2 (s : State) (v : Option Word) : (s.repaged v).cr2 = s.cr2 := by cases v <;> rfl
@[simp] theorem State.repaged_cr3 (s : State) (v : Option Word) : (s.repaged v).cr3 = v.getD s.cr3 := by cases v <;> rfl
@[simp] theorem State.repaged_dr (s : State) (v : Option Word) : (s.repaged v).dr = s.dr := by cases v <;> rfl
@[simp] theorem State.repaged_tr6 (s : State) (v : Option Word) : (s.repaged v).tr6 = s.tr6 := by cases v <;> rfl
@[simp] theorem State.repaged_tr7 (s : State) (v : Option Word) : (s.repaged v).tr7 = s.tr7 := by cases v <;> rfl
@[simp] theorem State.repaged_npx (s : State) (v : Option Word) : (s.repaged v).npx = s.npx := by cases v <;> rfl
@[simp] theorem State.repaged_nmiPending (s : State) (v : Option Word) : (s.repaged v).nmiPending = s.nmiPending := by cases v <;> rfl
@[simp] theorem State.repaged_nmiBlocked (s : State) (v : Option Word) : (s.repaged v).nmiBlocked = s.nmiBlocked := by cases v <;> rfl
@[simp] theorem State.repaged_intr (s : State) (v : Option Word) : (s.repaged v).intr = s.intr := by cases v <;> rfl
@[simp] theorem State.repaged_inhibitInt (s : State) (v : Option Word) : (s.repaged v).inhibitInt = s.inhibitInt := by cases v <;> rfl
@[simp] theorem State.repaged_inhibitAll (s : State) (v : Option Word) : (s.repaged v).inhibitAll = s.inhibitAll := by cases v <;> rfl
@[simp] theorem State.repaged_pendingDb (s : State) (v : Option Word) : (s.repaged v).pendingDb = s.pendingDb := by cases v <;> rfl
@[simp] theorem State.repaged_heldDb (s : State) (v : Option Word) : (s.repaged v).heldDb = s.heldDb := by cases v <;> rfl
@[simp] theorem State.repaged_heldIntr (s : State) (v : Option Word) : (s.repaged v).heldIntr = s.heldIntr := by cases v <;> rfl
@[simp] theorem State.repaged_resetPin (s : State) (v : Option Word) : (s.repaged v).resetPin = s.resetPin := by cases v <;> rfl
@[simp] theorem State.repaged_run (s : State) (v : Option Word) : (s.repaged v).run = s.run := by cases v <;> rfl
@[simp] theorem State.repaged_tlb (s : State) (v : Option Word) : (s.repaged v).tlb = if v.isSome then [] else s.tlb := by cases v <;> rfl
@[simp] theorem State.repaged_staleBytes (s : State) (v : Option Word) : (s.repaged v).staleBytes = s.staleBytes := by cases v <;> rfl
@[simp] theorem State.repaged_repeating (s : State) (v : Option Word) : (s.repaged v).repeating = s.repeating := by cases v <;> rfl
@[simp] theorem State.repaged_lateBytes (s : State) (v : Option Word) : (s.repaged v).lateBytes = s.lateBytes := by cases v <;> rfl
@[simp] theorem State.repaged_mem (s : State) (v : Option Word) : (s.repaged v).mem = s.mem := by cases v <;> rfl
@[simp] theorem State.repaged_physMap (s : State) (v : Option Word) : (s.repaged v).physMap = s.physMap := by cases v <;> rfl
@[simp] theorem State.repaged_trace (s : State) (v : Option Word) : (s.repaged v).trace = s.trace := by cases v <;> rfl
@[simp] theorem State.repaged_draws (s : State) (v : Option Word) : (s.repaged v).draws = s.draws := by cases v <;> rfl

@[simp] theorem State.cached_regs (s : State) (e : TlbEntry) : (s.cached e).regs = s.regs := by unfold State.cached; split <;> rfl
@[simp] theorem State.cached_eip (s : State) (e : TlbEntry) : (s.cached e).eip = s.eip := by unfold State.cached; split <;> rfl
@[simp] theorem State.cached_flags (s : State) (e : TlbEntry) : (s.cached e).flags = s.flags := by unfold State.cached; split <;> rfl
@[simp] theorem State.cached_segs (s : State) (e : TlbEntry) : (s.cached e).segs = s.segs := by unfold State.cached; split <;> rfl
@[simp] theorem State.cached_gdtr (s : State) (e : TlbEntry) : (s.cached e).gdtr = s.gdtr := by unfold State.cached; split <;> rfl
@[simp] theorem State.cached_idtr (s : State) (e : TlbEntry) : (s.cached e).idtr = s.idtr := by unfold State.cached; split <;> rfl
@[simp] theorem State.cached_ldtr (s : State) (e : TlbEntry) : (s.cached e).ldtr = s.ldtr := by unfold State.cached; split <;> rfl
@[simp] theorem State.cached_tr (s : State) (e : TlbEntry) : (s.cached e).tr = s.tr := by unfold State.cached; split <;> rfl
@[simp] theorem State.cached_cr0 (s : State) (e : TlbEntry) : (s.cached e).cr0 = s.cr0 := by unfold State.cached; split <;> rfl
@[simp] theorem State.cached_cr2 (s : State) (e : TlbEntry) : (s.cached e).cr2 = s.cr2 := by unfold State.cached; split <;> rfl
@[simp] theorem State.cached_cr3 (s : State) (e : TlbEntry) : (s.cached e).cr3 = s.cr3 := by unfold State.cached; split <;> rfl
@[simp] theorem State.cached_dr (s : State) (e : TlbEntry) : (s.cached e).dr = s.dr := by unfold State.cached; split <;> rfl
@[simp] theorem State.cached_tr6 (s : State) (e : TlbEntry) : (s.cached e).tr6 = s.tr6 := by unfold State.cached; split <;> rfl
@[simp] theorem State.cached_tr7 (s : State) (e : TlbEntry) : (s.cached e).tr7 = s.tr7 := by unfold State.cached; split <;> rfl
@[simp] theorem State.cached_npx (s : State) (e : TlbEntry) : (s.cached e).npx = s.npx := by unfold State.cached; split <;> rfl
@[simp] theorem State.cached_nmiPending (s : State) (e : TlbEntry) : (s.cached e).nmiPending = s.nmiPending := by unfold State.cached; split <;> rfl
@[simp] theorem State.cached_nmiBlocked (s : State) (e : TlbEntry) : (s.cached e).nmiBlocked = s.nmiBlocked := by unfold State.cached; split <;> rfl
@[simp] theorem State.cached_intr (s : State) (e : TlbEntry) : (s.cached e).intr = s.intr := by unfold State.cached; split <;> rfl
@[simp] theorem State.cached_inhibitInt (s : State) (e : TlbEntry) : (s.cached e).inhibitInt = s.inhibitInt := by unfold State.cached; split <;> rfl
@[simp] theorem State.cached_inhibitAll (s : State) (e : TlbEntry) : (s.cached e).inhibitAll = s.inhibitAll := by unfold State.cached; split <;> rfl
@[simp] theorem State.cached_pendingDb (s : State) (e : TlbEntry) : (s.cached e).pendingDb = s.pendingDb := by unfold State.cached; split <;> rfl
@[simp] theorem State.cached_heldDb (s : State) (e : TlbEntry) : (s.cached e).heldDb = s.heldDb := by unfold State.cached; split <;> rfl
@[simp] theorem State.cached_heldIntr (s : State) (e : TlbEntry) : (s.cached e).heldIntr = s.heldIntr := by unfold State.cached; split <;> rfl
@[simp] theorem State.cached_resetPin (s : State) (e : TlbEntry) : (s.cached e).resetPin = s.resetPin := by unfold State.cached; split <;> rfl
@[simp] theorem State.cached_run (s : State) (e : TlbEntry) : (s.cached e).run = s.run := by unfold State.cached; split <;> rfl
@[simp] theorem State.cached_tlb (s : State) (e : TlbEntry) : (s.cached e).tlb = if s.oldPaging.isSome || s.tlb.contains e then s.tlb else s.tlb ++ [e] := by unfold State.cached; split <;> rfl
@[simp] theorem State.cached_staleBytes (s : State) (e : TlbEntry) : (s.cached e).staleBytes = s.staleBytes := by unfold State.cached; split <;> rfl
@[simp] theorem State.cached_staleModes (s : State) (e : TlbEntry) : (s.cached e).staleModes = s.staleModes := by unfold State.cached; split <;> rfl
@[simp] theorem State.cached_repeating (s : State) (e : TlbEntry) : (s.cached e).repeating = s.repeating := by unfold State.cached; split <;> rfl
@[simp] theorem State.cached_lateBytes (s : State) (e : TlbEntry) : (s.cached e).lateBytes = s.lateBytes := by unfold State.cached; split <;> rfl
@[simp] theorem State.cached_mem (s : State) (e : TlbEntry) : (s.cached e).mem = s.mem := by unfold State.cached; split <;> rfl
@[simp] theorem State.cached_physMap (s : State) (e : TlbEntry) : (s.cached e).physMap = s.physMap := by unfold State.cached; split <;> rfl
@[simp] theorem State.cached_trace (s : State) (e : TlbEntry) : (s.cached e).trace = s.trace := by unfold State.cached; split <;> rfl
@[simp] theorem State.cached_draws (s : State) (e : TlbEntry) : (s.cached e).draws = s.draws := by unfold State.cached; split <;> rfl
@[simp] theorem State.cached_insn (s : State) (e : TlbEntry) : (s.cached e).insn = s.insn := by unfold State.cached; split <;> rfl

@[simp] theorem noteStale_regs (s : State) (pa : Word) (b : Byte) : (noteStale pa b s).regs = s.regs := rfl
@[simp] theorem noteStale_eip (s : State) (pa : Word) (b : Byte) : (noteStale pa b s).eip = s.eip := rfl
@[simp] theorem noteStale_flags (s : State) (pa : Word) (b : Byte) : (noteStale pa b s).flags = s.flags := rfl
@[simp] theorem noteStale_segs (s : State) (pa : Word) (b : Byte) : (noteStale pa b s).segs = s.segs := rfl
@[simp] theorem noteStale_gdtr (s : State) (pa : Word) (b : Byte) : (noteStale pa b s).gdtr = s.gdtr := rfl
@[simp] theorem noteStale_idtr (s : State) (pa : Word) (b : Byte) : (noteStale pa b s).idtr = s.idtr := rfl
@[simp] theorem noteStale_ldtr (s : State) (pa : Word) (b : Byte) : (noteStale pa b s).ldtr = s.ldtr := rfl
@[simp] theorem noteStale_tr (s : State) (pa : Word) (b : Byte) : (noteStale pa b s).tr = s.tr := rfl
@[simp] theorem noteStale_cr0 (s : State) (pa : Word) (b : Byte) : (noteStale pa b s).cr0 = s.cr0 := rfl
@[simp] theorem noteStale_cr2 (s : State) (pa : Word) (b : Byte) : (noteStale pa b s).cr2 = s.cr2 := rfl
@[simp] theorem noteStale_cr3 (s : State) (pa : Word) (b : Byte) : (noteStale pa b s).cr3 = s.cr3 := rfl
@[simp] theorem noteStale_dr (s : State) (pa : Word) (b : Byte) : (noteStale pa b s).dr = s.dr := rfl
@[simp] theorem noteStale_tr6 (s : State) (pa : Word) (b : Byte) : (noteStale pa b s).tr6 = s.tr6 := rfl
@[simp] theorem noteStale_tr7 (s : State) (pa : Word) (b : Byte) : (noteStale pa b s).tr7 = s.tr7 := rfl
@[simp] theorem noteStale_npx (s : State) (pa : Word) (b : Byte) : (noteStale pa b s).npx = s.npx := rfl
@[simp] theorem noteStale_nmiPending (s : State) (pa : Word) (b : Byte) : (noteStale pa b s).nmiPending = s.nmiPending := rfl
@[simp] theorem noteStale_nmiBlocked (s : State) (pa : Word) (b : Byte) : (noteStale pa b s).nmiBlocked = s.nmiBlocked := rfl
@[simp] theorem noteStale_intr (s : State) (pa : Word) (b : Byte) : (noteStale pa b s).intr = s.intr := rfl
@[simp] theorem noteStale_inhibitInt (s : State) (pa : Word) (b : Byte) : (noteStale pa b s).inhibitInt = s.inhibitInt := rfl
@[simp] theorem noteStale_inhibitAll (s : State) (pa : Word) (b : Byte) : (noteStale pa b s).inhibitAll = s.inhibitAll := rfl
@[simp] theorem noteStale_pendingDb (s : State) (pa : Word) (b : Byte) : (noteStale pa b s).pendingDb = s.pendingDb := rfl
@[simp] theorem noteStale_heldDb (s : State) (pa : Word) (b : Byte) : (noteStale pa b s).heldDb = s.heldDb := rfl
@[simp] theorem noteStale_heldIntr (s : State) (pa : Word) (b : Byte) : (noteStale pa b s).heldIntr = s.heldIntr := rfl
@[simp] theorem noteStale_resetPin (s : State) (pa : Word) (b : Byte) : (noteStale pa b s).resetPin = s.resetPin := rfl
@[simp] theorem noteStale_run (s : State) (pa : Word) (b : Byte) : (noteStale pa b s).run = s.run := rfl
@[simp] theorem noteStale_tlb (s : State) (pa : Word) (b : Byte) : (noteStale pa b s).tlb = s.tlb := rfl
@[simp] theorem noteStale_staleModes (s : State) (pa : Word) (b : Byte) : (noteStale pa b s).staleModes = s.staleModes := rfl
@[simp] theorem noteStale_repeating (s : State) (pa : Word) (b : Byte) : (noteStale pa b s).repeating = s.repeating := rfl
@[simp] theorem noteStale_lateBytes (s : State) (pa : Word) (b : Byte) : (noteStale pa b s).lateBytes = s.lateBytes := rfl
@[simp] theorem noteStale_mem (s : State) (pa : Word) (b : Byte) : (noteStale pa b s).mem = s.mem := rfl
@[simp] theorem noteStale_physMap (s : State) (pa : Word) (b : Byte) : (noteStale pa b s).physMap = s.physMap := rfl
@[simp] theorem noteStale_trace (s : State) (pa : Word) (b : Byte) : (noteStale pa b s).trace = s.trace := rfl
@[simp] theorem noteStale_draws (s : State) (pa : Word) (b : Byte) : (noteStale pa b s).draws = s.draws := rfl
@[simp] theorem noteStale_insn (s : State) (pa : Word) (b : Byte) : (noteStale pa b s).insn = s.insn := rfl

/-! ### Bytes the coprocessor stores late -/

/-- A store changes memory, what the queue may still hold, and what the devices have been sent. -/
theorem State.stored_eq (s : State) (n : Nat) (pa : Word) (b : Byte) :
    ∃ m e t, s.stored n pa b = { s with mem := m, staleBytes := e, trace := t } := by
  unfold State.stored
  split <;> exact ⟨_, _, _, rfl⟩

theorem storeLate_eq (bs : List LateByte) (s : State) :
    ∃ m e t, storeLate bs s = { s with mem := m, staleBytes := e, trace := t } := by
  induction bs generalizing s with
  | nil => exact ⟨_, _, _, rfl⟩
  | cons b bs ih =>
    obtain ⟨m, e, t, h⟩ := s.stored_eq b.bytes b.pa b.value
    obtain ⟨m', e', t', h'⟩ := ih (s.stored b.bytes b.pa b.value)
    exact ⟨m', e', t', by rw [storeLate, h', h]⟩

theorem State.landed_eq (s : State) (k : Nat) :
    ∃ m e t, s.landed k = { s with mem := m, staleBytes := e, trace := t, lateBytes := s.lateBytes.drop k } := by
  obtain ⟨m, e, t, h⟩ := storeLate_eq (s.lateBytes.take k) { s with lateBytes := s.lateBytes.drop k }
  exact ⟨m, e, t, h⟩

/-- Nothing outstanding: nothing changes. -/
theorem State.coprocessed_idle {s : State} (h : s.lateBytes = []) : s.coprocessed = s := by
  simp [State.coprocessed, h]

theorem State.coprocessed_eq (s : State) :
    ∃ m e t l k, s.coprocessed = { s with mem := m, staleBytes := e, trace := t, lateBytes := l, draws := k } := by
  unfold State.coprocessed
  split
  · exact ⟨_, _, _, _, _, rfl⟩
  · obtain ⟨m, e, t, h⟩ := State.landed_eq { s with draws := s.draws + 1 }
      ((Config.free 32 s.draws).toNat % (s.lateBytes.length + 1))
    exact ⟨m, e, t, _, _, h⟩

@[simp] theorem State.stored_regs (s : State) (n : Nat) (pa : Word) (b : Byte) : (s.stored n pa b).regs = s.regs := by obtain ⟨_, _, _, h⟩ := s.stored_eq n pa b; rw [h]
@[simp] theorem State.stored_eip (s : State) (n : Nat) (pa : Word) (b : Byte) : (s.stored n pa b).eip = s.eip := by obtain ⟨_, _, _, h⟩ := s.stored_eq n pa b; rw [h]
@[simp] theorem State.stored_flags (s : State) (n : Nat) (pa : Word) (b : Byte) : (s.stored n pa b).flags = s.flags := by obtain ⟨_, _, _, h⟩ := s.stored_eq n pa b; rw [h]
@[simp] theorem State.stored_segs (s : State) (n : Nat) (pa : Word) (b : Byte) : (s.stored n pa b).segs = s.segs := by obtain ⟨_, _, _, h⟩ := s.stored_eq n pa b; rw [h]
@[simp] theorem State.stored_gdtr (s : State) (n : Nat) (pa : Word) (b : Byte) : (s.stored n pa b).gdtr = s.gdtr := by obtain ⟨_, _, _, h⟩ := s.stored_eq n pa b; rw [h]
@[simp] theorem State.stored_idtr (s : State) (n : Nat) (pa : Word) (b : Byte) : (s.stored n pa b).idtr = s.idtr := by obtain ⟨_, _, _, h⟩ := s.stored_eq n pa b; rw [h]
@[simp] theorem State.stored_ldtr (s : State) (n : Nat) (pa : Word) (b : Byte) : (s.stored n pa b).ldtr = s.ldtr := by obtain ⟨_, _, _, h⟩ := s.stored_eq n pa b; rw [h]
@[simp] theorem State.stored_tr (s : State) (n : Nat) (pa : Word) (b : Byte) : (s.stored n pa b).tr = s.tr := by obtain ⟨_, _, _, h⟩ := s.stored_eq n pa b; rw [h]
@[simp] theorem State.stored_cr0 (s : State) (n : Nat) (pa : Word) (b : Byte) : (s.stored n pa b).cr0 = s.cr0 := by obtain ⟨_, _, _, h⟩ := s.stored_eq n pa b; rw [h]
@[simp] theorem State.stored_cr2 (s : State) (n : Nat) (pa : Word) (b : Byte) : (s.stored n pa b).cr2 = s.cr2 := by obtain ⟨_, _, _, h⟩ := s.stored_eq n pa b; rw [h]
@[simp] theorem State.stored_cr3 (s : State) (n : Nat) (pa : Word) (b : Byte) : (s.stored n pa b).cr3 = s.cr3 := by obtain ⟨_, _, _, h⟩ := s.stored_eq n pa b; rw [h]
@[simp] theorem State.stored_dr (s : State) (n : Nat) (pa : Word) (b : Byte) : (s.stored n pa b).dr = s.dr := by obtain ⟨_, _, _, h⟩ := s.stored_eq n pa b; rw [h]
@[simp] theorem State.stored_tr6 (s : State) (n : Nat) (pa : Word) (b : Byte) : (s.stored n pa b).tr6 = s.tr6 := by obtain ⟨_, _, _, h⟩ := s.stored_eq n pa b; rw [h]
@[simp] theorem State.stored_tr7 (s : State) (n : Nat) (pa : Word) (b : Byte) : (s.stored n pa b).tr7 = s.tr7 := by obtain ⟨_, _, _, h⟩ := s.stored_eq n pa b; rw [h]
@[simp] theorem State.stored_npx (s : State) (n : Nat) (pa : Word) (b : Byte) : (s.stored n pa b).npx = s.npx := by obtain ⟨_, _, _, h⟩ := s.stored_eq n pa b; rw [h]
@[simp] theorem State.stored_nmiPending (s : State) (n : Nat) (pa : Word) (b : Byte) : (s.stored n pa b).nmiPending = s.nmiPending := by obtain ⟨_, _, _, h⟩ := s.stored_eq n pa b; rw [h]
@[simp] theorem State.stored_nmiBlocked (s : State) (n : Nat) (pa : Word) (b : Byte) : (s.stored n pa b).nmiBlocked = s.nmiBlocked := by obtain ⟨_, _, _, h⟩ := s.stored_eq n pa b; rw [h]
@[simp] theorem State.stored_intr (s : State) (n : Nat) (pa : Word) (b : Byte) : (s.stored n pa b).intr = s.intr := by obtain ⟨_, _, _, h⟩ := s.stored_eq n pa b; rw [h]
@[simp] theorem State.stored_inhibitInt (s : State) (n : Nat) (pa : Word) (b : Byte) : (s.stored n pa b).inhibitInt = s.inhibitInt := by obtain ⟨_, _, _, h⟩ := s.stored_eq n pa b; rw [h]
@[simp] theorem State.stored_inhibitAll (s : State) (n : Nat) (pa : Word) (b : Byte) : (s.stored n pa b).inhibitAll = s.inhibitAll := by obtain ⟨_, _, _, h⟩ := s.stored_eq n pa b; rw [h]
@[simp] theorem State.stored_pendingDb (s : State) (n : Nat) (pa : Word) (b : Byte) : (s.stored n pa b).pendingDb = s.pendingDb := by obtain ⟨_, _, _, h⟩ := s.stored_eq n pa b; rw [h]
@[simp] theorem State.stored_heldDb (s : State) (n : Nat) (pa : Word) (b : Byte) : (s.stored n pa b).heldDb = s.heldDb := by obtain ⟨_, _, _, h⟩ := s.stored_eq n pa b; rw [h]
@[simp] theorem State.stored_heldIntr (s : State) (n : Nat) (pa : Word) (b : Byte) : (s.stored n pa b).heldIntr = s.heldIntr := by obtain ⟨_, _, _, h⟩ := s.stored_eq n pa b; rw [h]
@[simp] theorem State.stored_resetPin (s : State) (n : Nat) (pa : Word) (b : Byte) : (s.stored n pa b).resetPin = s.resetPin := by obtain ⟨_, _, _, h⟩ := s.stored_eq n pa b; rw [h]
@[simp] theorem State.stored_run (s : State) (n : Nat) (pa : Word) (b : Byte) : (s.stored n pa b).run = s.run := by obtain ⟨_, _, _, h⟩ := s.stored_eq n pa b; rw [h]
@[simp] theorem State.stored_tlb (s : State) (n : Nat) (pa : Word) (b : Byte) : (s.stored n pa b).tlb = s.tlb := by obtain ⟨_, _, _, h⟩ := s.stored_eq n pa b; rw [h]
@[simp] theorem State.stored_staleModes (s : State) (n : Nat) (pa : Word) (b : Byte) : (s.stored n pa b).staleModes = s.staleModes := by obtain ⟨_, _, _, h⟩ := s.stored_eq n pa b; rw [h]
@[simp] theorem State.stored_repeating (s : State) (n : Nat) (pa : Word) (b : Byte) : (s.stored n pa b).repeating = s.repeating := by obtain ⟨_, _, _, h⟩ := s.stored_eq n pa b; rw [h]
@[simp] theorem State.stored_lateBytes (s : State) (n : Nat) (pa : Word) (b : Byte) : (s.stored n pa b).lateBytes = s.lateBytes := by obtain ⟨_, _, _, h⟩ := s.stored_eq n pa b; rw [h]
@[simp] theorem State.stored_physMap (s : State) (n : Nat) (pa : Word) (b : Byte) : (s.stored n pa b).physMap = s.physMap := by obtain ⟨_, _, _, h⟩ := s.stored_eq n pa b; rw [h]
@[simp] theorem State.stored_draws (s : State) (n : Nat) (pa : Word) (b : Byte) : (s.stored n pa b).draws = s.draws := by obtain ⟨_, _, _, h⟩ := s.stored_eq n pa b; rw [h]
@[simp] theorem State.stored_insn (s : State) (n : Nat) (pa : Word) (b : Byte) : (s.stored n pa b).insn = s.insn := by obtain ⟨_, _, _, h⟩ := s.stored_eq n pa b; rw [h]

@[simp] theorem State.landed_regs (s : State) (k : Nat) : (s.landed k).regs = s.regs := by obtain ⟨_, _, _, h⟩ := s.landed_eq k; rw [h]
@[simp] theorem State.landed_eip (s : State) (k : Nat) : (s.landed k).eip = s.eip := by obtain ⟨_, _, _, h⟩ := s.landed_eq k; rw [h]
@[simp] theorem State.landed_flags (s : State) (k : Nat) : (s.landed k).flags = s.flags := by obtain ⟨_, _, _, h⟩ := s.landed_eq k; rw [h]
@[simp] theorem State.landed_segs (s : State) (k : Nat) : (s.landed k).segs = s.segs := by obtain ⟨_, _, _, h⟩ := s.landed_eq k; rw [h]
@[simp] theorem State.landed_gdtr (s : State) (k : Nat) : (s.landed k).gdtr = s.gdtr := by obtain ⟨_, _, _, h⟩ := s.landed_eq k; rw [h]
@[simp] theorem State.landed_idtr (s : State) (k : Nat) : (s.landed k).idtr = s.idtr := by obtain ⟨_, _, _, h⟩ := s.landed_eq k; rw [h]
@[simp] theorem State.landed_ldtr (s : State) (k : Nat) : (s.landed k).ldtr = s.ldtr := by obtain ⟨_, _, _, h⟩ := s.landed_eq k; rw [h]
@[simp] theorem State.landed_tr (s : State) (k : Nat) : (s.landed k).tr = s.tr := by obtain ⟨_, _, _, h⟩ := s.landed_eq k; rw [h]
@[simp] theorem State.landed_cr0 (s : State) (k : Nat) : (s.landed k).cr0 = s.cr0 := by obtain ⟨_, _, _, h⟩ := s.landed_eq k; rw [h]
@[simp] theorem State.landed_cr2 (s : State) (k : Nat) : (s.landed k).cr2 = s.cr2 := by obtain ⟨_, _, _, h⟩ := s.landed_eq k; rw [h]
@[simp] theorem State.landed_cr3 (s : State) (k : Nat) : (s.landed k).cr3 = s.cr3 := by obtain ⟨_, _, _, h⟩ := s.landed_eq k; rw [h]
@[simp] theorem State.landed_dr (s : State) (k : Nat) : (s.landed k).dr = s.dr := by obtain ⟨_, _, _, h⟩ := s.landed_eq k; rw [h]
@[simp] theorem State.landed_tr6 (s : State) (k : Nat) : (s.landed k).tr6 = s.tr6 := by obtain ⟨_, _, _, h⟩ := s.landed_eq k; rw [h]
@[simp] theorem State.landed_tr7 (s : State) (k : Nat) : (s.landed k).tr7 = s.tr7 := by obtain ⟨_, _, _, h⟩ := s.landed_eq k; rw [h]
@[simp] theorem State.landed_npx (s : State) (k : Nat) : (s.landed k).npx = s.npx := by obtain ⟨_, _, _, h⟩ := s.landed_eq k; rw [h]
@[simp] theorem State.landed_nmiPending (s : State) (k : Nat) : (s.landed k).nmiPending = s.nmiPending := by obtain ⟨_, _, _, h⟩ := s.landed_eq k; rw [h]
@[simp] theorem State.landed_nmiBlocked (s : State) (k : Nat) : (s.landed k).nmiBlocked = s.nmiBlocked := by obtain ⟨_, _, _, h⟩ := s.landed_eq k; rw [h]
@[simp] theorem State.landed_intr (s : State) (k : Nat) : (s.landed k).intr = s.intr := by obtain ⟨_, _, _, h⟩ := s.landed_eq k; rw [h]
@[simp] theorem State.landed_inhibitInt (s : State) (k : Nat) : (s.landed k).inhibitInt = s.inhibitInt := by obtain ⟨_, _, _, h⟩ := s.landed_eq k; rw [h]
@[simp] theorem State.landed_inhibitAll (s : State) (k : Nat) : (s.landed k).inhibitAll = s.inhibitAll := by obtain ⟨_, _, _, h⟩ := s.landed_eq k; rw [h]
@[simp] theorem State.landed_pendingDb (s : State) (k : Nat) : (s.landed k).pendingDb = s.pendingDb := by obtain ⟨_, _, _, h⟩ := s.landed_eq k; rw [h]
@[simp] theorem State.landed_heldDb (s : State) (k : Nat) : (s.landed k).heldDb = s.heldDb := by obtain ⟨_, _, _, h⟩ := s.landed_eq k; rw [h]
@[simp] theorem State.landed_heldIntr (s : State) (k : Nat) : (s.landed k).heldIntr = s.heldIntr := by obtain ⟨_, _, _, h⟩ := s.landed_eq k; rw [h]
@[simp] theorem State.landed_resetPin (s : State) (k : Nat) : (s.landed k).resetPin = s.resetPin := by obtain ⟨_, _, _, h⟩ := s.landed_eq k; rw [h]
@[simp] theorem State.landed_run (s : State) (k : Nat) : (s.landed k).run = s.run := by obtain ⟨_, _, _, h⟩ := s.landed_eq k; rw [h]
@[simp] theorem State.landed_tlb (s : State) (k : Nat) : (s.landed k).tlb = s.tlb := by obtain ⟨_, _, _, h⟩ := s.landed_eq k; rw [h]
@[simp] theorem State.landed_staleModes (s : State) (k : Nat) : (s.landed k).staleModes = s.staleModes := by obtain ⟨_, _, _, h⟩ := s.landed_eq k; rw [h]
@[simp] theorem State.landed_repeating (s : State) (k : Nat) : (s.landed k).repeating = s.repeating := by obtain ⟨_, _, _, h⟩ := s.landed_eq k; rw [h]
@[simp] theorem State.landed_lateBytes (s : State) (k : Nat) : (s.landed k).lateBytes = s.lateBytes.drop k := by obtain ⟨_, _, _, h⟩ := s.landed_eq k; rw [h]
@[simp] theorem State.landed_physMap (s : State) (k : Nat) : (s.landed k).physMap = s.physMap := by obtain ⟨_, _, _, h⟩ := s.landed_eq k; rw [h]
@[simp] theorem State.landed_draws (s : State) (k : Nat) : (s.landed k).draws = s.draws := by obtain ⟨_, _, _, h⟩ := s.landed_eq k; rw [h]
@[simp] theorem State.landed_insn (s : State) (k : Nat) : (s.landed k).insn = s.insn := by obtain ⟨_, _, _, h⟩ := s.landed_eq k; rw [h]

@[simp] theorem State.coprocessed_regs (s : State) : s.coprocessed.regs = s.regs := by obtain ⟨_, _, _, _, _, h⟩ := s.coprocessed_eq; rw [h]
@[simp] theorem State.coprocessed_eip (s : State) : s.coprocessed.eip = s.eip := by obtain ⟨_, _, _, _, _, h⟩ := s.coprocessed_eq; rw [h]
@[simp] theorem State.coprocessed_flags (s : State) : s.coprocessed.flags = s.flags := by obtain ⟨_, _, _, _, _, h⟩ := s.coprocessed_eq; rw [h]
@[simp] theorem State.coprocessed_segs (s : State) : s.coprocessed.segs = s.segs := by obtain ⟨_, _, _, _, _, h⟩ := s.coprocessed_eq; rw [h]
@[simp] theorem State.coprocessed_gdtr (s : State) : s.coprocessed.gdtr = s.gdtr := by obtain ⟨_, _, _, _, _, h⟩ := s.coprocessed_eq; rw [h]
@[simp] theorem State.coprocessed_idtr (s : State) : s.coprocessed.idtr = s.idtr := by obtain ⟨_, _, _, _, _, h⟩ := s.coprocessed_eq; rw [h]
@[simp] theorem State.coprocessed_ldtr (s : State) : s.coprocessed.ldtr = s.ldtr := by obtain ⟨_, _, _, _, _, h⟩ := s.coprocessed_eq; rw [h]
@[simp] theorem State.coprocessed_tr (s : State) : s.coprocessed.tr = s.tr := by obtain ⟨_, _, _, _, _, h⟩ := s.coprocessed_eq; rw [h]
@[simp] theorem State.coprocessed_cr0 (s : State) : s.coprocessed.cr0 = s.cr0 := by obtain ⟨_, _, _, _, _, h⟩ := s.coprocessed_eq; rw [h]
@[simp] theorem State.coprocessed_cr2 (s : State) : s.coprocessed.cr2 = s.cr2 := by obtain ⟨_, _, _, _, _, h⟩ := s.coprocessed_eq; rw [h]
@[simp] theorem State.coprocessed_cr3 (s : State) : s.coprocessed.cr3 = s.cr3 := by obtain ⟨_, _, _, _, _, h⟩ := s.coprocessed_eq; rw [h]
@[simp] theorem State.coprocessed_dr (s : State) : s.coprocessed.dr = s.dr := by obtain ⟨_, _, _, _, _, h⟩ := s.coprocessed_eq; rw [h]
@[simp] theorem State.coprocessed_tr6 (s : State) : s.coprocessed.tr6 = s.tr6 := by obtain ⟨_, _, _, _, _, h⟩ := s.coprocessed_eq; rw [h]
@[simp] theorem State.coprocessed_tr7 (s : State) : s.coprocessed.tr7 = s.tr7 := by obtain ⟨_, _, _, _, _, h⟩ := s.coprocessed_eq; rw [h]
@[simp] theorem State.coprocessed_npx (s : State) : s.coprocessed.npx = s.npx := by obtain ⟨_, _, _, _, _, h⟩ := s.coprocessed_eq; rw [h]
@[simp] theorem State.coprocessed_nmiPending (s : State) : s.coprocessed.nmiPending = s.nmiPending := by obtain ⟨_, _, _, _, _, h⟩ := s.coprocessed_eq; rw [h]
@[simp] theorem State.coprocessed_nmiBlocked (s : State) : s.coprocessed.nmiBlocked = s.nmiBlocked := by obtain ⟨_, _, _, _, _, h⟩ := s.coprocessed_eq; rw [h]
@[simp] theorem State.coprocessed_intr (s : State) : s.coprocessed.intr = s.intr := by obtain ⟨_, _, _, _, _, h⟩ := s.coprocessed_eq; rw [h]
@[simp] theorem State.coprocessed_inhibitInt (s : State) : s.coprocessed.inhibitInt = s.inhibitInt := by obtain ⟨_, _, _, _, _, h⟩ := s.coprocessed_eq; rw [h]
@[simp] theorem State.coprocessed_inhibitAll (s : State) : s.coprocessed.inhibitAll = s.inhibitAll := by obtain ⟨_, _, _, _, _, h⟩ := s.coprocessed_eq; rw [h]
@[simp] theorem State.coprocessed_pendingDb (s : State) : s.coprocessed.pendingDb = s.pendingDb := by obtain ⟨_, _, _, _, _, h⟩ := s.coprocessed_eq; rw [h]
@[simp] theorem State.coprocessed_heldDb (s : State) : s.coprocessed.heldDb = s.heldDb := by obtain ⟨_, _, _, _, _, h⟩ := s.coprocessed_eq; rw [h]
@[simp] theorem State.coprocessed_heldIntr (s : State) : s.coprocessed.heldIntr = s.heldIntr := by obtain ⟨_, _, _, _, _, h⟩ := s.coprocessed_eq; rw [h]
@[simp] theorem State.coprocessed_resetPin (s : State) : s.coprocessed.resetPin = s.resetPin := by obtain ⟨_, _, _, _, _, h⟩ := s.coprocessed_eq; rw [h]
@[simp] theorem State.coprocessed_run (s : State) : s.coprocessed.run = s.run := by obtain ⟨_, _, _, _, _, h⟩ := s.coprocessed_eq; rw [h]
@[simp] theorem State.coprocessed_tlb (s : State) : s.coprocessed.tlb = s.tlb := by obtain ⟨_, _, _, _, _, h⟩ := s.coprocessed_eq; rw [h]
@[simp] theorem State.coprocessed_staleModes (s : State) : s.coprocessed.staleModes = s.staleModes := by obtain ⟨_, _, _, _, _, h⟩ := s.coprocessed_eq; rw [h]
@[simp] theorem State.coprocessed_repeating (s : State) : s.coprocessed.repeating = s.repeating := by obtain ⟨_, _, _, _, _, h⟩ := s.coprocessed_eq; rw [h]
@[simp] theorem State.coprocessed_physMap (s : State) : s.coprocessed.physMap = s.physMap := by obtain ⟨_, _, _, _, _, h⟩ := s.coprocessed_eq; rw [h]
@[simp] theorem State.coprocessed_insn (s : State) : s.coprocessed.insn = s.insn := by obtain ⟨_, _, _, _, _, h⟩ := s.coprocessed_eq; rw [h]

@[simp] theorem complete_regs (s : State) (r : State) : (complete r s).regs = s.regs := by simp [complete, State.pruned]
@[simp] theorem complete_eip (s : State) (r : State) : (complete r s).eip = s.eip := by simp [complete, State.pruned]
@[simp] theorem complete_flags (s : State) (r : State) : (complete r s).flags = { s.flags with RF := s.insn.keepRF && s.flags.RF } := by simp [complete, State.pruned]
@[simp] theorem complete_segs (s : State) (r : State) : (complete r s).segs = s.segs := by simp [complete, State.pruned]
@[simp] theorem complete_gdtr (s : State) (r : State) : (complete r s).gdtr = s.gdtr := by simp [complete, State.pruned]
@[simp] theorem complete_idtr (s : State) (r : State) : (complete r s).idtr = s.idtr := by simp [complete, State.pruned]
@[simp] theorem complete_ldtr (s : State) (r : State) : (complete r s).ldtr = s.ldtr := by simp [complete, State.pruned]
@[simp] theorem complete_tr (s : State) (r : State) : (complete r s).tr = s.tr := by simp [complete, State.pruned]
@[simp] theorem complete_cr0 (s : State) (r : State) : (complete r s).cr0 = s.cr0 := by simp [complete, State.pruned]
@[simp] theorem complete_cr2 (s : State) (r : State) : (complete r s).cr2 = s.cr2 := by simp [complete, State.pruned]
@[simp] theorem complete_cr3 (s : State) (r : State) : (complete r s).cr3 = s.cr3 := by simp [complete, State.pruned]
@[simp] theorem complete_dr (s : State) (r : State) : (complete r s).dr = s.dr := by simp [complete, State.pruned]
@[simp] theorem complete_tr6 (s : State) (r : State) : (complete r s).tr6 = s.tr6 := by simp [complete, State.pruned]
@[simp] theorem complete_tr7 (s : State) (r : State) : (complete r s).tr7 = s.tr7 := by simp [complete, State.pruned]
@[simp] theorem complete_npx (s : State) (r : State) : (complete r s).npx = s.npx := by simp [complete, State.pruned]
@[simp] theorem complete_nmiPending (s : State) (r : State) : (complete r s).nmiPending = s.nmiPending := by simp [complete, State.pruned]
@[simp] theorem complete_nmiBlocked (s : State) (r : State) : (complete r s).nmiBlocked = s.nmiBlocked := by simp [complete, State.pruned]
@[simp] theorem complete_intr (s : State) (r : State) : (complete r s).intr = s.intr := by simp [complete, State.pruned]
@[simp] theorem complete_inhibitInt (s : State) (r : State) : (complete r s).inhibitInt = s.inhibitInt := by simp [complete, State.pruned]
@[simp] theorem complete_inhibitAll (s : State) (r : State) : (complete r s).inhibitAll = s.inhibitAll := by simp [complete, State.pruned]
@[simp] theorem complete_pendingDb (s : State) (r : State) : (complete r s).pendingDb = if r.flags.TF && s.flags.TF then s.pendingDb ||| 0x4000#32 else s.pendingDb := by simp [complete, State.pruned]
@[simp] theorem complete_heldDb (s : State) (r : State) : (complete r s).heldDb = s.heldDb := by simp [complete, State.pruned]
@[simp] theorem complete_heldIntr (s : State) (r : State) : (complete r s).heldIntr = s.heldIntr := by simp [complete, State.pruned]
@[simp] theorem complete_resetPin (s : State) (r : State) : (complete r s).resetPin = s.resetPin := by simp [complete, State.pruned]
@[simp] theorem complete_run (s : State) (r : State) : (complete r s).run = s.run := by simp [complete, State.pruned]
@[simp] theorem complete_tlb (s : State) (r : State) : (complete r s).tlb = s.tlb := by simp [complete, State.pruned]
@[simp] theorem complete_repeating (s : State) (r : State) : (complete r s).repeating = s.repeating := by simp [complete, State.pruned]
@[simp] theorem complete_physMap (s : State) (r : State) : (complete r s).physMap = s.physMap := by simp [complete, State.pruned]
@[simp] theorem complete_insn (s : State) (r : State) : (complete r s).insn = Insn.start := by simp [complete, State.pruned]

end Sys2Proof.Machine
end

