-- ==== Sys2Proof/Laws/Access.lean ====
section
/-! SUPPORT. What an operand access can do: it changes only what `AccessKeeps` allows, and it finds as many different
physical addresses as the operand has bytes. -/

namespace Sys2Proof.Machine

/-! ### The relation -/

theorem AccessKeeps.refl (s : State) : AccessKeeps s s := ⟨rfl, fun _ h => h, fun _ _ => rfl, id⟩

theorem AccessKeeps.trans {s u w : State} (h : AccessKeeps s u) (h' : AccessKeeps u w) : AccessKeeps s w := by
  obtain ⟨hu, ku, mu, fu⟩ := h
  obtain ⟨hw, kw, mw, fw⟩ := h'
  refine ⟨?_, fun c hc => kw c (ku c hc), fun a ha => ?_, fun h => fw (fu h)⟩
  · rw [hw]
    simp only
    rw [hu]
  · rw [mw a ha, mu a fun c hc => ha c (kw c hc)]

theorem AccessKeeps.draws (s : State) (n : Nat) : AccessKeeps s { s with draws := n } :=
  ⟨rfl, fun _ h => h, fun _ _ => rfl, id⟩

/-! ### Physical memory -/

variable {s t u : State} {pa la off : Word} {n : Nat} {rd wr user : Bool} {sg : SegNo} {r : SegReg} {pas : List Word}

/-- A read completes; it draws where nothing answers. -/
theorem physRead_ok (pa : Word) (s : State) : ∃ b k, physRead pa s = .ok b { s with draws := k } := by
  simp only [physRead, bind_apply, get_apply]
  rcases physKind s.physMap pa.toNat with _ | _ | _ | _
  all_goals first | exact ⟨_, s.draws, rfl⟩ | exact ⟨_, _, rfl⟩

/-- RAM answers the byte it holds. -/
theorem physRead_ram (h : physKind s.physMap pa.toNat = none) :
    physRead pa s = .ok (Memory.read s.mem pa.toNat) s := by
  simp [physRead, h]

theorem physReadList_ok (pas : List Word) (s : State) :
    ∃ bs k, physReadList pas s = .ok bs { s with draws := k } ∧ bs.length = pas.length := by
  induction pas generalizing s with
  | nil => exact ⟨[], s.draws, rfl, rfl⟩
  | cons p ps ih =>
    obtain ⟨b, k, hb⟩ := physRead_ok p s
    obtain ⟨bs, k', hbs, hl⟩ := ih { s with draws := k }
    exact ⟨b :: bs, k', by simp [physReadList, hb, hbs], by simp [hl]⟩

theorem physReadList_ram (h : ∀ p ∈ pas, physKind s.physMap p.toNat = none) :
    physReadList pas s = .ok (pas.map fun p => Memory.read s.mem p.toNat) s := by
  induction pas with
  | nil => rfl
  | cons p ps ih =>
    simp only [List.mem_cons, forall_eq_or_imp] at h
    simp [physReadList, physRead_ram h.1, ih h.2]

theorem physReadList_keeps (pas : List Word) : Preserves AccessKeeps (physReadList pas) := by
  intro s
  obtain ⟨bs, k, h, -⟩ := physReadList_ok pas s
  rw [h]
  exact .draws s k

theorem physRead_keeps (pa : Word) : Preserves AccessKeeps (physRead pa) := by
  intro s
  obtain ⟨b, k, h⟩ := physRead_ok pa s
  rw [h]
  exact .draws s k

/-- A write completes. -/
theorem physWrite_ok (n : Nat) (pa : Word) (b : Byte) (s : State) :
    physWrite n pa b s = .ok () (match physKind s.physMap pa.toNat with
      | none => { noteStale pa b s with mem := Memory.write s.mem pa.toNat b }
      | some .device => { s with trace := s.trace ++ [IoEvent.mem pa n b] }
      | _ => s) := by
  simp only [physWrite, modify_apply, State.stored]
  rcases physKind s.physMap pa.toNat with _ | _ | _ | _ <;> rfl

theorem physSetBits_keeps (pa : Word) (bits : Byte) : Preserves AccessKeeps (physSetBits pa bits) := by
  intro s
  obtain ⟨b, k, hb⟩ := physRead_ok pa s
  simp only [physSetBits, bind_apply, hb, ite_apply, pure_apply]
  split
  · rename_i h
    split at h
    · cases h
      exact .draws s k
    · simp only [physWrite_ok, modify_apply] at h
      cases h
      refine ⟨?_, ?_, ?_, fun hm => ?_⟩
      · rcases hk : physKind s.physMap pa.toNat with _ | _ | _ | _ <;> simp [noteStale]
      · rcases hk : physKind s.physMap pa.toNat with _ | _ | _ | _ <;> simp_all [noteStale]
      · intro a ha
        have : pa.toNat ≠ a := by
          refine ha (pa.toNat, bits) ?_
          rcases hk : physKind s.physMap pa.toNat with _ | _ | _ | _ <;> simp
        rcases hk : physKind s.physMap pa.toNat with _ | _ | _ | _ <;> simp only
        exact Memory.read_write_ne _ (Ne.symm this)
      · rcases hk : physKind s.physMap pa.toNat with _ | _ | _ | _ <;> simp only
        all_goals first | exact hm | exact Memory.write_wf _ hm pa.isLt
  · rename_i h
    split at h
    · cases h
    · simp only [physWrite_ok, modify_apply] at h
      cases h

/-! ### Paging -/

theorem walk_keeps (la : Word) (wr user : Bool) : Preserves AccessKeeps (walk la wr user) := by
  unfold walk physRead32
  repeat' first
    | exact Preserves.pure .refl _ | exact Preserves.get .refl | exact physReadList_keeps _
    | apply Preserves.bind .trans | apply Preserves.ite | intro _

theorem drawUpTo_keeps (k : Nat) : Preserves AccessKeeps (drawUpTo k) := fun s => .draws s _

theorem chooseEntry_keeps (es : List TlbEntry) : Preserves AccessKeeps (chooseEntry es) := by
  unfold chooseEntry
  split
  · exact Preserves.pure .refl _
  · exact Preserves.bind .trans (drawUpTo_keeps _) fun _ => Preserves.pure .refl _

theorem AccessKeeps.tlb (s : State) (l : List TlbEntry) : AccessKeeps s { s with tlb := l } :=
  ⟨rfl, fun _ h => h, fun _ _ => rfl, id⟩

theorem AccessKeeps.cached (s : State) (e : TlbEntry) : AccessKeeps s (s.cached e) := by
  unfold State.cached
  split
  · exact .refl s
  · exact .tlb s _

theorem markDirty_keeps (wr : Bool) (w : Walk) : Preserves AccessKeeps (markDirty wr w) := by
  cases w <;> simp only [markDirty]
  · exact Preserves.pure .refl _
  all_goals exact Preserves.ite (physSetBits_keeps _ _) (Preserves.pure .refl _)

theorem translate_keeps (la : Word) (wr user : Bool) : Preserves AccessKeeps (translate la wr user) := by
  unfold translate
  apply Preserves.bind .trans (Preserves.get .refl)
  intro s
  split
  · apply Preserves.bind .trans (walk_keeps _ _ _)
    intro w
    apply Preserves.bind .trans (chooseEntry_keeps _)
    intro o
    split
    · repeat' first
        | exact Preserves.pure .refl _ | exact Preserves.throw .refl _ | exact markDirty_keeps _ _
        | apply Preserves.bind .trans | apply Preserves.ite | intro _
    · split
      · exact Preserves.throw .refl _
      · exact Preserves.throw .refl _
      · apply Preserves.bind .trans (physSetBits_keeps _ _)
        intro _
        apply Preserves.bind .trans (physSetBits_keeps _ _)
        intro _
        exact Preserves.bind .trans (Preserves.modify fun t => .cached t _) fun _ => Preserves.pure .refl _
  · apply Preserves.bind .trans (chooseEntry_keeps _)
    intro o
    split <;> exact Preserves.pure .refl _

theorem physAddrs_keeps (la : Word) (n : Nat) (wr user : Bool) : Preserves AccessKeeps (physAddrs la n wr user) := by
  unfold physAddrs
  apply Preserves.bind .trans (translate_keeps _ _ _)
  intro p
  apply Preserves.ite (Preserves.pure .refl _)
  exact Preserves.bind .trans (translate_keeps _ _ _) fun _ => Preserves.pure .refl _

/-! ### Checked accesses -/

/-- What it is for an access to meet a breakpoint: one of its bytes, modulo 2^32, is one the breakpoint covers. -/
theorem overlaps_iff (a : Word) (n : Nat) (b : Word) (m : Nat) (hn : 0 < n) (hn' : n ≤ 2 ^ 32) (hm : 0 < m) :
    overlaps a n b m = true ↔ ∃ j < n, ∃ k < m, (a + BitVec.ofNat 32 j).toNat = b.toNat + k := by
  have ha := a.isLt
  have hb := b.isLt
  simp only [overlaps, Bool.or_eq_true, Bool.and_eq_true, decide_eq_true_eq, BitVec.toNat_add, BitVec.toNat_ofNat]
  constructor
  · rintro (⟨h, h'⟩ | h)
    · exact ⟨b.toNat - a.toNat, by omega, a.toNat - b.toNat, by omega, by omega⟩
    · exact ⟨b.toNat + 2 ^ 32 - a.toNat, by omega, 0, hm, by omega⟩
  · rintro ⟨j, hj, k, hk, h⟩
    omega

theorem watchOne_keeps (i : Nat) (la : Word) (n : Nat) (wr : Bool) : Preserves AccessKeeps (watchOne i la n wr) := by
  unfold watchOne
  apply Preserves.bind .trans (Preserves.get .refl)
  intro s
  repeat' first
    | exact Preserves.pure .refl _ | apply Preserves.ite | exact fun s => .draws s _

theorem watch_keeps (la : Word) (n : Nat) (wr : Bool) : Preserves AccessKeeps (watch la n wr) := by
  unfold watch
  apply Preserves.bind .trans (Preserves.get .refl)
  intro s
  apply Preserves.ite (Preserves.pure .refl _)
  iterate 4 refine Preserves.bind .trans (watchOne_keeps _ _ _ _) fun _ => ?_
  exact fun s => ⟨rfl, fun _ h => h, fun _ _ => rfl, id⟩

theorem regAddrs_keeps (sg : SegNo) (r : SegReg) (off : Word) (n : Nat) (rd wr : Bool) :
    Preserves AccessKeeps (regAddrs sg r off n rd wr) := by
  unfold regAddrs segAddr
  apply Preserves.bind .trans
  · split
    · exact Preserves.pure .refl _
    · unfold raiseSeg
      split <;> exact fun s => .refl s
  · intro la
    apply Preserves.bind .trans (Preserves.get .refl)
    intro s
    apply Preserves.bind .trans (physAddrs_keeps _ _ _ _)
    intro _
    exact Preserves.bind .trans (watch_keeps _ _ _) fun _ => Preserves.pure .refl _

theorem memAddrs_keeps (sg : SegNo) (off : Word) (n : Nat) (rd wr : Bool) :
    Preserves AccessKeeps (memAddrs sg off n rd wr) := by
  unfold memAddrs
  exact Preserves.bind .trans (Preserves.get .refl) fun _ => regAddrs_keeps _ _ _ _ _ _

theorem memRead_keeps (sg : SegNo) (off : Word) (n : Nat) : Preserves AccessKeeps (memRead sg off n) := by
  unfold memRead
  exact Preserves.bind .trans (memAddrs_keeps _ _ _ _ _) fun _ =>
    Preserves.bind .trans (physReadList_keeps _) fun _ => Preserves.pure .refl _

theorem linRead_keeps (la : Word) (n : Nat) : Preserves AccessKeeps (linRead la n) := by
  unfold linRead
  exact Preserves.bind .trans (physAddrs_keeps _ _ _ _) fun _ =>
    Preserves.bind .trans (physReadList_keeps _) fun _ => Preserves.pure .refl _

theorem readRM_keeps (w : Width) (rm : RM) : Preserves AccessKeeps (readRM w rm) := by
  cases rm with
  | reg n => exact Preserves.bind .trans (Preserves.get .refl) fun _ => Preserves.pure .refl _
  | mem m =>
    exact Preserves.bind .trans (Preserves.get .refl) fun _ =>
      Preserves.bind .trans (memRead_keeps _ _ _) fun _ => Preserves.pure .refl _

theorem modifyRM_keeps (w : Width) (rm : RM) : Preserves AccessKeeps (modifyRM w rm) := by
  cases rm with
  | reg n =>
    exact Preserves.bind .trans (Preserves.bind .trans (Preserves.get .refl) fun _ => Preserves.pure .refl _)
      fun _ => Preserves.pure .refl _
  | mem m =>
    exact Preserves.bind .trans (Preserves.get .refl) fun _ =>
      Preserves.bind .trans (memAddrs_keeps _ _ _ _ _) fun _ =>
        Preserves.bind .trans (physReadList_keeps _) fun _ => Preserves.pure .refl _

/-! ### The physical addresses of an operand -/

theorem addrsFrom_length (p : Word) (n : Nat) : (addrsFrom p n).length = n := by
  induction n generalizing p with
  | zero => rfl
  | succ n ih => simp [addrsFrom, ih]

theorem physAddrs_length {la : Word} (h : physAddrs la n wr user s = .ok pas t) : pas.length = n := by
  simp only [physAddrs] at h
  obtain ⟨p, t1, -, h⟩ := bind_eq_ok h
  rw [ite_apply] at h
  split at h
  · cases h
    exact addrsFrom_length _ _
  · obtain ⟨q, t2, -, h⟩ := bind_eq_ok h
    cases h
    simp only [List.length_append, addrsFrom_length]
    omega

/-- An operand of `n` bytes has `n` physical addresses. -/
theorem regAddrs_length (h : regAddrs sg r off n rd wr s = .ok pas t) : pas.length = n := by
  simp only [regAddrs] at h
  obtain ⟨la, t1, -, h⟩ := bind_eq_ok h
  obtain ⟨s1, t2, -, h⟩ := bind_eq_ok h
  obtain ⟨q, t3, hq, h⟩ := bind_eq_ok h
  obtain ⟨_, t4, -, h⟩ := bind_eq_ok h
  cases h
  exact physAddrs_length hq

theorem memAddrs_length (h : memAddrs sg off n rd wr s = .ok pas t) : pas.length = n := by
  simp only [memAddrs] at h
  obtain ⟨s1, t1, -, h⟩ := bind_eq_ok h
  exact regAddrs_length h

theorem inFrame_offset (f : BitVec 20) (la : Word) : (inFrame f la).toNat % 4096 = la.toNat % 4096 := by
  simp only [inFrame, BitVec.toNat_append, BitVec.extractLsb'_toNat, Nat.shiftRight_zero]
  rw [← Nat.shiftLeft_add_eq_or_of_lt (by omega), Nat.shiftLeft_eq]
  omega

/-- Translation keeps the offset in the page. -/
theorem translate_offset {p : Word} (h : translate la wr user s = .ok p t) : p.toNat % 4096 = la.toNat % 4096 := by
  simp only [translate] at h
  obtain ⟨s1, t1, -, h⟩ := bind_eq_ok h
  split at h
  · obtain ⟨w, t2, -, h⟩ := bind_eq_ok h
    obtain ⟨o, t3, -, h⟩ := bind_eq_ok h
    split at h
    · rw [ite_apply] at h
      split at h
      · obtain ⟨x, t4, hx, -⟩ := bind_eq_ok h
        cases hx
      · obtain ⟨_, t4, -, h⟩ := bind_eq_ok h
        cases h
        exact inFrame_offset _ _
    · split at h
      · cases h
      · cases h
      · obtain ⟨_, t4, -, h⟩ := bind_eq_ok h
        obtain ⟨_, t5, -, h⟩ := bind_eq_ok h
        obtain ⟨_, t6, -, h⟩ := bind_eq_ok h
        cases h
        exact inFrame_offset _ _
  · obtain ⟨o, t3, -, h⟩ := bind_eq_ok h
    split at h
    · cases h
      exact inFrame_offset _ _
    · cases h
      rfl

theorem mem_addrsFrom {p x : Word} : x ∈ addrsFrom p n → ∃ i, i < n ∧ x = p + BitVec.ofNat 32 i := by
  induction n generalizing p with
  | zero => simp [addrsFrom]
  | succ n ih =>
    intro h
    rcases List.mem_cons.mp h with rfl | h
    · exact ⟨0, by omega, by simp⟩
    · obtain ⟨i, hi, rfl⟩ := ih h
      exact ⟨i + 1, by omega, by bv_omega⟩

theorem addrsFrom_nodup {p : Word} (h : p.toNat + n ≤ 2 ^ 32) : (addrsFrom p n).Nodup := by
  induction n generalizing p with
  | zero => simp [addrsFrom]
  | succ n ih =>
    rcases n with _ | n
    · simp [addrsFrom]
    · refine List.nodup_cons.mpr ⟨fun hx => ?_, ih (by bv_omega)⟩
      obtain ⟨i, hi, hx⟩ := mem_addrsFrom hx
      bv_omega

/-- The addresses differ, for an operand of at most a page. -/
theorem physAddrs_nodup (hn : n ≤ 4096) (h : physAddrs la n wr user s = .ok pas t) : pas.Nodup := by
  simp only [physAddrs] at h
  obtain ⟨p, t1, hp, h⟩ := bind_eq_ok h
  have hp := translate_offset hp
  rw [ite_apply] at h
  split at h
  · cases h
    exact addrsFrom_nodup (by omega)
  · obtain ⟨q, t2, hq, h⟩ := bind_eq_ok h
    have hq := translate_offset hq
    have hq0 : q.toNat % 4096 = 0 := by
      rw [hq]
      simp only [BitVec.toNat_add, BitVec.toNat_ofNat]
      omega
    cases h
    refine List.nodup_append.mpr ⟨addrsFrom_nodup (by omega), addrsFrom_nodup (by omega), fun x hx y hy hxy => ?_⟩
    subst hxy
    obtain ⟨i, hi, rfl⟩ := mem_addrsFrom hx
    obtain ⟨j, hj, hxy⟩ := mem_addrsFrom hy
    have : (p + BitVec.ofNat 32 i).toNat % 4096 = (q + BitVec.ofNat 32 j).toNat % 4096 := by rw [hxy]
    simp only [BitVec.toNat_add, BitVec.toNat_ofNat] at this
    omega

theorem regAddrs_nodup (hn : n ≤ 4096) (h : regAddrs sg r off n rd wr s = .ok pas t) : pas.Nodup := by
  simp only [regAddrs] at h
  obtain ⟨la, t1, -, h⟩ := bind_eq_ok h
  obtain ⟨s1, t2, -, h⟩ := bind_eq_ok h
  obtain ⟨q, t3, hq, h⟩ := bind_eq_ok h
  obtain ⟨_, t4, -, h⟩ := bind_eq_ok h
  cases h
  exact physAddrs_nodup hn hq

theorem memAddrs_nodup (hn : n ≤ 4096) (h : memAddrs sg off n rd wr s = .ok pas t) : pas.Nodup := by
  simp only [memAddrs] at h
  obtain ⟨s1, t1, -, h⟩ := bind_eq_ok h
  exact regAddrs_nodup hn h

/-! ### Stores -/

theorem toBytes_length (n v : Nat) : (toBytes n v).length = n := by
  induction n generalizing v with
  | zero => rfl
  | succ n ih => simp [toBytes, ih]

/-- A store of as many bytes as there are addresses completes and does what `Stores` says. -/
theorem physWriteList_stores {bs : List Byte} (hm : Memory.wf u.mem = true) (hd : pas.Nodup)
    (hl : pas.length = bs.length) : ∃ t, physWriteList bs.length pas bs u = .ok () t ∧ Stores u pas bs t := by
  suffices H : ∀ k, ∃ t, physWriteList k pas bs u = .ok () t ∧
      (t = { u with mem := t.mem, staleBytes := t.staleBytes, trace := t.trace } ∧
      (∀ p ∈ pas.zip bs, physKind u.physMap p.1.toNat = none → Memory.read t.mem p.1.toNat = p.2) ∧
      (∀ a, (∀ pa ∈ pas, pa.toNat = a → physKind u.physMap a ≠ none) → Memory.read t.mem a = Memory.read u.mem a) ∧
      t.trace = u.trace ++ deviceWrites u.physMap k pas bs) from H _
  intro k
  induction pas generalizing u bs with
  | nil => exact ⟨u, rfl, rfl, by simp, fun _ _ => rfl, by simp [deviceWrites]⟩
  | cons p ps ih =>
    rcases bs with _ | ⟨b, bs⟩
    · simp at hl
    rw [List.nodup_cons] at hd
    have hlen : ps.length = bs.length := by simpa using hl
    have step : ∀ v : State, physWrite k p b u = .ok () v → Memory.wf v.mem = true →
        v = { u with mem := v.mem, staleBytes := v.staleBytes, trace := v.trace } →
        (physKind u.physMap p.toNat = none → Memory.read v.mem p.toNat = b) →
        (∀ a, (p.toNat = a → physKind u.physMap a ≠ none) → Memory.read v.mem a = Memory.read u.mem a) →
        v.trace = u.trace ++ (if physKind u.physMap p.toNat = some .device then [.mem p k b] else []) →
        ∃ t, physWriteList k (p :: ps) (b :: bs) u = .ok () t ∧
      (t = { u with mem := t.mem, staleBytes := t.staleBytes, trace := t.trace } ∧
      (∀ q ∈ (p :: ps).zip (b :: bs), physKind u.physMap q.1.toNat = none → Memory.read t.mem q.1.toNat = q.2) ∧
      (∀ a, (∀ pa ∈ p :: ps, pa.toNat = a → physKind u.physMap a ≠ none) →
        Memory.read t.mem a = Memory.read u.mem a) ∧
      t.trace = u.trace ++ deviceWrites u.physMap k (p :: ps) (b :: bs)) := by
      intro v hv hw hs hb ho htr
      obtain ⟨t, ht, h1, h2, h3, h4⟩ := ih hw hd.2 hlen
      have hmap : v.physMap = u.physMap := by rw [hs]
      rw [hmap] at h2 h3 h4
      refine ⟨t, by simp [physWriteList, hv, ht], ?_, ?_, ?_, ?_⟩
      · rw [h1]
        simp only
        rw [hs]
      · intro q hq hk
        simp only [List.zip_cons_cons, List.mem_cons] at hq
        rcases hq with rfl | hq
        · rw [h3, hb hk]
          intro pa hpa heq
          have : pa = p := BitVec.eq_of_toNat_eq heq
          exact absurd (this ▸ hpa) hd.1
        · exact h2 q hq hk
      · intro a ha
        rw [h3 a fun pa hpa => ha pa (List.mem_cons_of_mem _ hpa), ho a (ha p List.mem_cons_self)]
      · rw [h4, htr, List.append_assoc]
        congr 1
        simp only [deviceWrites]
        split <;> simp
    have hw := physWrite_ok k p b u
    rcases hk : physKind u.physMap p.toNat with _ | _ | _ | _
    · rw [hk] at hw
      refine step _ hw (Memory.write_wf b hm p.isLt) rfl (fun _ => Memory.read_write_same b hm) (fun a ha => ?_)
        (by simp [hk, noteStale])
      refine Memory.read_write_ne b fun h => ha h.symm ?_
      rw [h, hk]
    all_goals
      rw [hk] at hw
      exact step _ hw hm rfl (by simp [hk]) (fun _ _ => rfl) (by simp [hk])

/-- A store completes: the address check is all that can stop it. -/
theorem memWrite_ok {v : Nat} (hn : n ≤ 4096) (h : memAddrs sg off n false true s = .ok pas u)
    (hm : Memory.wf u.mem = true) : ∃ t, memWrite sg off n v s = .ok () t ∧ Stores u pas (toBytes n v) t := by
  obtain ⟨t, ht, hs⟩ := physWriteList_stores (bs := toBytes n v) hm (memAddrs_nodup hn h)
    ((memAddrs_length h).trans (toBytes_length n v).symm)
  rw [toBytes_length] at ht
  exact ⟨t, by simp [memWrite, h, ht], hs⟩

end Sys2Proof.Machine
end

