-- ==== Sys2Proof/Laws/Decode.lean ====
section
/-! SUPPORT. What the decoder's readers give on the encoder's bytes: one lemma per reader. -/

namespace Sys2Proof

theorem le16_toNat (a b : Byte) : (le16 a b).toNat = a.toNat + 256 * b.toNat := by
  have h : (le16 a b).toNat = b.toNat <<< 8 ||| a.toNat := BitVec.toNat_append b a
  rw [h, ← Nat.shiftLeft_add_eq_or_of_lt a.isLt, Nat.shiftLeft_eq]
  omega

theorem le32_toNat (a b c d : Byte) :
    (le32 a b c d).toNat = (le16 a b).toNat + 65536 * (le16 c d).toNat := by
  have h : (le32 a b c d).toNat = (le16 c d).toNat <<< 16 ||| (le16 a b).toNat :=
    BitVec.toNat_append (le16 c d) (le16 a b)
  rw [h, ← Nat.shiftLeft_add_eq_or_of_lt (le16 a b).isLt, Nat.shiftLeft_eq]
  omega

theorem le16_bytes (v : Half) : le16 (v.extractLsb' 0 8) (v.extractLsb' 8 8) = v := by
  apply BitVec.eq_of_toNat_eq
  have := v.isLt
  simp only [le16_toNat, BitVec.extractLsb'_toNat, Nat.shiftRight_eq_div_pow]
  omega

theorem le32_bytes (v : Word) :
    le32 (v.extractLsb' 0 8) (v.extractLsb' 8 8) (v.extractLsb' 16 8) (v.extractLsb' 24 8) = v := by
  apply BitVec.eq_of_toNat_eq
  have := v.isLt
  simp only [le32_toNat, le16_toNat, BitVec.extractLsb'_toNat, Nat.shiftRight_eq_div_pow]
  omega

variable {α : Type} {z : Sizes} {x : BitVec 3} {rest : List Byte}

@[simp] theorem withByte_cons (b : Byte) (k : Byte → List Byte → Dec) : withByte (b :: rest) k = k b rest := rfl

@[simp] theorem with16_enc (v : Half) (k : Half → List Byte → Dec) : with16 (enc16 v ++ rest) k = k v rest := by
  simp [enc16, with16, le16_bytes]

@[simp] theorem with32_enc (v : Word) (k : Word → List Byte → Dec) : with32 (enc32 v ++ rest) k = k v rest := by
  simp [enc32, with32, le32_bytes]

theorem withV_enc {big : Bool} {v : ImmV} (h : v.wf big = true) (k : ImmV → List Byte → Dec) :
    withV big (encV v ++ rest) k = k v rest := by
  cases v <;> simp_all [ImmV.wf, encV, withV]

/-! The fields of a ModRM or SIB byte. -/

@[simp] theorem mrMod_modrm : ∀ (a : BitVec 2) (b c : BitVec 3), mrMod (modrm a b c) = a := by decide
@[simp] theorem mrReg_modrm : ∀ (a : BitVec 2) (b c : BitVec 3), mrReg (modrm a b c) = b := by decide
@[simp] theorem mrRm_modrm : ∀ (a : BitVec 2) (b c : BitVec 3), mrRm (modrm a b c) = c := by decide

/-! Numbers and names. -/

@[simp] theorem Ea16.ofNum_num (r : Ea16) : Ea16.ofNum r.num = r := by cases r <;> rfl
@[simp] theorem RegNo.ofNum_num (r : RegNo) : RegNo.ofNum r.num = r := by cases r <;> rfl
@[simp] theorem SegNo.ofNum_num (r : SegNo) : SegNo.ofNum? r.num = some r := by cases r <;> rfl
@[simp] theorem CrNo.ofNum_num (r : CrNo) : CrNo.ofNum? r.num = some r := by cases r <;> rfl
@[simp] theorem DrNo.ofNum_num (r : DrNo) : DrNo.ofNum r.num = r := by cases r <;> rfl
@[simp] theorem TrNo.ofNum_num (r : TrNo) : TrNo.ofNum? r.num = some r := by cases r <;> rfl

/-! Operands. -/

theorem withRM_encMem {m : Mem} (h : m.wf z = true) (k : BitVec 3 → RM → List Byte → Dec) :
    withRM z (encMem x m ++ rest) k = k x (.mem m) rest := by
  cases m with
  | ind16 b d =>
    simp only [Mem.wf, Bool.and_eq_true, Bool.not_eq_true'] at h
    cases d <;> simp_all [encMem, withRM, withMem16, Disp.mod, Disp.bytes16]
    cases b <;> simp_all [Ea16.num]
  | dir16 o => simp_all [Mem.wf, encMem, withRM, withMem16]
  | ind32 b d =>
    simp only [Mem.wf, Bool.and_eq_true, bne_iff_ne, Bool.not_eq_true'] at h
    cases d <;> cases b <;>
      simp_all [encMem, withRM, withMem32, withDisp32, Disp.mod, Disp.bytes32, RegNo.num] <;> rfl
  | dir32 o => simp_all [Mem.wf, encMem, withRM, withMem32]
  | sib s i b d =>
    simp only [Mem.wf, Bool.and_eq_true, Bool.not_eq_true'] at h
    cases d <;> simp_all [encMem, withRM, withMem32, withSib, withDisp32, Disp.mod, Disp.bytes32]
    cases b <;> simp_all [RegNo.num]
  | sibDisp s i o => simp_all [Mem.wf, encMem, withRM, withMem32, withSib]

theorem withRM_enc {rm : RM} (h : rm.wf z = true) (k : BitVec 3 → RM → List Byte → Dec) :
    withRM z (encRM x rm ++ rest) k = k x rm rest := by
  cases rm with
  | reg n => simp [encRM, withRM]
  | mem m => exact withRM_encMem h k

theorem withMem_enc {m : Mem} (h : m.wf z = true) (k : BitVec 3 → Mem → List Byte → Dec) :
    withMem z (encMem x m ++ rest) k = k x m rest := by
  rw [withMem, withRM_encMem h]

end Sys2Proof
end

