-- ==== Sys2Proof/Laws/Insn.lean ====
section
/-! SUPPORT. How an instruction ends, from what its body answers in the state it starts in. -/

namespace Sys2Proof.Machine

variable {body : M Unit} {s u : State} {e : Exc}

theorem checkPrefixes_ok {lockable string : Bool} (h : s.prefixOk lockable string) :
    checkPrefixes lockable string s = .ok () s.started := by
  obtain ⟨h1, h2, h3⟩ := h
  rcases hl : s.insn.lock <;> rcases hr : s.insn.rep <;> rcases hn : s.insn.repne <;>
    rcases hp : Config.lockNeedsCpl0 <;> simp_all [checkPrefixes]

theorem settle_ok : settle s (.ok () u) = .next (complete s u) := rfl

theorem instruction_eq {lockable string : Bool} (h : s.prefixOk lockable string) :
    instruction lockable string body s = settle s (body s.started) := by
  simp [instruction, checkPrefixes_ok h]

theorem transferInsn_eq (h : s.prefixOk false false) : transferInsn body s = settle s (body s.started) :=
  instruction_eq h

theorem stringInsn_eq (h : s.prefixOk false true) : stringInsn body s = settle s (body s.started) :=
  instruction_eq h

/-- A body that completes: the next instruction follows. -/
theorem lockInsn_ok {mem : Bool} (h : s.prefixOk mem false) (hb : body s.started = .ok () u) :
    lockInsn mem body s = .next (complete s u.advanced) := by
  rw [lockInsn, instruction_eq h, bind_ok hb]
  rfl

theorem plainInsn_ok (h : s.prefixOk false false) (hb : body s.started = .ok () u) :
    plainInsn body s = .next (complete s u.advanced) := lockInsn_ok h hb

/-- A body that raises an exception: it is taken in the state before the instruction. -/
theorem lockInsn_exc {mem : Bool} (h : s.prefixOk mem false) (hb : body s.started = .error (.exc e) u) :
    lockInsn mem body s = takeException e (rollback s u) := by
  rw [lockInsn, instruction_eq h, bind_error hb]
  rfl

theorem plainInsn_exc (h : s.prefixOk false false) (hb : body s.started = .error (.exc e) u) :
    plainInsn body s = takeException e (rollback s u) := lockInsn_exc h hb

end Sys2Proof.Machine
end

