-- ==== Sys2Proof/Laws/Operands.lean ====
section
/-! SUPPORT. What each operation on operands answers. -/

namespace Sys2Proof.Machine

variable {s t u : State} {w : Width} {n : RegNo} {v : Word} {m : Mem} {p : Place} {x : Word} {pas : List Word}

/-! ### What the start of an instruction leaves -/

@[simp] theorem started_reg : s.started.reg w n = s.reg w n := rfl
@[simp] theorem started_opWidth : s.started.opWidth = s.opWidth := rfl
@[simp] theorem started_adWidth : s.started.adWidth = s.adWidth := rfl
@[simp] theorem started_sizes : s.started.sizes = s.sizes := rfl
@[simp] theorem started_ea : s.started.ea m = s.ea m := rfl
@[simp] theorem started_sp : s.started.sp = s.sp := rfl
@[simp] theorem started_stackWidth : s.started.stackWidth = s.stackWidth := rfl
@[simp] theorem started_stackOff : s.started.stackOff v = s.stackOff v := rfl
@[simp] theorem started_seg {sg : SegNo} : s.started.seg sg = s.seg sg := rfl
@[simp] theorem started_overridden {sg : SegNo} : s.started.overridden sg = s.overridden sg := rfl
@[simp] theorem started_nextEip : s.started.nextEip = s.nextEip := rfl
@[simp] theorem started_cpl : s.started.cpl = s.cpl := rfl
@[simp] theorem started_protMode : s.started.protMode = s.protMode := rfl
@[simp] theorem started_peNow : s.started.peNow = s.peNow := rfl
@[simp] theorem started_pgNow : s.started.pgNow = s.pgNow := rfl
@[simp] theorem started_cr3Now : s.started.cr3Now = s.cr3Now := rfl
@[simp] theorem started_tlbNow : s.started.tlbNow = s.tlbNow := rfl
@[simp] theorem started_v86 : s.started.v86 = s.v86 := rfl

/-! ### What an access leaves -/

section
variable (h : AccessKeeps s u)
include h

theorem AccessKeeps.regs : u.regs = s.regs := by rw [h.1]
theorem AccessKeeps.reg : u.reg w n = s.reg w n := by rw [h.1]; rfl
theorem AccessKeeps.eip : u.eip = s.eip := by rw [h.1]
theorem AccessKeeps.flags : u.flags = s.flags := by rw [h.1]
theorem AccessKeeps.segs : u.segs = s.segs := by rw [h.1]
theorem AccessKeeps.opWidth : u.opWidth = s.opWidth := by rw [h.1]; rfl
theorem AccessKeeps.adWidth : u.adWidth = s.adWidth := by rw [h.1]; rfl
theorem AccessKeeps.stackWidth : u.stackWidth = s.stackWidth := by rw [h.1]; rfl
theorem AccessKeeps.sizes : u.sizes = s.sizes := by rw [h.1]; rfl
theorem AccessKeeps.ea : u.ea m = s.ea m := by rw [h.1]; rfl
theorem AccessKeeps.nextEip : u.nextEip = s.nextEip := by rw [h.1]; rfl
theorem AccessKeeps.physMap : u.physMap = s.physMap := by rw [h.1]
theorem AccessKeeps.wf (hm : Memory.wf s.mem = true) : Memory.wf u.mem = true := h.2.2.2 hm

end

/-! ### Registers -/

@[simp] theorem getReg_apply : getReg w n s = .ok (s.reg w n) s := rfl
@[simp] theorem setReg_apply : setReg w n v s = .ok () (s.setReg w n v) := rfl
@[simp] theorem setSP_apply : setSP v s = .ok () (s.setReg s.stackWidth .esp v) := rfl
@[simp] theorem modifyFlags_apply {g : Flags → Flags} : modifyFlags g s = .ok () { s with flags := g s.flags } := rfl
@[simp] theorem setReg_stackWidth : (s.setReg w n v).stackWidth = s.stackWidth := rfl
@[simp] theorem setReg_opWidth : (s.setReg w n v).opWidth = s.opWidth := rfl
@[simp] theorem setReg_nextEip : (s.setReg w n v).nextEip = s.nextEip := rfl
@[simp] theorem advance_apply : advance s = .ok () s.advanced := rfl
@[simp] theorem jumpTo_apply : jumpTo v s = .ok () (s.jumped v) := rfl

/-! ### The r/m operand -/

@[simp] theorem readRM_reg : readRM w (.reg n) s = .ok (s.reg w n) s := rfl
@[simp] theorem writeRM_reg : writeRM w (.reg n) v s = .ok () (s.setReg w n v) := rfl
@[simp] theorem modifyRM_reg : modifyRM w (.reg n) s = .ok (.reg n, s.reg w n) s := rfl
@[simp] theorem putPlace_reg : putPlace w (.reg n) v s = .ok () (s.setReg w n v) := rfl

theorem readRM_mem {k : Nat} (h : memRead (s.ea m).1 (s.ea m).2 w.bytes s = .ok k u) :
    readRM w (.mem m) s = .ok (BitVec.ofNat 32 k) u := by
  simp [readRM, memReadW, h]

theorem writeRM_mem (h : memWrite (s.ea m).1 (s.ea m).2 w.bytes v.toNat s = .ok () u) :
    writeRM w (.mem m) v s = .ok () u := by
  simp [writeRM, memWriteW, h]

theorem bytes_le (w : Width) : w.bytes ≤ 4096 := by cases w <;> decide

theorem modifyMem_place {sg : SegNo} {off : Word} (h : modifyMem w sg off s = .ok (p, x) u) :
    ∃ pas, p = .bytes pas ∧ pas.Nodup ∧ pas.length = w.bytes := by
  simp only [modifyMem] at h
  obtain ⟨pas, t, hp, h⟩ := bind_eq_ok h
  obtain ⟨bs, t', -, h⟩ := bind_eq_ok h
  cases h
  exact ⟨pas, rfl, memAddrs_nodup (bytes_le w) hp, memAddrs_length hp⟩

/-- The place of an operand read for writing: a register, or as many different bytes as its width. -/
theorem modifyRM_place {rm : RM} (h : modifyRM w rm s = .ok (p, x) u) :
    (∃ n, p = .reg n) ∨ ∃ pas, p = .bytes pas ∧ pas.Nodup ∧ pas.length = w.bytes := by
  cases rm with
  | reg n =>
    cases h
    exact .inl ⟨n, rfl⟩
  | mem m => exact .inr (modifyMem_place h)

/-- Writing back completes. -/
theorem putPlace_ok (hm : Memory.wf u.mem = true)
    (hp : (∃ n, p = .reg n) ∨ ∃ pas, p = .bytes pas ∧ pas.Nodup ∧ pas.length = w.bytes) (v : Word) :
    ∃ t, putPlace w p v u = .ok () t ∧ Puts u w p v t := by
  rcases hp with ⟨n, rfl⟩ | ⟨pas, rfl, hd, hl⟩
  · exact ⟨_, rfl, rfl⟩
  · obtain ⟨t, ht, hs⟩ := physWriteList_stores (bs := toBytes w.bytes v.toNat) hm hd
      (hl.trans (toBytes_length _ _).symm)
    rw [toBytes_length] at ht
    exact ⟨t, ht, hs⟩

theorem Stores.stackWidth {bs : List Byte} (h : Stores u pas bs t) : t.stackWidth = u.stackWidth := by rw [h.1]; rfl

@[simp] theorem alu_apply {op : AluOp} {a b : Word} :
    alu op w a b s = .ok (aluResult op w a b s.flags s.nextFree).1 (s.aluState op w a b) := rfl

/-- PUSH completes where the stack may be written. -/
theorem push_ok {k : Nat} (hk : k ≤ 4096) (hm : Memory.wf s.mem = true)
    (h : memAddrs .ss (s.stackOff (s.sp - BitVec.ofNat 32 k)) k false true s = .ok pas u) :
    ∃ t, push k v s = .ok () (t.setReg s.stackWidth .esp (s.stackOff (s.sp - BitVec.ofNat 32 k))) ∧
      Stores u pas (toBytes k v.toNat) t := by
  have hk' := Preserves.ok (memAddrs_keeps _ _ _ _ _) h
  obtain ⟨t, ht, hs⟩ := memWrite_ok (v := v.toNat) hk h (hk'.wf hm)
  refine ⟨t, ?_, hs⟩
  simp [push, ht, hs.stackWidth, hk'.stackWidth]

end Sys2Proof.Machine
end

