-- ==== Sys2Proof/Laws/PerInstr.lean ====
section
/-! SUPPORT. One lemma per instruction: an encoding has 1 to 11 bytes. -/

namespace Sys2Proof.Laws.EncodingLength

/-- The bytes of an instruction without its prefixes: at least one, at most eleven (spec 30 R250). -/
def Statement (i : Instr) : Prop := 1 ≤ (encode i).length ∧ (encode i).length ≤ 11

variable {i : Instr} {op tail : List Byte} {x : BitVec 3}

theorem encV_length (v : ImmV) : 2 ≤ (encV v).length ∧ (encV v).length ≤ 4 := by
  cases v <;> simp [encV, enc16, enc32]

theorem encMem_length (x : BitVec 3) (m : Mem) : 1 ≤ (encMem x m).length ∧ (encMem x m).length ≤ 6 := by
  cases m <;> rename_i d <;>
    first
    | simp [encMem, enc16, enc32]; done
    | cases d <;> simp [encMem, enc16, enc32, Disp.bytes16, Disp.bytes32]

theorem encRM_length (x : BitVec 3) (rm : RM) : 1 ≤ (encRM x rm).length ∧ (encRM x rm).length ≤ 6 := by
  cases rm with
  | reg r => simp [encRM]
  | mem m => exact encMem_length x m

theorem ofFixed (h : encode i = op) (hl : (Nat.ble 1 op.length && Nat.ble op.length 11) = true) :
    Statement i := by
  simp only [Bool.and_eq_true, Nat.ble_eq] at hl
  rw [Statement, h]
  exact hl

theorem ofRM {rm : RM} (h : encode i = op ++ encRM x rm ++ tail)
    (hl : Nat.ble (op.length + tail.length) 5 = true) : Statement i := by
  have := encRM_length x rm
  rw [Nat.ble_eq] at hl
  rw [Statement, h, List.length_append, List.length_append]
  omega

theorem ofMem {m : Mem} (h : encode i = op ++ encMem x m ++ tail)
    (hl : Nat.ble (op.length + tail.length) 5 = true) : Statement i := by
  have := encMem_length x m
  rw [Nat.ble_eq] at hl
  rw [Statement, h, List.length_append, List.length_append]
  omega

theorem ofRMV {rm : RM} {v : ImmV} (h : encode i = op ++ encRM x rm ++ encV v)
    (hl : Nat.ble op.length 1 = true) : Statement i := by
  have := encRM_length x rm
  have := encV_length v
  rw [Nat.ble_eq] at hl
  rw [Statement, h, List.length_append, List.length_append]
  omega

theorem ofV {v : ImmV} (h : encode i = op ++ encV v ++ tail)
    (hl : Nat.ble (op.length + tail.length) 5 = true) : Statement i := by
  have := encV_length v
  rw [Nat.ble_eq] at hl
  rw [Statement, h, List.length_append, List.length_append]
  omega

theorem movEbGb (rm : RM) (reg : RegNo) :
    Statement (.movEbGb rm reg) := ofRM (tail := []) (List.append_nil _).symm rfl
theorem movEvGv (rm : RM) (reg : RegNo) :
    Statement (.movEvGv rm reg) := ofRM (tail := []) (List.append_nil _).symm rfl
theorem movGbEb (reg : RegNo) (rm : RM) :
    Statement (.movGbEb reg rm) := ofRM (tail := []) (List.append_nil _).symm rfl
theorem movGvEv (reg : RegNo) (rm : RM) :
    Statement (.movGvEv reg rm) := ofRM (tail := []) (List.append_nil _).symm rfl
theorem movEbIb (rm : RM) (imm : Byte) : Statement (.movEbIb rm imm) := ofRM rfl rfl
theorem movEvIv (rm : RM) (imm : ImmV) : Statement (.movEvIv rm imm) := ofRMV rfl rfl
theorem movR8Ib (reg : RegNo) (imm : Byte) : Statement (.movR8Ib reg imm) := ofFixed rfl rfl
theorem movRIv (reg : RegNo) (imm : ImmV) :
    Statement (.movRIv reg imm) := ofV (tail := []) (List.append_nil _).symm rfl
theorem movAlOb (off : ImmV) : Statement (.movAlOb off) := ofV (tail := []) (List.append_nil _).symm rfl
theorem movEaxOv (off : ImmV) : Statement (.movEaxOv off) := ofV (tail := []) (List.append_nil _).symm rfl
theorem movObAl (off : ImmV) : Statement (.movObAl off) := ofV (tail := []) (List.append_nil _).symm rfl
theorem movOvEax (off : ImmV) : Statement (.movOvEax off) := ofV (tail := []) (List.append_nil _).symm rfl
theorem movSwEw (seg : SegNo) (rm : RM) :
    Statement (.movSwEw seg rm) := ofRM (tail := []) (List.append_nil _).symm rfl
theorem movEwSw (rm : RM) (seg : SegNo) :
    Statement (.movEwSw rm seg) := ofRM (tail := []) (List.append_nil _).symm rfl
theorem movzxGvEb (reg : RegNo) (rm : RM) :
    Statement (.movzxGvEb reg rm) := ofRM (tail := []) (List.append_nil _).symm rfl
theorem movzxGvEw (reg : RegNo) (rm : RM) :
    Statement (.movzxGvEw reg rm) := ofRM (tail := []) (List.append_nil _).symm rfl
theorem movsxGvEb (reg : RegNo) (rm : RM) :
    Statement (.movsxGvEb reg rm) := ofRM (tail := []) (List.append_nil _).symm rfl
theorem movsxGvEw (reg : RegNo) (rm : RM) :
    Statement (.movsxGvEw reg rm) := ofRM (tail := []) (List.append_nil _).symm rfl
theorem xchgEbGb (rm : RM) (reg : RegNo) :
    Statement (.xchgEbGb rm reg) := ofRM (tail := []) (List.append_nil _).symm rfl
theorem xchgEvGv (rm : RM) (reg : RegNo) :
    Statement (.xchgEvGv rm reg) := ofRM (tail := []) (List.append_nil _).symm rfl
theorem pushR (reg : RegNo) : Statement (.pushR reg) := ofFixed rfl rfl
theorem pushEv (rm : RM) : Statement (.pushEv rm) := ofRM (tail := []) (List.append_nil _).symm rfl
theorem pushIv (imm : ImmV) : Statement (.pushIv imm) := ofV (tail := []) (List.append_nil _).symm rfl
theorem pushIb (imm : Byte) : Statement (.pushIb imm) := ofFixed rfl rfl
theorem popR (reg : RegNo) : Statement (.popR reg) := ofFixed rfl rfl
theorem popEv (rm : RM) : Statement (.popEv rm) := ofRM (tail := []) (List.append_nil _).symm rfl
theorem leaGvM (reg : RegNo) (mem : Mem) :
    Statement (.leaGvM reg mem) := ofMem (tail := []) (List.append_nil _).symm rfl
theorem ldsGvMp (reg : RegNo) (mem : Mem) :
    Statement (.ldsGvMp reg mem) := ofMem (tail := []) (List.append_nil _).symm rfl
theorem lesGvMp (reg : RegNo) (mem : Mem) :
    Statement (.lesGvMp reg mem) := ofMem (tail := []) (List.append_nil _).symm rfl
theorem lfsGvMp (reg : RegNo) (mem : Mem) :
    Statement (.lfsGvMp reg mem) := ofMem (tail := []) (List.append_nil _).symm rfl
theorem lgsGvMp (reg : RegNo) (mem : Mem) :
    Statement (.lgsGvMp reg mem) := ofMem (tail := []) (List.append_nil _).symm rfl
theorem lssGvMp (reg : RegNo) (mem : Mem) :
    Statement (.lssGvMp reg mem) := ofMem (tail := []) (List.append_nil _).symm rfl
theorem enterIwIb (imm : Half) (imm2 : Byte) : Statement (.enterIwIb imm imm2) := ofFixed rfl rfl
theorem setccEb (cc : Cond) (rm : RM) : Statement (.setccEb cc rm) := ofRM (tail := []) (List.append_nil _).symm rfl
theorem addEbGb (rm : RM) (reg : RegNo) :
    Statement (.addEbGb rm reg) := ofRM (tail := []) (List.append_nil _).symm rfl
theorem addEvGv (rm : RM) (reg : RegNo) :
    Statement (.addEvGv rm reg) := ofRM (tail := []) (List.append_nil _).symm rfl
theorem addGbEb (reg : RegNo) (rm : RM) :
    Statement (.addGbEb reg rm) := ofRM (tail := []) (List.append_nil _).symm rfl
theorem addGvEv (reg : RegNo) (rm : RM) :
    Statement (.addGvEv reg rm) := ofRM (tail := []) (List.append_nil _).symm rfl
theorem addAlIb (imm : Byte) : Statement (.addAlIb imm) := ofFixed rfl rfl
theorem addEaxIv (imm : ImmV) : Statement (.addEaxIv imm) := ofV (tail := []) (List.append_nil _).symm rfl
theorem addEbIb (rm : RM) (imm : Byte) : Statement (.addEbIb rm imm) := ofRM rfl rfl
theorem addEvIv (rm : RM) (imm : ImmV) : Statement (.addEvIv rm imm) := ofRMV rfl rfl
theorem addEvIb (rm : RM) (imm : Byte) : Statement (.addEvIb rm imm) := ofRM rfl rfl
theorem adcEbGb (rm : RM) (reg : RegNo) :
    Statement (.adcEbGb rm reg) := ofRM (tail := []) (List.append_nil _).symm rfl
theorem adcEvGv (rm : RM) (reg : RegNo) :
    Statement (.adcEvGv rm reg) := ofRM (tail := []) (List.append_nil _).symm rfl
theorem adcGbEb (reg : RegNo) (rm : RM) :
    Statement (.adcGbEb reg rm) := ofRM (tail := []) (List.append_nil _).symm rfl
theorem adcGvEv (reg : RegNo) (rm : RM) :
    Statement (.adcGvEv reg rm) := ofRM (tail := []) (List.append_nil _).symm rfl
theorem adcAlIb (imm : Byte) : Statement (.adcAlIb imm) := ofFixed rfl rfl
theorem adcEaxIv (imm : ImmV) : Statement (.adcEaxIv imm) := ofV (tail := []) (List.append_nil _).symm rfl
theorem adcEbIb (rm : RM) (imm : Byte) : Statement (.adcEbIb rm imm) := ofRM rfl rfl
theorem adcEvIv (rm : RM) (imm : ImmV) : Statement (.adcEvIv rm imm) := ofRMV rfl rfl
theorem adcEvIb (rm : RM) (imm : Byte) : Statement (.adcEvIb rm imm) := ofRM rfl rfl
theorem subEbGb (rm : RM) (reg : RegNo) :
    Statement (.subEbGb rm reg) := ofRM (tail := []) (List.append_nil _).symm rfl
theorem subEvGv (rm : RM) (reg : RegNo) :
    Statement (.subEvGv rm reg) := ofRM (tail := []) (List.append_nil _).symm rfl
theorem subGbEb (reg : RegNo) (rm : RM) :
    Statement (.subGbEb reg rm) := ofRM (tail := []) (List.append_nil _).symm rfl
theorem subGvEv (reg : RegNo) (rm : RM) :
    Statement (.subGvEv reg rm) := ofRM (tail := []) (List.append_nil _).symm rfl
theorem subAlIb (imm : Byte) : Statement (.subAlIb imm) := ofFixed rfl rfl
theorem subEaxIv (imm : ImmV) : Statement (.subEaxIv imm) := ofV (tail := []) (List.append_nil _).symm rfl
theorem subEbIb (rm : RM) (imm : Byte) : Statement (.subEbIb rm imm) := ofRM rfl rfl
theorem subEvIv (rm : RM) (imm : ImmV) : Statement (.subEvIv rm imm) := ofRMV rfl rfl
theorem subEvIb (rm : RM) (imm : Byte) : Statement (.subEvIb rm imm) := ofRM rfl rfl
theorem sbbEbGb (rm : RM) (reg : RegNo) :
    Statement (.sbbEbGb rm reg) := ofRM (tail := []) (List.append_nil _).symm rfl
theorem sbbEvGv (rm : RM) (reg : RegNo) :
    Statement (.sbbEvGv rm reg) := ofRM (tail := []) (List.append_nil _).symm rfl
theorem sbbGbEb (reg : RegNo) (rm : RM) :
    Statement (.sbbGbEb reg rm) := ofRM (tail := []) (List.append_nil _).symm rfl
theorem sbbGvEv (reg : RegNo) (rm : RM) :
    Statement (.sbbGvEv reg rm) := ofRM (tail := []) (List.append_nil _).symm rfl
theorem sbbAlIb (imm : Byte) : Statement (.sbbAlIb imm) := ofFixed rfl rfl
theorem sbbEaxIv (imm : ImmV) : Statement (.sbbEaxIv imm) := ofV (tail := []) (List.append_nil _).symm rfl
theorem sbbEbIb (rm : RM) (imm : Byte) : Statement (.sbbEbIb rm imm) := ofRM rfl rfl
theorem sbbEvIv (rm : RM) (imm : ImmV) : Statement (.sbbEvIv rm imm) := ofRMV rfl rfl
theorem sbbEvIb (rm : RM) (imm : Byte) : Statement (.sbbEvIb rm imm) := ofRM rfl rfl
theorem cmpEbGb (rm : RM) (reg : RegNo) :
    Statement (.cmpEbGb rm reg) := ofRM (tail := []) (List.append_nil _).symm rfl
theorem cmpEvGv (rm : RM) (reg : RegNo) :
    Statement (.cmpEvGv rm reg) := ofRM (tail := []) (List.append_nil _).symm rfl
theorem cmpGbEb (reg : RegNo) (rm : RM) :
    Statement (.cmpGbEb reg rm) := ofRM (tail := []) (List.append_nil _).symm rfl
theorem cmpGvEv (reg : RegNo) (rm : RM) :
    Statement (.cmpGvEv reg rm) := ofRM (tail := []) (List.append_nil _).symm rfl
theorem cmpAlIb (imm : Byte) : Statement (.cmpAlIb imm) := ofFixed rfl rfl
theorem cmpEaxIv (imm : ImmV) : Statement (.cmpEaxIv imm) := ofV (tail := []) (List.append_nil _).symm rfl
theorem cmpEbIb (rm : RM) (imm : Byte) : Statement (.cmpEbIb rm imm) := ofRM rfl rfl
theorem cmpEvIv (rm : RM) (imm : ImmV) : Statement (.cmpEvIv rm imm) := ofRMV rfl rfl
theorem cmpEvIb (rm : RM) (imm : Byte) : Statement (.cmpEvIb rm imm) := ofRM rfl rfl
theorem incEb (rm : RM) : Statement (.incEb rm) := ofRM (tail := []) (List.append_nil _).symm rfl
theorem incEv (rm : RM) : Statement (.incEv rm) := ofRM (tail := []) (List.append_nil _).symm rfl
theorem decEb (rm : RM) : Statement (.decEb rm) := ofRM (tail := []) (List.append_nil _).symm rfl
theorem decEv (rm : RM) : Statement (.decEv rm) := ofRM (tail := []) (List.append_nil _).symm rfl
theorem notEb (rm : RM) : Statement (.notEb rm) := ofRM (tail := []) (List.append_nil _).symm rfl
theorem notEv (rm : RM) : Statement (.notEv rm) := ofRM (tail := []) (List.append_nil _).symm rfl
theorem negEb (rm : RM) : Statement (.negEb rm) := ofRM (tail := []) (List.append_nil _).symm rfl
theorem negEv (rm : RM) : Statement (.negEv rm) := ofRM (tail := []) (List.append_nil _).symm rfl
theorem mulEb (rm : RM) : Statement (.mulEb rm) := ofRM (tail := []) (List.append_nil _).symm rfl
theorem mulEv (rm : RM) : Statement (.mulEv rm) := ofRM (tail := []) (List.append_nil _).symm rfl
theorem imulEb (rm : RM) : Statement (.imulEb rm) := ofRM (tail := []) (List.append_nil _).symm rfl
theorem imulEv (rm : RM) : Statement (.imulEv rm) := ofRM (tail := []) (List.append_nil _).symm rfl
theorem divEb (rm : RM) : Statement (.divEb rm) := ofRM (tail := []) (List.append_nil _).symm rfl
theorem divEv (rm : RM) : Statement (.divEv rm) := ofRM (tail := []) (List.append_nil _).symm rfl
theorem idivEb (rm : RM) : Statement (.idivEb rm) := ofRM (tail := []) (List.append_nil _).symm rfl
theorem idivEv (rm : RM) : Statement (.idivEv rm) := ofRM (tail := []) (List.append_nil _).symm rfl
theorem imulGvEv (reg : RegNo) (rm : RM) :
    Statement (.imulGvEv reg rm) := ofRM (tail := []) (List.append_nil _).symm rfl
theorem imulGvEvIv (reg : RegNo) (rm : RM) (imm : ImmV) : Statement (.imulGvEvIv reg rm imm) := ofRMV rfl rfl
theorem imulGvEvIb (reg : RegNo) (rm : RM) (imm : Byte) : Statement (.imulGvEvIb reg rm imm) := ofRM rfl rfl
theorem andEbGb (rm : RM) (reg : RegNo) :
    Statement (.andEbGb rm reg) := ofRM (tail := []) (List.append_nil _).symm rfl
theorem andEvGv (rm : RM) (reg : RegNo) :
    Statement (.andEvGv rm reg) := ofRM (tail := []) (List.append_nil _).symm rfl
theorem andGbEb (reg : RegNo) (rm : RM) :
    Statement (.andGbEb reg rm) := ofRM (tail := []) (List.append_nil _).symm rfl
theorem andGvEv (reg : RegNo) (rm : RM) :
    Statement (.andGvEv reg rm) := ofRM (tail := []) (List.append_nil _).symm rfl
theorem andAlIb (imm : Byte) : Statement (.andAlIb imm) := ofFixed rfl rfl
theorem andEaxIv (imm : ImmV) : Statement (.andEaxIv imm) := ofV (tail := []) (List.append_nil _).symm rfl
theorem andEbIb (rm : RM) (imm : Byte) : Statement (.andEbIb rm imm) := ofRM rfl rfl
theorem andEvIv (rm : RM) (imm : ImmV) : Statement (.andEvIv rm imm) := ofRMV rfl rfl
theorem andEvIb (rm : RM) (imm : Byte) : Statement (.andEvIb rm imm) := ofRM rfl rfl
theorem orEbGb (rm : RM) (reg : RegNo) : Statement (.orEbGb rm reg) := ofRM (tail := []) (List.append_nil _).symm rfl
theorem orEvGv (rm : RM) (reg : RegNo) : Statement (.orEvGv rm reg) := ofRM (tail := []) (List.append_nil _).symm rfl
theorem orGbEb (reg : RegNo) (rm : RM) : Statement (.orGbEb reg rm) := ofRM (tail := []) (List.append_nil _).symm rfl
theorem orGvEv (reg : RegNo) (rm : RM) : Statement (.orGvEv reg rm) := ofRM (tail := []) (List.append_nil _).symm rfl
theorem orAlIb (imm : Byte) : Statement (.orAlIb imm) := ofFixed rfl rfl
theorem orEaxIv (imm : ImmV) : Statement (.orEaxIv imm) := ofV (tail := []) (List.append_nil _).symm rfl
theorem orEbIb (rm : RM) (imm : Byte) : Statement (.orEbIb rm imm) := ofRM rfl rfl
theorem orEvIv (rm : RM) (imm : ImmV) : Statement (.orEvIv rm imm) := ofRMV rfl rfl
theorem orEvIb (rm : RM) (imm : Byte) : Statement (.orEvIb rm imm) := ofRM rfl rfl
theorem xorEbGb (rm : RM) (reg : RegNo) :
    Statement (.xorEbGb rm reg) := ofRM (tail := []) (List.append_nil _).symm rfl
theorem xorEvGv (rm : RM) (reg : RegNo) :
    Statement (.xorEvGv rm reg) := ofRM (tail := []) (List.append_nil _).symm rfl
theorem xorGbEb (reg : RegNo) (rm : RM) :
    Statement (.xorGbEb reg rm) := ofRM (tail := []) (List.append_nil _).symm rfl
theorem xorGvEv (reg : RegNo) (rm : RM) :
    Statement (.xorGvEv reg rm) := ofRM (tail := []) (List.append_nil _).symm rfl
theorem xorAlIb (imm : Byte) : Statement (.xorAlIb imm) := ofFixed rfl rfl
theorem xorEaxIv (imm : ImmV) : Statement (.xorEaxIv imm) := ofV (tail := []) (List.append_nil _).symm rfl
theorem xorEbIb (rm : RM) (imm : Byte) : Statement (.xorEbIb rm imm) := ofRM rfl rfl
theorem xorEvIv (rm : RM) (imm : ImmV) : Statement (.xorEvIv rm imm) := ofRMV rfl rfl
theorem xorEvIb (rm : RM) (imm : Byte) : Statement (.xorEvIb rm imm) := ofRM rfl rfl
theorem testEbGb (rm : RM) (reg : RegNo) :
    Statement (.testEbGb rm reg) := ofRM (tail := []) (List.append_nil _).symm rfl
theorem testEvGv (rm : RM) (reg : RegNo) :
    Statement (.testEvGv rm reg) := ofRM (tail := []) (List.append_nil _).symm rfl
theorem testAlIb (imm : Byte) : Statement (.testAlIb imm) := ofFixed rfl rfl
theorem testEaxIv (imm : ImmV) : Statement (.testEaxIv imm) := ofV (tail := []) (List.append_nil _).symm rfl
theorem testEbIb (rm : RM) (imm : Byte) : Statement (.testEbIb rm imm) := ofRM rfl rfl
theorem testEvIv (rm : RM) (imm : ImmV) : Statement (.testEvIv rm imm) := ofRMV rfl rfl
theorem rolEb1 (rm : RM) : Statement (.rolEb1 rm) := ofRM (tail := []) (List.append_nil _).symm rfl
theorem rolEv1 (rm : RM) : Statement (.rolEv1 rm) := ofRM (tail := []) (List.append_nil _).symm rfl
theorem rolEbCl (rm : RM) : Statement (.rolEbCl rm) := ofRM (tail := []) (List.append_nil _).symm rfl
theorem rolEvCl (rm : RM) : Statement (.rolEvCl rm) := ofRM (tail := []) (List.append_nil _).symm rfl
theorem rolEbIb (rm : RM) (imm : Byte) : Statement (.rolEbIb rm imm) := ofRM rfl rfl
theorem rolEvIb (rm : RM) (imm : Byte) : Statement (.rolEvIb rm imm) := ofRM rfl rfl
theorem rorEb1 (rm : RM) : Statement (.rorEb1 rm) := ofRM (tail := []) (List.append_nil _).symm rfl
theorem rorEv1 (rm : RM) : Statement (.rorEv1 rm) := ofRM (tail := []) (List.append_nil _).symm rfl
theorem rorEbCl (rm : RM) : Statement (.rorEbCl rm) := ofRM (tail := []) (List.append_nil _).symm rfl
theorem rorEvCl (rm : RM) : Statement (.rorEvCl rm) := ofRM (tail := []) (List.append_nil _).symm rfl
theorem rorEbIb (rm : RM) (imm : Byte) : Statement (.rorEbIb rm imm) := ofRM rfl rfl
theorem rorEvIb (rm : RM) (imm : Byte) : Statement (.rorEvIb rm imm) := ofRM rfl rfl
theorem rclEb1 (rm : RM) : Statement (.rclEb1 rm) := ofRM (tail := []) (List.append_nil _).symm rfl
theorem rclEv1 (rm : RM) : Statement (.rclEv1 rm) := ofRM (tail := []) (List.append_nil _).symm rfl
theorem rclEbCl (rm : RM) : Statement (.rclEbCl rm) := ofRM (tail := []) (List.append_nil _).symm rfl
theorem rclEvCl (rm : RM) : Statement (.rclEvCl rm) := ofRM (tail := []) (List.append_nil _).symm rfl
theorem rclEbIb (rm : RM) (imm : Byte) : Statement (.rclEbIb rm imm) := ofRM rfl rfl
theorem rclEvIb (rm : RM) (imm : Byte) : Statement (.rclEvIb rm imm) := ofRM rfl rfl
theorem rcrEb1 (rm : RM) : Statement (.rcrEb1 rm) := ofRM (tail := []) (List.append_nil _).symm rfl
theorem rcrEv1 (rm : RM) : Statement (.rcrEv1 rm) := ofRM (tail := []) (List.append_nil _).symm rfl
theorem rcrEbCl (rm : RM) : Statement (.rcrEbCl rm) := ofRM (tail := []) (List.append_nil _).symm rfl
theorem rcrEvCl (rm : RM) : Statement (.rcrEvCl rm) := ofRM (tail := []) (List.append_nil _).symm rfl
theorem rcrEbIb (rm : RM) (imm : Byte) : Statement (.rcrEbIb rm imm) := ofRM rfl rfl
theorem rcrEvIb (rm : RM) (imm : Byte) : Statement (.rcrEvIb rm imm) := ofRM rfl rfl
theorem shlEb1 (rm : RM) : Statement (.shlEb1 rm) := ofRM (tail := []) (List.append_nil _).symm rfl
theorem shlEv1 (rm : RM) : Statement (.shlEv1 rm) := ofRM (tail := []) (List.append_nil _).symm rfl
theorem shlEbCl (rm : RM) : Statement (.shlEbCl rm) := ofRM (tail := []) (List.append_nil _).symm rfl
theorem shlEvCl (rm : RM) : Statement (.shlEvCl rm) := ofRM (tail := []) (List.append_nil _).symm rfl
theorem shlEbIb (rm : RM) (imm : Byte) : Statement (.shlEbIb rm imm) := ofRM rfl rfl
theorem shlEvIb (rm : RM) (imm : Byte) : Statement (.shlEvIb rm imm) := ofRM rfl rfl
theorem shrEb1 (rm : RM) : Statement (.shrEb1 rm) := ofRM (tail := []) (List.append_nil _).symm rfl
theorem shrEv1 (rm : RM) : Statement (.shrEv1 rm) := ofRM (tail := []) (List.append_nil _).symm rfl
theorem shrEbCl (rm : RM) : Statement (.shrEbCl rm) := ofRM (tail := []) (List.append_nil _).symm rfl
theorem shrEvCl (rm : RM) : Statement (.shrEvCl rm) := ofRM (tail := []) (List.append_nil _).symm rfl
theorem shrEbIb (rm : RM) (imm : Byte) : Statement (.shrEbIb rm imm) := ofRM rfl rfl
theorem shrEvIb (rm : RM) (imm : Byte) : Statement (.shrEvIb rm imm) := ofRM rfl rfl
theorem sarEb1 (rm : RM) : Statement (.sarEb1 rm) := ofRM (tail := []) (List.append_nil _).symm rfl
theorem sarEv1 (rm : RM) : Statement (.sarEv1 rm) := ofRM (tail := []) (List.append_nil _).symm rfl
theorem sarEbCl (rm : RM) : Statement (.sarEbCl rm) := ofRM (tail := []) (List.append_nil _).symm rfl
theorem sarEvCl (rm : RM) : Statement (.sarEvCl rm) := ofRM (tail := []) (List.append_nil _).symm rfl
theorem sarEbIb (rm : RM) (imm : Byte) : Statement (.sarEbIb rm imm) := ofRM rfl rfl
theorem sarEvIb (rm : RM) (imm : Byte) : Statement (.sarEvIb rm imm) := ofRM rfl rfl
theorem shldEvGvIb (rm : RM) (reg : RegNo) (imm : Byte) : Statement (.shldEvGvIb rm reg imm) := ofRM rfl rfl
theorem shldEvGvCl (rm : RM) (reg : RegNo) :
    Statement (.shldEvGvCl rm reg) := ofRM (tail := []) (List.append_nil _).symm rfl
theorem shrdEvGvIb (rm : RM) (reg : RegNo) (imm : Byte) : Statement (.shrdEvGvIb rm reg imm) := ofRM rfl rfl
theorem shrdEvGvCl (rm : RM) (reg : RegNo) :
    Statement (.shrdEvGvCl rm reg) := ofRM (tail := []) (List.append_nil _).symm rfl
theorem btEvGv (rm : RM) (reg : RegNo) : Statement (.btEvGv rm reg) := ofRM (tail := []) (List.append_nil _).symm rfl
theorem btEvIb (rm : RM) (imm : Byte) : Statement (.btEvIb rm imm) := ofRM rfl rfl
theorem btsEvGv (rm : RM) (reg : RegNo) :
    Statement (.btsEvGv rm reg) := ofRM (tail := []) (List.append_nil _).symm rfl
theorem btsEvIb (rm : RM) (imm : Byte) : Statement (.btsEvIb rm imm) := ofRM rfl rfl
theorem btrEvGv (rm : RM) (reg : RegNo) :
    Statement (.btrEvGv rm reg) := ofRM (tail := []) (List.append_nil _).symm rfl
theorem btrEvIb (rm : RM) (imm : Byte) : Statement (.btrEvIb rm imm) := ofRM rfl rfl
theorem btcEvGv (rm : RM) (reg : RegNo) :
    Statement (.btcEvGv rm reg) := ofRM (tail := []) (List.append_nil _).symm rfl
theorem btcEvIb (rm : RM) (imm : Byte) : Statement (.btcEvIb rm imm) := ofRM rfl rfl
theorem bsfGvEv (reg : RegNo) (rm : RM) :
    Statement (.bsfGvEv reg rm) := ofRM (tail := []) (List.append_nil _).symm rfl
theorem bsrGvEv (reg : RegNo) (rm : RM) :
    Statement (.bsrGvEv reg rm) := ofRM (tail := []) (List.append_nil _).symm rfl
theorem aamIb (imm : Byte) : Statement (.aamIb imm) := ofFixed rfl rfl
theorem aadIb (imm : Byte) : Statement (.aadIb imm) := ofFixed rfl rfl
theorem boundGvMa (reg : RegNo) (mem : Mem) :
    Statement (.boundGvMa reg mem) := ofMem (tail := []) (List.append_nil _).symm rfl
theorem jmpJb (rel : Byte) : Statement (.jmpJb rel) := ofFixed rfl rfl
theorem jmpJv (rel : ImmV) : Statement (.jmpJv rel) := ofV (tail := []) (List.append_nil _).symm rfl
theorem jmpEv (rm : RM) : Statement (.jmpEv rm) := ofRM (tail := []) (List.append_nil _).symm rfl
theorem jccJb (cc : Cond) (rel : Byte) : Statement (.jccJb cc rel) := ofFixed rfl rfl
theorem jccJv (cc : Cond) (rel : ImmV) : Statement (.jccJv cc rel) := ofV (tail := []) (List.append_nil _).symm rfl
theorem jcxzJb (rel : Byte) : Statement (.jcxzJb rel) := ofFixed rfl rfl
theorem loopJb (rel : Byte) : Statement (.loopJb rel) := ofFixed rfl rfl
theorem loopeJb (rel : Byte) : Statement (.loopeJb rel) := ofFixed rfl rfl
theorem loopneJb (rel : Byte) : Statement (.loopneJb rel) := ofFixed rfl rfl
theorem callJv (rel : ImmV) : Statement (.callJv rel) := ofV (tail := []) (List.append_nil _).symm rfl
theorem callEv (rm : RM) : Statement (.callEv rm) := ofRM (tail := []) (List.append_nil _).symm rfl
theorem retIw (imm : Half) : Statement (.retIw imm) := ofFixed rfl rfl
theorem jmpFarAp (off : ImmV) (sel : Half) : Statement (.jmpFarAp off sel) := ofV rfl rfl
theorem jmpFarMp (mem : Mem) : Statement (.jmpFarMp mem) := ofMem (tail := []) (List.append_nil _).symm rfl
theorem callFarAp (off : ImmV) (sel : Half) : Statement (.callFarAp off sel) := ofV rfl rfl
theorem callFarMp (mem : Mem) : Statement (.callFarMp mem) := ofMem (tail := []) (List.append_nil _).symm rfl
theorem retfIw (imm : Half) : Statement (.retfIw imm) := ofFixed rfl rfl
theorem intIb (imm : Byte) : Statement (.intIb imm) := ofFixed rfl rfl
theorem inAlIb (imm : Byte) : Statement (.inAlIb imm) := ofFixed rfl rfl
theorem inEaxIb (imm : Byte) : Statement (.inEaxIb imm) := ofFixed rfl rfl
theorem outIbAl (imm : Byte) : Statement (.outIbAl imm) := ofFixed rfl rfl
theorem outIbEax (imm : Byte) : Statement (.outIbEax imm) := ofFixed rfl rfl
theorem sgdtMs (mem : Mem) : Statement (.sgdtMs mem) := ofMem (tail := []) (List.append_nil _).symm rfl
theorem sidtMs (mem : Mem) : Statement (.sidtMs mem) := ofMem (tail := []) (List.append_nil _).symm rfl
theorem lgdtMs (mem : Mem) : Statement (.lgdtMs mem) := ofMem (tail := []) (List.append_nil _).symm rfl
theorem lidtMs (mem : Mem) : Statement (.lidtMs mem) := ofMem (tail := []) (List.append_nil _).symm rfl
theorem smswEw (rm : RM) : Statement (.smswEw rm) := ofRM (tail := []) (List.append_nil _).symm rfl
theorem lmswEw (rm : RM) : Statement (.lmswEw rm) := ofRM (tail := []) (List.append_nil _).symm rfl
theorem sldtEw (rm : RM) : Statement (.sldtEw rm) := ofRM (tail := []) (List.append_nil _).symm rfl
theorem strEw (rm : RM) : Statement (.strEw rm) := ofRM (tail := []) (List.append_nil _).symm rfl
theorem lldtEw (rm : RM) : Statement (.lldtEw rm) := ofRM (tail := []) (List.append_nil _).symm rfl
theorem ltrEw (rm : RM) : Statement (.ltrEw rm) := ofRM (tail := []) (List.append_nil _).symm rfl
theorem verrEw (rm : RM) : Statement (.verrEw rm) := ofRM (tail := []) (List.append_nil _).symm rfl
theorem verwEw (rm : RM) : Statement (.verwEw rm) := ofRM (tail := []) (List.append_nil _).symm rfl
theorem larGvEw (reg : RegNo) (rm : RM) :
    Statement (.larGvEw reg rm) := ofRM (tail := []) (List.append_nil _).symm rfl
theorem lslGvEw (reg : RegNo) (rm : RM) :
    Statement (.lslGvEw reg rm) := ofRM (tail := []) (List.append_nil _).symm rfl
theorem movRdCd (reg : RegNo) (cr : CrNo) :
    Statement (.movRdCd reg cr) := ofRM (tail := []) (List.append_nil _).symm rfl
theorem movCdRd (cr : CrNo) (reg : RegNo) :
    Statement (.movCdRd cr reg) := ofRM (tail := []) (List.append_nil _).symm rfl
theorem movRdDd (reg : RegNo) (dr : DrNo) :
    Statement (.movRdDd reg dr) := ofRM (tail := []) (List.append_nil _).symm rfl
theorem movDdRd (dr : DrNo) (reg : RegNo) :
    Statement (.movDdRd dr reg) := ofRM (tail := []) (List.append_nil _).symm rfl
theorem movRdTd (reg : RegNo) (tr : TrNo) :
    Statement (.movRdTd reg tr) := ofRM (tail := []) (List.append_nil _).symm rfl
theorem movTdRd (tr : TrNo) (reg : RegNo) :
    Statement (.movTdRd tr reg) := ofRM (tail := []) (List.append_nil _).symm rfl
theorem arplEwGw (rm : RM) (reg : RegNo) :
    Statement (.arplEwGw rm reg) := ofRM (tail := []) (List.append_nil _).symm rfl
theorem esc (op : BitVec 3) (ext : BitVec 3) (rm : RM) :
    Statement (.esc op ext rm) := ofRM (tail := []) (List.append_nil _).symm rfl
theorem fnstswM (mem : Mem) : Statement (.fnstswM mem) := ofMem (tail := []) (List.append_nil _).symm rfl
theorem fnstcwM (mem : Mem) : Statement (.fnstcwM mem) := ofMem (tail := []) (List.append_nil _).symm rfl
theorem fsaveM (mem : Mem) : Statement (.fsaveM mem) := ofMem (tail := []) (List.append_nil _).symm rfl
theorem frstorM (mem : Mem) : Statement (.frstorM mem) := ofMem (tail := []) (List.append_nil _).symm rfl
theorem fstenvM (mem : Mem) : Statement (.fstenvM mem) := ofMem (tail := []) (List.append_nil _).symm rfl
theorem fldcwM (mem : Mem) : Statement (.fldcwM mem) := ofMem (tail := []) (List.append_nil _).symm rfl
theorem faddM32 (mem : Mem) : Statement (.faddM32 mem) := ofMem (tail := []) (List.append_nil _).symm rfl
theorem faddM64 (mem : Mem) : Statement (.faddM64 mem) := ofMem (tail := []) (List.append_nil _).symm rfl
theorem fmulM32 (mem : Mem) : Statement (.fmulM32 mem) := ofMem (tail := []) (List.append_nil _).symm rfl
theorem fmulM64 (mem : Mem) : Statement (.fmulM64 mem) := ofMem (tail := []) (List.append_nil _).symm rfl
theorem xchgEaxEcx : Statement .xchgEaxEcx := ofFixed rfl rfl
theorem xchgEaxEdx : Statement .xchgEaxEdx := ofFixed rfl rfl
theorem xchgEaxEbx : Statement .xchgEaxEbx := ofFixed rfl rfl
theorem xchgEaxEsp : Statement .xchgEaxEsp := ofFixed rfl rfl
theorem xchgEaxEbp : Statement .xchgEaxEbp := ofFixed rfl rfl
theorem xchgEaxEsi : Statement .xchgEaxEsi := ofFixed rfl rfl
theorem xchgEaxEdi : Statement .xchgEaxEdi := ofFixed rfl rfl
theorem pushEs : Statement .pushEs := ofFixed rfl rfl
theorem pushCs : Statement .pushCs := ofFixed rfl rfl
theorem pushSs : Statement .pushSs := ofFixed rfl rfl
theorem pushDs : Statement .pushDs := ofFixed rfl rfl
theorem pushFs : Statement .pushFs := ofFixed rfl rfl
theorem pushGs : Statement .pushGs := ofFixed rfl rfl
theorem popEs : Statement .popEs := ofFixed rfl rfl
theorem popSs : Statement .popSs := ofFixed rfl rfl
theorem popDs : Statement .popDs := ofFixed rfl rfl
theorem popFs : Statement .popFs := ofFixed rfl rfl
theorem popGs : Statement .popGs := ofFixed rfl rfl
theorem pusha : Statement .pusha := ofFixed rfl rfl
theorem popa : Statement .popa := ofFixed rfl rfl
theorem xlat : Statement .xlat := ofFixed rfl rfl
theorem cbw : Statement .cbw := ofFixed rfl rfl
theorem cwd : Statement .cwd := ofFixed rfl rfl
theorem lahf : Statement .lahf := ofFixed rfl rfl
theorem sahf : Statement .sahf := ofFixed rfl rfl
theorem leave : Statement .leave := ofFixed rfl rfl
theorem nop : Statement .nop := ofFixed rfl rfl
theorem incEax : Statement .incEax := ofFixed rfl rfl
theorem incEcx : Statement .incEcx := ofFixed rfl rfl
theorem incEdx : Statement .incEdx := ofFixed rfl rfl
theorem incEbx : Statement .incEbx := ofFixed rfl rfl
theorem incEsp : Statement .incEsp := ofFixed rfl rfl
theorem incEbp : Statement .incEbp := ofFixed rfl rfl
theorem incEsi : Statement .incEsi := ofFixed rfl rfl
theorem incEdi : Statement .incEdi := ofFixed rfl rfl
theorem decEax : Statement .decEax := ofFixed rfl rfl
theorem decEcx : Statement .decEcx := ofFixed rfl rfl
theorem decEdx : Statement .decEdx := ofFixed rfl rfl
theorem decEbx : Statement .decEbx := ofFixed rfl rfl
theorem decEsp : Statement .decEsp := ofFixed rfl rfl
theorem decEbp : Statement .decEbp := ofFixed rfl rfl
theorem decEsi : Statement .decEsi := ofFixed rfl rfl
theorem decEdi : Statement .decEdi := ofFixed rfl rfl
theorem daa : Statement .daa := ofFixed rfl rfl
theorem das : Statement .das := ofFixed rfl rfl
theorem aaa : Statement .aaa := ofFixed rfl rfl
theorem aas : Statement .aas := ofFixed rfl rfl
theorem ret : Statement .ret := ofFixed rfl rfl
theorem retf : Statement .retf := ofFixed rfl rfl
theorem int3 : Statement .int3 := ofFixed rfl rfl
theorem into : Statement .into := ofFixed rfl rfl
theorem iret : Statement .iret := ofFixed rfl rfl
theorem movsb : Statement .movsb := ofFixed rfl rfl
theorem movsv : Statement .movsv := ofFixed rfl rfl
theorem cmpsb : Statement .cmpsb := ofFixed rfl rfl
theorem cmpsv : Statement .cmpsv := ofFixed rfl rfl
theorem stosb : Statement .stosb := ofFixed rfl rfl
theorem stosv : Statement .stosv := ofFixed rfl rfl
theorem lodsb : Statement .lodsb := ofFixed rfl rfl
theorem lodsv : Statement .lodsv := ofFixed rfl rfl
theorem scasb : Statement .scasb := ofFixed rfl rfl
theorem scasv : Statement .scasv := ofFixed rfl rfl
theorem insb : Statement .insb := ofFixed rfl rfl
theorem insv : Statement .insv := ofFixed rfl rfl
theorem outsb : Statement .outsb := ofFixed rfl rfl
theorem outsv : Statement .outsv := ofFixed rfl rfl
theorem repPrefix : Statement .repPrefix := ofFixed rfl rfl
theorem repnePrefix : Statement .repnePrefix := ofFixed rfl rfl
theorem inAlDx : Statement .inAlDx := ofFixed rfl rfl
theorem inEaxDx : Statement .inEaxDx := ofFixed rfl rfl
theorem outDxAl : Statement .outDxAl := ofFixed rfl rfl
theorem outDxEax : Statement .outDxEax := ofFixed rfl rfl
theorem clc : Statement .clc := ofFixed rfl rfl
theorem stc : Statement .stc := ofFixed rfl rfl
theorem cmc : Statement .cmc := ofFixed rfl rfl
theorem cld : Statement .cld := ofFixed rfl rfl
theorem std : Statement .std := ofFixed rfl rfl
theorem cli : Statement .cli := ofFixed rfl rfl
theorem sti : Statement .sti := ofFixed rfl rfl
theorem pushf : Statement .pushf := ofFixed rfl rfl
theorem popf : Statement .popf := ofFixed rfl rfl
theorem clts : Statement .clts := ofFixed rfl rfl
theorem hlt : Statement .hlt := ofFixed rfl rfl
theorem wait : Statement .wait := ofFixed rfl rfl
theorem fninit : Statement .fninit := ofFixed rfl rfl
theorem fld1 : Statement .fld1 := ofFixed rfl rfl
theorem fldz : Statement .fldz := ofFixed rfl rfl
theorem fdivp : Statement .fdivp := ofFixed rfl rfl
theorem fldSt0 : Statement .fldSt0 := ofFixed rfl rfl
theorem fchs : Statement .fchs := ofFixed rfl rfl
theorem fcompp : Statement .fcompp := ofFixed rfl rfl
theorem fsetpm : Statement .fsetpm := ofFixed rfl rfl
theorem fnstswAx : Statement .fnstswAx := ofFixed rfl rfl
theorem fnclex : Statement .fnclex := ofFixed rfl rfl
theorem fsqrt : Statement .fsqrt := ofFixed rfl rfl
theorem opSizePrefix : Statement .opSizePrefix := ofFixed rfl rfl
theorem addrSizePrefix : Statement .addrSizePrefix := ofFixed rfl rfl
theorem lockPrefix : Statement .lockPrefix := ofFixed rfl rfl
theorem esPrefix : Statement .esPrefix := ofFixed rfl rfl
theorem csPrefix : Statement .csPrefix := ofFixed rfl rfl
theorem ssPrefix : Statement .ssPrefix := ofFixed rfl rfl
theorem dsPrefix : Statement .dsPrefix := ofFixed rfl rfl
theorem fsPrefix : Statement .fsPrefix := ofFixed rfl rfl
theorem gsPrefix : Statement .gsPrefix := ofFixed rfl rfl
theorem faddStSt0 : Statement .faddStSt0 := ofFixed rfl rfl
theorem faddStSt1 : Statement .faddStSt1 := ofFixed rfl rfl
theorem faddStSt2 : Statement .faddStSt2 := ofFixed rfl rfl
theorem faddStSt3 : Statement .faddStSt3 := ofFixed rfl rfl
theorem faddStSt4 : Statement .faddStSt4 := ofFixed rfl rfl
theorem faddStSt5 : Statement .faddStSt5 := ofFixed rfl rfl
theorem faddStSt6 : Statement .faddStSt6 := ofFixed rfl rfl
theorem faddStSt7 : Statement .faddStSt7 := ofFixed rfl rfl
theorem faddSt0St : Statement .faddSt0St := ofFixed rfl rfl
theorem faddSt1St : Statement .faddSt1St := ofFixed rfl rfl
theorem faddSt2St : Statement .faddSt2St := ofFixed rfl rfl
theorem faddSt3St : Statement .faddSt3St := ofFixed rfl rfl
theorem faddSt4St : Statement .faddSt4St := ofFixed rfl rfl
theorem faddSt5St : Statement .faddSt5St := ofFixed rfl rfl
theorem faddSt6St : Statement .faddSt6St := ofFixed rfl rfl
theorem faddSt7St : Statement .faddSt7St := ofFixed rfl rfl
theorem fmulStSt0 : Statement .fmulStSt0 := ofFixed rfl rfl
theorem fmulStSt1 : Statement .fmulStSt1 := ofFixed rfl rfl
theorem fmulStSt2 : Statement .fmulStSt2 := ofFixed rfl rfl
theorem fmulStSt3 : Statement .fmulStSt3 := ofFixed rfl rfl
theorem fmulStSt4 : Statement .fmulStSt4 := ofFixed rfl rfl
theorem fmulStSt5 : Statement .fmulStSt5 := ofFixed rfl rfl
theorem fmulStSt6 : Statement .fmulStSt6 := ofFixed rfl rfl
theorem fmulStSt7 : Statement .fmulStSt7 := ofFixed rfl rfl
theorem fmulSt0St : Statement .fmulSt0St := ofFixed rfl rfl
theorem fmulSt1St : Statement .fmulSt1St := ofFixed rfl rfl
theorem fmulSt2St : Statement .fmulSt2St := ofFixed rfl rfl
theorem fmulSt3St : Statement .fmulSt3St := ofFixed rfl rfl
theorem fmulSt4St : Statement .fmulSt4St := ofFixed rfl rfl
theorem fmulSt5St : Statement .fmulSt5St := ofFixed rfl rfl
theorem fmulSt6St : Statement .fmulSt6St := ofFixed rfl rfl
theorem fmulSt7St : Statement .fmulSt7St := ofFixed rfl rfl

end Sys2Proof.Laws.EncodingLength
end

