-- ==== Sys2Proof/Tests/Slice0.lean ====
section
/-! SUPPORT. Tests: what the checks of `wf` refuse, words decoded, worked examples of the spec, and, for every
obligation with hypotheses, states and operands that meet them. -/

-- The tests are elaborated one after the other: hundreds at a time need more threads than memory allows.
set_option Elab.async false

namespace Sys2Proof.Tests

open Sys2Proof Sys2Proof.Machine Sys2Proof.Claims

/-! ### Ill-formed terms -/

def z16 : Sizes := { op32 := false, ad32 := false }
def z32 : Sizes := { op32 := true, ad32 := true }

/-- A load from `m`, well-formed but for `m`. -/
def loads (m : Mem) : Instr := .movGbEb .eax (.mem m)

theorem test_wf_16_bit_address_needs_16_bit_size : (loads (.ind16 .bx .none)).wf z32 = false := by decide
theorem test_wf_bp_needs_displacement : (loads (.ind16 .bp .none)).wf z16 = false := by decide
theorem test_wf_16_bit_direct_needs_16_bit_size : (loads (.dir16 0#16)).wf z32 = false := by decide
theorem test_wf_32_bit_address_needs_32_bit_size : (loads (.ind32 .ebx .none)).wf z16 = false := by decide
theorem test_wf_esp_base_needs_sib : (loads (.ind32 .esp .none)).wf z32 = false := by decide
theorem test_wf_ebp_needs_displacement : (loads (.ind32 .ebp .none)).wf z32 = false := by decide
theorem test_wf_32_bit_direct_needs_32_bit_size : (loads (.dir32 0#32)).wf z16 = false := by decide
theorem test_wf_sib_needs_32_bit_size : (loads (.sib 0#2 .eax .ebx .none)).wf z16 = false := by decide
theorem test_wf_sib_ebp_needs_displacement : (loads (.sib 0#2 .eax .ebp .none)).wf z32 = false := by decide
theorem test_wf_sib_displacement_needs_32_bit_size : (loads (.sibDisp 0#2 .eax 0#32)).wf z16 = false := by decide
theorem test_wf_immediate_has_operand_size :
    (Instr.movRIv .eax (.v16 0#16)).wf z32 = false ∧ (Instr.movRIv .eax (.v32 0#32)).wf z16 = false := by decide
theorem test_wf_offset_has_address_size :
    (Instr.movAlOb (.v16 0#16)).wf z32 = false ∧ (Instr.movAlOb (.v32 0#32)).wf z16 = false := by decide
theorem test_wf_mov_to_cs : (Instr.movSwEw .cs (.reg .eax)).wf z16 = false := by decide
theorem test_wf_esc_of_a_named_operation :
    (Instr.esc 0#3 0#3 (.mem (.ind16 .bx .none))).wf z16 = false ∧ (Instr.esc 1#3 5#3 (.reg .eax)).wf z16 = false := by
  decide

/-- 45 R690: with mod = 3, DD /4, /6, /7 and D9 /6 are ESC operations without a memory operand. -/
theorem test_decode_esc_register_forms :
    ([([0xDD, 0xE0], Instr.esc 5#3 4#3 (.reg .eax)), ([0xDD, 0xF7], .esc 5#3 6#3 (.reg .edi)),
      ([0xDD, 0xFA], .esc 5#3 7#3 (.reg .edx)), ([0xD9, 0xF0], .esc 1#3 6#3 (.reg .eax))].all fun row =>
      match decode z16 (row.1.map (BitVec.ofNat 8)) with
      | .ok (i, rest) => i == row.2 && i.wf z16 && rest.isEmpty
      | .error _ => false) = true := by decide

/-! ### Words, from the encodings of the opcode table -/

/-- Each word decodes to its instruction, with no byte left over. -/
abbrev Decodes (l : List (Sizes × List Nat × Instr)) : Prop :=
  (l.all fun e =>
    match decode e.1 (e.2.1.map (BitVec.ofNat 8)) with
    | .ok (i, rest) => i == e.2.2 && rest.isEmpty
    | .error _ => false) = true

theorem test_decode_data_movement_1 : Decodes [
    (z16, [0x88, 0xD1], .movEbGb (.reg .ecx) .edx),
    (z16, [0x89, 0x78, 0x10], .movEvGv (.mem (.ind16 .bxSi (.d8 0x10#8))) .edi),
    (z32, [0x8A, 0x64, 0x8B, 0x7F], .movGbEb .esp (.mem (.sib 2#2 .ecx .ebx (.d8 0x7F#8)))),
    (z16, [0x8B, 0xCA], .movGvEv .ecx (.reg .edx)),
    (z16, [0xC6, 0x40, 0x10, 0xF3], .movEbIb (.mem (.ind16 .bxSi (.d8 0x10#8))) 0xF3#8),
    (z32, [0xC7, 0x44, 0x8B, 0x7F, 0xEF, 0xCD, 0xAB, 0x89], .movEvIv (.mem (.sib 2#2 .ecx .ebx (.d8 0x7F#8))) (.v32 0x89ABCDEF#32)),
    (z16, [0xB0, 0xF3], .movR8Ib .eax 0xF3#8),
    (z16, [0xBD, 0xAB, 0x89], .movRIv .ebp (.v16 0x89AB#16)),
    (z32, [0xA0, 0xEF, 0xCD, 0xAB, 0x89], .movAlOb (.v32 0x89ABCDEF#32)),
    (z16, [0xA1, 0xAB, 0x89], .movEaxOv (.v16 0x89AB#16)),
    (z16, [0xA2, 0xAB, 0x89], .movObAl (.v16 0x89AB#16)),
    (z32, [0xA3, 0xEF, 0xCD, 0xAB, 0x89], .movOvEax (.v32 0x89ABCDEF#32)),
    (z16, [0x8E, 0xDD], .movSwEw .ds (.reg .ebp)),
    (z16, [0x8C, 0x60, 0x10], .movEwSw (.mem (.ind16 .bxSi (.d8 0x10#8))) .fs),
    (z32, [0x0F, 0xB6, 0x44, 0x8B, 0x7F], .movzxGvEb .eax (.mem (.sib 2#2 .ecx .ebx (.d8 0x7F#8)))),
    (z16, [0x0F, 0xB7, 0xEE], .movzxGvEw .ebp (.reg .esi)),
    (z16, [0x0F, 0xBE, 0x50, 0x10], .movsxGvEb .edx (.mem (.ind16 .bxSi (.d8 0x10#8)))),
    (z32, [0x0F, 0xBF, 0x7C, 0x8B, 0x7F], .movsxGvEw .edi (.mem (.sib 2#2 .ecx .ebx (.d8 0x7F#8)))),
    (z16, [0x86, 0xE7], .xchgEbGb (.reg .edi) .esp),
    (z16, [0x87, 0x48, 0x10], .xchgEvGv (.mem (.ind16 .bxSi (.d8 0x10#8))) .ecx),
    (z32, [0x56], .pushR .esi),
    (z16, [0xFF, 0xF0], .pushEv (.reg .eax)),
    (z16, [0x68, 0xAB, 0x89], .pushIv (.v16 0x89AB#16)),
    (z32, [0x6A, 0xF3], .pushIb 0xF3#8)] := by decide +kernel

theorem test_decode_data_movement_2 : Decodes [
    (z16, [0x5A], .popR .edx),
    (z16, [0x8F, 0x40, 0x10], .popEv (.mem (.ind16 .bxSi (.d8 0x10#8)))),
    (z32, [0x8D, 0x64, 0x8B, 0x7F], .leaGvM .esp (.sib 2#2 .ecx .ebx (.d8 0x7F#8))),
    (z16, [0xC5, 0x48, 0x10], .ldsGvMp .ecx (.ind16 .bxSi (.d8 0x10#8))),
    (z16, [0xC4, 0x70, 0x10], .lesGvMp .esi (.ind16 .bxSi (.d8 0x10#8))),
    (z32, [0x0F, 0xB4, 0x5C, 0x8B, 0x7F], .lfsGvMp .ebx (.sib 2#2 .ecx .ebx (.d8 0x7F#8))),
    (z16, [0x0F, 0xB5, 0x40, 0x10], .lgsGvMp .eax (.ind16 .bxSi (.d8 0x10#8))),
    (z16, [0x0F, 0xB2, 0x68, 0x10], .lssGvMp .ebp (.ind16 .bxSi (.d8 0x10#8))),
    (z32, [0xC8, 0x34, 0x12, 0xF3], .enterIwIb 0x1234#16 0xF3#8),
    (z16, [0x0F, 0x97, 0xFC], .setccEb .nbe (.reg .esp)),
    (z16, [0x91], .xchgEaxEcx),
    (z32, [0x92], .xchgEaxEdx),
    (z16, [0x93], .xchgEaxEbx),
    (z16, [0x94], .xchgEaxEsp),
    (z32, [0x95], .xchgEaxEbp),
    (z16, [0x96], .xchgEaxEsi),
    (z16, [0x97], .xchgEaxEdi),
    (z32, [0x06], .pushEs),
    (z16, [0x0E], .pushCs),
    (z16, [0x16], .pushSs),
    (z32, [0x1E], .pushDs),
    (z16, [0x0F, 0xA0], .pushFs),
    (z16, [0x0F, 0xA8], .pushGs),
    (z32, [0x07], .popEs)] := by decide +kernel

theorem test_decode_data_movement_3 : Decodes [
    (z16, [0x17], .popSs),
    (z16, [0x1F], .popDs),
    (z32, [0x0F, 0xA1], .popFs),
    (z16, [0x0F, 0xA9], .popGs),
    (z16, [0x60], .pusha),
    (z32, [0x61], .popa),
    (z16, [0xD7], .xlat),
    (z16, [0x98], .cbw),
    (z32, [0x99], .cwd),
    (z16, [0x9F], .lahf),
    (z16, [0x9E], .sahf),
    (z32, [0xC9], .leave),
    (z16, [0x90], .nop)] := by decide +kernel

theorem test_decode_arithmetic_1 : Decodes [
    (z16, [0x00, 0x60, 0x10], .addEbGb (.mem (.ind16 .bxSi (.d8 0x10#8))) .esp),
    (z32, [0x01, 0x4C, 0x8B, 0x7F], .addEvGv (.mem (.sib 2#2 .ecx .ebx (.d8 0x7F#8))) .ecx),
    (z16, [0x02, 0xF5], .addGbEb .esi (.reg .ebp)),
    (z16, [0x03, 0x58, 0x10], .addGvEv .ebx (.mem (.ind16 .bxSi (.d8 0x10#8)))),
    (z32, [0x04, 0xF3], .addAlIb 0xF3#8),
    (z16, [0x05, 0xAB, 0x89], .addEaxIv (.v16 0x89AB#16)),
    (z16, [0x80, 0x40, 0x10, 0xF3], .addEbIb (.mem (.ind16 .bxSi (.d8 0x10#8))) 0xF3#8),
    (z32, [0x81, 0x44, 0x8B, 0x7F, 0xEF, 0xCD, 0xAB, 0x89], .addEvIv (.mem (.sib 2#2 .ecx .ebx (.d8 0x7F#8))) (.v32 0x89ABCDEF#32)),
    (z16, [0x83, 0xC7, 0xF3], .addEvIb (.reg .edi) 0xF3#8),
    (z16, [0x10, 0x48, 0x10], .adcEbGb (.mem (.ind16 .bxSi (.d8 0x10#8))) .ecx),
    (z32, [0x11, 0x74, 0x8B, 0x7F], .adcEvGv (.mem (.sib 2#2 .ecx .ebx (.d8 0x7F#8))) .esi),
    (z16, [0x12, 0xD8], .adcGbEb .ebx (.reg .eax)),
    (z16, [0x13, 0x40, 0x10], .adcGvEv .eax (.mem (.ind16 .bxSi (.d8 0x10#8)))),
    (z32, [0x14, 0xF3], .adcAlIb 0xF3#8),
    (z16, [0x15, 0xAB, 0x89], .adcEaxIv (.v16 0x89AB#16)),
    (z16, [0x80, 0x50, 0x10, 0xF3], .adcEbIb (.mem (.ind16 .bxSi (.d8 0x10#8))) 0xF3#8),
    (z32, [0x81, 0x54, 0x8B, 0x7F, 0xEF, 0xCD, 0xAB, 0x89], .adcEvIv (.mem (.sib 2#2 .ecx .ebx (.d8 0x7F#8))) (.v32 0x89ABCDEF#32)),
    (z16, [0x83, 0xD2, 0xF3], .adcEvIb (.reg .edx) 0xF3#8),
    (z16, [0x28, 0x70, 0x10], .subEbGb (.mem (.ind16 .bxSi (.d8 0x10#8))) .esi),
    (z32, [0x29, 0x5C, 0x8B, 0x7F], .subEvGv (.mem (.sib 2#2 .ecx .ebx (.d8 0x7F#8))) .ebx),
    (z16, [0x2A, 0xC3], .subGbEb .eax (.reg .ebx)),
    (z16, [0x2B, 0x68, 0x10], .subGvEv .ebp (.mem (.ind16 .bxSi (.d8 0x10#8)))),
    (z32, [0x2C, 0xF3], .subAlIb 0xF3#8),
    (z16, [0x2D, 0xAB, 0x89], .subEaxIv (.v16 0x89AB#16))] := by decide +kernel

theorem test_decode_arithmetic_2 : Decodes [
    (z16, [0x80, 0x68, 0x10, 0xF3], .subEbIb (.mem (.ind16 .bxSi (.d8 0x10#8))) 0xF3#8),
    (z32, [0x81, 0x6C, 0x8B, 0x7F, 0xEF, 0xCD, 0xAB, 0x89], .subEvIv (.mem (.sib 2#2 .ecx .ebx (.d8 0x7F#8))) (.v32 0x89ABCDEF#32)),
    (z16, [0x83, 0xED, 0xF3], .subEvIb (.reg .ebp) 0xF3#8),
    (z16, [0x18, 0x58, 0x10], .sbbEbGb (.mem (.ind16 .bxSi (.d8 0x10#8))) .ebx),
    (z32, [0x19, 0x44, 0x8B, 0x7F], .sbbEvGv (.mem (.sib 2#2 .ecx .ebx (.d8 0x7F#8))) .eax),
    (z16, [0x1A, 0xEE], .sbbGbEb .ebp (.reg .esi)),
    (z16, [0x1B, 0x50, 0x10], .sbbGvEv .edx (.mem (.ind16 .bxSi (.d8 0x10#8)))),
    (z32, [0x1C, 0xF3], .sbbAlIb 0xF3#8),
    (z16, [0x1D, 0xAB, 0x89], .sbbEaxIv (.v16 0x89AB#16)),
    (z16, [0x80, 0x58, 0x10, 0xF3], .sbbEbIb (.mem (.ind16 .bxSi (.d8 0x10#8))) 0xF3#8),
    (z32, [0x81, 0x5C, 0x8B, 0x7F, 0xEF, 0xCD, 0xAB, 0x89], .sbbEvIv (.mem (.sib 2#2 .ecx .ebx (.d8 0x7F#8))) (.v32 0x89ABCDEF#32)),
    (z16, [0x83, 0xD8, 0xF3], .sbbEvIb (.reg .eax) 0xF3#8),
    (z16, [0x38, 0x40, 0x10], .cmpEbGb (.mem (.ind16 .bxSi (.d8 0x10#8))) .eax),
    (z32, [0x39, 0x6C, 0x8B, 0x7F], .cmpEvGv (.mem (.sib 2#2 .ecx .ebx (.d8 0x7F#8))) .ebp),
    (z16, [0x3A, 0xD1], .cmpGbEb .edx (.reg .ecx)),
    (z16, [0x3B, 0x78, 0x10], .cmpGvEv .edi (.mem (.ind16 .bxSi (.d8 0x10#8)))),
    (z32, [0x3C, 0xF3], .cmpAlIb 0xF3#8),
    (z16, [0x3D, 0xAB, 0x89], .cmpEaxIv (.v16 0x89AB#16)),
    (z16, [0x80, 0x78, 0x10, 0xF3], .cmpEbIb (.mem (.ind16 .bxSi (.d8 0x10#8))) 0xF3#8),
    (z32, [0x81, 0x7C, 0x8B, 0x7F, 0xEF, 0xCD, 0xAB, 0x89], .cmpEvIv (.mem (.sib 2#2 .ecx .ebx (.d8 0x7F#8))) (.v32 0x89ABCDEF#32)),
    (z16, [0x83, 0xFB, 0xF3], .cmpEvIb (.reg .ebx) 0xF3#8),
    (z16, [0xFE, 0x40, 0x10], .incEb (.mem (.ind16 .bxSi (.d8 0x10#8)))),
    (z32, [0xFF, 0x44, 0x8B, 0x7F], .incEv (.mem (.sib 2#2 .ecx .ebx (.d8 0x7F#8)))),
    (z16, [0xFE, 0xCC], .decEb (.reg .esp))] := by decide +kernel

theorem test_decode_arithmetic_3 : Decodes [
    (z16, [0xFF, 0x48, 0x10], .decEv (.mem (.ind16 .bxSi (.d8 0x10#8)))),
    (z32, [0xF6, 0x54, 0x8B, 0x7F], .notEb (.mem (.sib 2#2 .ecx .ebx (.d8 0x7F#8)))),
    (z16, [0xF7, 0xD5], .notEv (.reg .ebp)),
    (z16, [0xF6, 0x58, 0x10], .negEb (.mem (.ind16 .bxSi (.d8 0x10#8)))),
    (z32, [0xF7, 0x5C, 0x8B, 0x7F], .negEv (.mem (.sib 2#2 .ecx .ebx (.d8 0x7F#8)))),
    (z16, [0xF6, 0xE6], .mulEb (.reg .esi)),
    (z16, [0xF7, 0x60, 0x10], .mulEv (.mem (.ind16 .bxSi (.d8 0x10#8)))),
    (z32, [0xF6, 0x6C, 0x8B, 0x7F], .imulEb (.mem (.sib 2#2 .ecx .ebx (.d8 0x7F#8)))),
    (z16, [0xF7, 0xEF], .imulEv (.reg .edi)),
    (z16, [0xF6, 0x70, 0x10], .divEb (.mem (.ind16 .bxSi (.d8 0x10#8)))),
    (z32, [0xF7, 0x74, 0x8B, 0x7F], .divEv (.mem (.sib 2#2 .ecx .ebx (.d8 0x7F#8)))),
    (z16, [0xF6, 0xF8], .idivEb (.reg .eax)),
    (z16, [0xF7, 0x78, 0x10], .idivEv (.mem (.ind16 .bxSi (.d8 0x10#8)))),
    (z32, [0x0F, 0xAF, 0x6C, 0x8B, 0x7F], .imulGvEv .ebp (.mem (.sib 2#2 .ecx .ebx (.d8 0x7F#8)))),
    (z16, [0x69, 0xD1, 0xAB, 0x89], .imulGvEvIv .edx (.reg .ecx) (.v16 0x89AB#16)),
    (z16, [0x6B, 0x78, 0x10, 0xF3], .imulGvEvIb .edi (.mem (.ind16 .bxSi (.d8 0x10#8))) 0xF3#8),
    (z32, [0x20, 0x64, 0x8B, 0x7F], .andEbGb (.mem (.sib 2#2 .ecx .ebx (.d8 0x7F#8))) .esp),
    (z16, [0x21, 0xCA], .andEvGv (.reg .edx) .ecx),
    (z16, [0x22, 0x70, 0x10], .andGbEb .esi (.mem (.ind16 .bxSi (.d8 0x10#8)))),
    (z32, [0x23, 0x5C, 0x8B, 0x7F], .andGvEv .ebx (.mem (.sib 2#2 .ecx .ebx (.d8 0x7F#8)))),
    (z16, [0x24, 0xF3], .andAlIb 0xF3#8),
    (z16, [0x25, 0xAB, 0x89], .andEaxIv (.v16 0x89AB#16)),
    (z32, [0x80, 0x64, 0x8B, 0x7F, 0xF3], .andEbIb (.mem (.sib 2#2 .ecx .ebx (.d8 0x7F#8))) 0xF3#8),
    (z16, [0x81, 0xE4, 0xAB, 0x89], .andEvIv (.reg .esp) (.v16 0x89AB#16))] := by decide +kernel

theorem test_decode_arithmetic_4 : Decodes [
    (z16, [0x83, 0x60, 0x10, 0xF3], .andEvIb (.mem (.ind16 .bxSi (.d8 0x10#8))) 0xF3#8),
    (z32, [0x08, 0x4C, 0x8B, 0x7F], .orEbGb (.mem (.sib 2#2 .ecx .ebx (.d8 0x7F#8))) .ecx),
    (z16, [0x09, 0xF5], .orEvGv (.reg .ebp) .esi),
    (z16, [0x0A, 0x58, 0x10], .orGbEb .ebx (.mem (.ind16 .bxSi (.d8 0x10#8)))),
    (z32, [0x0B, 0x44, 0x8B, 0x7F], .orGvEv .eax (.mem (.sib 2#2 .ecx .ebx (.d8 0x7F#8)))),
    (z16, [0x0C, 0xF3], .orAlIb 0xF3#8),
    (z16, [0x0D, 0xAB, 0x89], .orEaxIv (.v16 0x89AB#16)),
    (z32, [0x80, 0x4C, 0x8B, 0x7F, 0xF3], .orEbIb (.mem (.sib 2#2 .ecx .ebx (.d8 0x7F#8))) 0xF3#8),
    (z16, [0x81, 0xCF, 0xAB, 0x89], .orEvIv (.reg .edi) (.v16 0x89AB#16)),
    (z16, [0x83, 0x48, 0x10, 0xF3], .orEvIb (.mem (.ind16 .bxSi (.d8 0x10#8))) 0xF3#8),
    (z32, [0x30, 0x74, 0x8B, 0x7F], .xorEbGb (.mem (.sib 2#2 .ecx .ebx (.d8 0x7F#8))) .esi),
    (z16, [0x31, 0xD8], .xorEvGv (.reg .eax) .ebx),
    (z16, [0x32, 0x40, 0x10], .xorGbEb .eax (.mem (.ind16 .bxSi (.d8 0x10#8)))),
    (z32, [0x33, 0x6C, 0x8B, 0x7F], .xorGvEv .ebp (.mem (.sib 2#2 .ecx .ebx (.d8 0x7F#8)))),
    (z16, [0x34, 0xF3], .xorAlIb 0xF3#8),
    (z16, [0x35, 0xAB, 0x89], .xorEaxIv (.v16 0x89AB#16)),
    (z32, [0x80, 0x74, 0x8B, 0x7F, 0xF3], .xorEbIb (.mem (.sib 2#2 .ecx .ebx (.d8 0x7F#8))) 0xF3#8),
    (z16, [0x81, 0xF2, 0xAB, 0x89], .xorEvIv (.reg .edx) (.v16 0x89AB#16)),
    (z16, [0x83, 0x70, 0x10, 0xF3], .xorEvIb (.mem (.ind16 .bxSi (.d8 0x10#8))) 0xF3#8),
    (z32, [0x84, 0x5C, 0x8B, 0x7F], .testEbGb (.mem (.sib 2#2 .ecx .ebx (.d8 0x7F#8))) .ebx),
    (z16, [0x85, 0xC3], .testEvGv (.reg .ebx) .eax),
    (z16, [0xA8, 0xF3], .testAlIb 0xF3#8),
    (z32, [0xA9, 0xEF, 0xCD, 0xAB, 0x89], .testEaxIv (.v32 0x89ABCDEF#32)),
    (z16, [0xF6, 0xC4, 0xF3], .testEbIb (.reg .esp) 0xF3#8)] := by decide +kernel

theorem test_decode_arithmetic_5 : Decodes [
    (z16, [0xF7, 0x40, 0x10, 0xAB, 0x89], .testEvIv (.mem (.ind16 .bxSi (.d8 0x10#8))) (.v16 0x89AB#16)),
    (z32, [0xD0, 0x44, 0x8B, 0x7F], .rolEb1 (.mem (.sib 2#2 .ecx .ebx (.d8 0x7F#8)))),
    (z16, [0xD1, 0xC5], .rolEv1 (.reg .ebp)),
    (z16, [0xD2, 0x40, 0x10], .rolEbCl (.mem (.ind16 .bxSi (.d8 0x10#8)))),
    (z32, [0xD3, 0x44, 0x8B, 0x7F], .rolEvCl (.mem (.sib 2#2 .ecx .ebx (.d8 0x7F#8)))),
    (z16, [0xC0, 0xC6, 0xF3], .rolEbIb (.reg .esi) 0xF3#8),
    (z16, [0xC1, 0x40, 0x10, 0xF3], .rolEvIb (.mem (.ind16 .bxSi (.d8 0x10#8))) 0xF3#8),
    (z32, [0xD0, 0x4C, 0x8B, 0x7F], .rorEb1 (.mem (.sib 2#2 .ecx .ebx (.d8 0x7F#8)))),
    (z16, [0xD1, 0xCF], .rorEv1 (.reg .edi)),
    (z16, [0xD2, 0x48, 0x10], .rorEbCl (.mem (.ind16 .bxSi (.d8 0x10#8)))),
    (z32, [0xD3, 0x4C, 0x8B, 0x7F], .rorEvCl (.mem (.sib 2#2 .ecx .ebx (.d8 0x7F#8)))),
    (z16, [0xC0, 0xC8, 0xF3], .rorEbIb (.reg .eax) 0xF3#8),
    (z16, [0xC1, 0x48, 0x10, 0xF3], .rorEvIb (.mem (.ind16 .bxSi (.d8 0x10#8))) 0xF3#8),
    (z32, [0xD0, 0x54, 0x8B, 0x7F], .rclEb1 (.mem (.sib 2#2 .ecx .ebx (.d8 0x7F#8)))),
    (z16, [0xD1, 0xD1], .rclEv1 (.reg .ecx)),
    (z16, [0xD2, 0x50, 0x10], .rclEbCl (.mem (.ind16 .bxSi (.d8 0x10#8)))),
    (z32, [0xD3, 0x54, 0x8B, 0x7F], .rclEvCl (.mem (.sib 2#2 .ecx .ebx (.d8 0x7F#8)))),
    (z16, [0xC0, 0xD2, 0xF3], .rclEbIb (.reg .edx) 0xF3#8),
    (z16, [0xC1, 0x50, 0x10, 0xF3], .rclEvIb (.mem (.ind16 .bxSi (.d8 0x10#8))) 0xF3#8),
    (z32, [0xD0, 0x5C, 0x8B, 0x7F], .rcrEb1 (.mem (.sib 2#2 .ecx .ebx (.d8 0x7F#8)))),
    (z16, [0xD1, 0xDB], .rcrEv1 (.reg .ebx)),
    (z16, [0xD2, 0x58, 0x10], .rcrEbCl (.mem (.ind16 .bxSi (.d8 0x10#8)))),
    (z32, [0xD3, 0x5C, 0x8B, 0x7F], .rcrEvCl (.mem (.sib 2#2 .ecx .ebx (.d8 0x7F#8)))),
    (z16, [0xC0, 0xDC, 0xF3], .rcrEbIb (.reg .esp) 0xF3#8)] := by decide +kernel

theorem test_decode_arithmetic_6 : Decodes [
    (z16, [0xC1, 0x58, 0x10, 0xF3], .rcrEvIb (.mem (.ind16 .bxSi (.d8 0x10#8))) 0xF3#8),
    (z32, [0xD0, 0x64, 0x8B, 0x7F], .shlEb1 (.mem (.sib 2#2 .ecx .ebx (.d8 0x7F#8)))),
    (z16, [0xD1, 0xE5], .shlEv1 (.reg .ebp)),
    (z16, [0xD2, 0x60, 0x10], .shlEbCl (.mem (.ind16 .bxSi (.d8 0x10#8)))),
    (z32, [0xD3, 0x64, 0x8B, 0x7F], .shlEvCl (.mem (.sib 2#2 .ecx .ebx (.d8 0x7F#8)))),
    (z16, [0xC0, 0xE6, 0xF3], .shlEbIb (.reg .esi) 0xF3#8),
    (z16, [0xC1, 0x60, 0x10, 0xF3], .shlEvIb (.mem (.ind16 .bxSi (.d8 0x10#8))) 0xF3#8),
    (z32, [0xD0, 0x6C, 0x8B, 0x7F], .shrEb1 (.mem (.sib 2#2 .ecx .ebx (.d8 0x7F#8)))),
    (z16, [0xD1, 0xEF], .shrEv1 (.reg .edi)),
    (z16, [0xD2, 0x68, 0x10], .shrEbCl (.mem (.ind16 .bxSi (.d8 0x10#8)))),
    (z32, [0xD3, 0x6C, 0x8B, 0x7F], .shrEvCl (.mem (.sib 2#2 .ecx .ebx (.d8 0x7F#8)))),
    (z16, [0xC0, 0xE8, 0xF3], .shrEbIb (.reg .eax) 0xF3#8),
    (z16, [0xC1, 0x68, 0x10, 0xF3], .shrEvIb (.mem (.ind16 .bxSi (.d8 0x10#8))) 0xF3#8),
    (z32, [0xD0, 0x7C, 0x8B, 0x7F], .sarEb1 (.mem (.sib 2#2 .ecx .ebx (.d8 0x7F#8)))),
    (z16, [0xD1, 0xF9], .sarEv1 (.reg .ecx)),
    (z16, [0xD2, 0x78, 0x10], .sarEbCl (.mem (.ind16 .bxSi (.d8 0x10#8)))),
    (z32, [0xD3, 0x7C, 0x8B, 0x7F], .sarEvCl (.mem (.sib 2#2 .ecx .ebx (.d8 0x7F#8)))),
    (z16, [0xC0, 0xFA, 0xF3], .sarEbIb (.reg .edx) 0xF3#8),
    (z16, [0xC1, 0x78, 0x10, 0xF3], .sarEvIb (.mem (.ind16 .bxSi (.d8 0x10#8))) 0xF3#8),
    (z32, [0x0F, 0xA4, 0x5C, 0x8B, 0x7F, 0xF3], .shldEvGvIb (.mem (.sib 2#2 .ecx .ebx (.d8 0x7F#8))) .ebx 0xF3#8),
    (z16, [0x0F, 0xA5, 0xC3], .shldEvGvCl (.reg .ebx) .eax),
    (z16, [0x0F, 0xAC, 0x68, 0x10, 0xF3], .shrdEvGvIb (.mem (.ind16 .bxSi (.d8 0x10#8))) .ebp 0xF3#8),
    (z32, [0x0F, 0xAD, 0x54, 0x8B, 0x7F], .shrdEvGvCl (.mem (.sib 2#2 .ecx .ebx (.d8 0x7F#8))) .edx),
    (z16, [0x0F, 0xA3, 0xFC], .btEvGv (.reg .esp) .edi)] := by decide +kernel

theorem test_decode_arithmetic_7 : Decodes [
    (z16, [0x0F, 0xBA, 0x60, 0x10, 0xF3], .btEvIb (.mem (.ind16 .bxSi (.d8 0x10#8))) 0xF3#8),
    (z32, [0x0F, 0xAB, 0x4C, 0x8B, 0x7F], .btsEvGv (.mem (.sib 2#2 .ecx .ebx (.d8 0x7F#8))) .ecx),
    (z16, [0x0F, 0xBA, 0xED, 0xF3], .btsEvIb (.reg .ebp) 0xF3#8),
    (z16, [0x0F, 0xB3, 0x58, 0x10], .btrEvGv (.mem (.ind16 .bxSi (.d8 0x10#8))) .ebx),
    (z32, [0x0F, 0xBA, 0x74, 0x8B, 0x7F, 0xF3], .btrEvIb (.mem (.sib 2#2 .ecx .ebx (.d8 0x7F#8))) 0xF3#8),
    (z16, [0x0F, 0xBB, 0xEE], .btcEvGv (.reg .esi) .ebp),
    (z16, [0x0F, 0xBA, 0x78, 0x10, 0xF3], .btcEvIb (.mem (.ind16 .bxSi (.d8 0x10#8))) 0xF3#8),
    (z32, [0x0F, 0xBC, 0x7C, 0x8B, 0x7F], .bsfGvEv .edi (.mem (.sib 2#2 .ecx .ebx (.d8 0x7F#8)))),
    (z16, [0x0F, 0xBD, 0xE7], .bsrGvEv .esp (.reg .edi)),
    (z16, [0xD4, 0xF3], .aamIb 0xF3#8),
    (z32, [0xD5, 0xF3], .aadIb 0xF3#8),
    (z16, [0x62, 0x58, 0x10], .boundGvMa .ebx (.ind16 .bxSi (.d8 0x10#8))),
    (z16, [0x40], .incEax),
    (z32, [0x41], .incEcx),
    (z16, [0x42], .incEdx),
    (z16, [0x43], .incEbx),
    (z32, [0x44], .incEsp),
    (z16, [0x45], .incEbp),
    (z16, [0x46], .incEsi),
    (z32, [0x47], .incEdi),
    (z16, [0x48], .decEax),
    (z16, [0x49], .decEcx),
    (z32, [0x4A], .decEdx),
    (z16, [0x4B], .decEbx)] := by decide +kernel

theorem test_decode_arithmetic_8 : Decodes [
    (z16, [0x4C], .decEsp),
    (z32, [0x4D], .decEbp),
    (z16, [0x4E], .decEsi),
    (z16, [0x4F], .decEdi),
    (z32, [0x27], .daa),
    (z16, [0x2F], .das),
    (z16, [0x37], .aaa),
    (z32, [0x3F], .aas)] := by decide +kernel

theorem test_decode_control_transfer : Decodes [
    (z16, [0xEB, 0xF3], .jmpJb 0xF3#8),
    (z32, [0xE9, 0xEF, 0xCD, 0xAB, 0x89], .jmpJv (.v32 0x89ABCDEF#32)),
    (z16, [0xFF, 0xE1], .jmpEv (.reg .ecx)),
    (z16, [0x77, 0xF3], .jccJb .nbe 0xF3#8),
    (z32, [0x0F, 0x8E, 0xEF, 0xCD, 0xAB, 0x89], .jccJv .le (.v32 0x89ABCDEF#32)),
    (z16, [0xE3, 0xF3], .jcxzJb 0xF3#8),
    (z16, [0xE2, 0xF3], .loopJb 0xF3#8),
    (z32, [0xE1, 0xF3], .loopeJb 0xF3#8),
    (z16, [0xE0, 0xF3], .loopneJb 0xF3#8),
    (z16, [0xE8, 0xAB, 0x89], .callJv (.v16 0x89AB#16)),
    (z32, [0xFF, 0x54, 0x8B, 0x7F], .callEv (.mem (.sib 2#2 .ecx .ebx (.d8 0x7F#8)))),
    (z16, [0xC2, 0x34, 0x12], .retIw 0x1234#16),
    (z16, [0xEA, 0xAB, 0x89, 0x78, 0x56], .jmpFarAp (.v16 0x89AB#16) 0x5678#16),
    (z32, [0xFF, 0x6C, 0x8B, 0x7F], .jmpFarMp (.sib 2#2 .ecx .ebx (.d8 0x7F#8))),
    (z16, [0x9A, 0xAB, 0x89, 0x78, 0x56], .callFarAp (.v16 0x89AB#16) 0x5678#16),
    (z16, [0xFF, 0x58, 0x10], .callFarMp (.ind16 .bxSi (.d8 0x10#8))),
    (z32, [0xCA, 0x34, 0x12], .retfIw 0x1234#16),
    (z16, [0xCD, 0xF3], .intIb 0xF3#8),
    (z16, [0xC3], .ret),
    (z16, [0xCB], .retf),
    (z32, [0xCC], .int3),
    (z16, [0xCE], .into),
    (z16, [0xCF], .iret)] := by decide +kernel

theorem test_decode_strings_io_flags_1 : Decodes [
    (z16, [0xE4, 0xF3], .inAlIb 0xF3#8),
    (z32, [0xE5, 0xF3], .inEaxIb 0xF3#8),
    (z16, [0xE6, 0xF3], .outIbAl 0xF3#8),
    (z16, [0xE7, 0xF3], .outIbEax 0xF3#8),
    (z32, [0xA4], .movsb),
    (z16, [0xA5], .movsv),
    (z16, [0xA6], .cmpsb),
    (z32, [0xA7], .cmpsv),
    (z16, [0xAA], .stosb),
    (z16, [0xAB], .stosv),
    (z32, [0xAC], .lodsb),
    (z16, [0xAD], .lodsv),
    (z16, [0xAE], .scasb),
    (z32, [0xAF], .scasv),
    (z16, [0x6C], .insb),
    (z16, [0x6D], .insv),
    (z32, [0x6E], .outsb),
    (z16, [0x6F], .outsv),
    (z16, [0xF3], .repPrefix),
    (z32, [0xF2], .repnePrefix),
    (z16, [0xEC], .inAlDx),
    (z16, [0xED], .inEaxDx),
    (z32, [0xEE], .outDxAl),
    (z16, [0xEF], .outDxEax)] := by decide +kernel

theorem test_decode_strings_io_flags_2 : Decodes [
    (z16, [0xF8], .clc),
    (z32, [0xF9], .stc),
    (z16, [0xF5], .cmc),
    (z16, [0xFC], .cld),
    (z32, [0xFD], .std),
    (z16, [0xFA], .cli),
    (z16, [0xFB], .sti),
    (z32, [0x9C], .pushf),
    (z16, [0x9D], .popf)] := by decide +kernel

theorem test_decode_system : Decodes [
    (z32, [0x0F, 0x01, 0x44, 0x8B, 0x7F], .sgdtMs (.sib 2#2 .ecx .ebx (.d8 0x7F#8))),
    (z16, [0x0F, 0x01, 0x48, 0x10], .sidtMs (.ind16 .bxSi (.d8 0x10#8))),
    (z16, [0x0F, 0x01, 0x50, 0x10], .lgdtMs (.ind16 .bxSi (.d8 0x10#8))),
    (z32, [0x0F, 0x01, 0x5C, 0x8B, 0x7F], .lidtMs (.sib 2#2 .ecx .ebx (.d8 0x7F#8))),
    (z16, [0x0F, 0x01, 0xE1], .smswEw (.reg .ecx)),
    (z16, [0x0F, 0x01, 0x70, 0x10], .lmswEw (.mem (.ind16 .bxSi (.d8 0x10#8)))),
    (z32, [0x0F, 0x00, 0x44, 0x8B, 0x7F], .sldtEw (.mem (.sib 2#2 .ecx .ebx (.d8 0x7F#8)))),
    (z16, [0x0F, 0x00, 0xCA], .strEw (.reg .edx)),
    (z16, [0x0F, 0x00, 0x50, 0x10], .lldtEw (.mem (.ind16 .bxSi (.d8 0x10#8)))),
    (z32, [0x0F, 0x00, 0x5C, 0x8B, 0x7F], .ltrEw (.mem (.sib 2#2 .ecx .ebx (.d8 0x7F#8)))),
    (z16, [0x0F, 0x00, 0xE3], .verrEw (.reg .ebx)),
    (z16, [0x0F, 0x00, 0x68, 0x10], .verwEw (.mem (.ind16 .bxSi (.d8 0x10#8)))),
    (z32, [0x0F, 0x02, 0x54, 0x8B, 0x7F], .larGvEw .edx (.mem (.sib 2#2 .ecx .ebx (.d8 0x7F#8)))),
    (z16, [0x0F, 0x03, 0xFC], .lslGvEw .edi (.reg .esp)),
    (z16, [0x0F, 0x20, 0xD7], .movRdCd .edi .cr2),
    (z32, [0x0F, 0x22, 0xDA], .movCdRd .cr3 .edx),
    (z16, [0x0F, 0x21, 0xC5], .movRdDd .ebp .dr0),
    (z16, [0x0F, 0x23, 0xC8], .movDdRd .dr1 .eax),
    (z32, [0x0F, 0x24, 0xF3], .movRdTd .ebx .tr6),
    (z16, [0x0F, 0x26, 0xFE], .movTdRd .tr7 .esi),
    (z16, [0x63, 0x50, 0x10], .arplEwGw (.mem (.ind16 .bxSi (.d8 0x10#8))) .edx),
    (z16, [0x0F, 0x06], .clts),
    (z32, [0xF4], .hlt)] := by decide +kernel

theorem test_decode_numerics_1 : Decodes [
    (z16, [0xD9, 0xD0], .esc 1#3 2#3 (.reg .eax)),
    (z16, [0xDF, 0x68, 0x10], .esc 7#3 5#3 (.mem (.ind16 .bxSi (.d8 0x10#8)))),
    (z16, [0xDD, 0x78, 0x10], .fnstswM (.ind16 .bxSi (.d8 0x10#8))),
    (z16, [0xD9, 0x78, 0x10], .fnstcwM (.ind16 .bxSi (.d8 0x10#8))),
    (z32, [0xDD, 0x74, 0x8B, 0x7F], .fsaveM (.sib 2#2 .ecx .ebx (.d8 0x7F#8))),
    (z16, [0xDD, 0x60, 0x10], .frstorM (.ind16 .bxSi (.d8 0x10#8))),
    (z16, [0xD9, 0x70, 0x10], .fstenvM (.ind16 .bxSi (.d8 0x10#8))),
    (z32, [0xD9, 0x6C, 0x8B, 0x7F], .fldcwM (.sib 2#2 .ecx .ebx (.d8 0x7F#8))),
    (z16, [0xD8, 0x40, 0x10], .faddM32 (.ind16 .bxSi (.d8 0x10#8))),
    (z16, [0xDC, 0x40, 0x10], .faddM64 (.ind16 .bxSi (.d8 0x10#8))),
    (z32, [0xD8, 0x4C, 0x8B, 0x7F], .fmulM32 (.sib 2#2 .ecx .ebx (.d8 0x7F#8))),
    (z16, [0xDC, 0x48, 0x10], .fmulM64 (.ind16 .bxSi (.d8 0x10#8))),
    (z16, [0x9B], .wait),
    (z16, [0xDB, 0xE3], .fninit),
    (z32, [0xD9, 0xE8], .fld1),
    (z16, [0xD9, 0xEE], .fldz),
    (z16, [0xDE, 0xF9], .fdivp),
    (z32, [0xD9, 0xC0], .fldSt0),
    (z16, [0xD9, 0xE0], .fchs),
    (z16, [0xDE, 0xD9], .fcompp),
    (z32, [0xDB, 0xE4], .fsetpm),
    (z16, [0xDF, 0xE0], .fnstswAx),
    (z16, [0xDB, 0xE2], .fnclex),
    (z32, [0xD9, 0xFA], .fsqrt)] := by decide +kernel

theorem test_decode_numerics_2 : Decodes [
    (z16, [0xD8, 0xC0], .faddStSt0),
    (z16, [0xD8, 0xC1], .faddStSt1),
    (z32, [0xD8, 0xC2], .faddStSt2),
    (z16, [0xD8, 0xC3], .faddStSt3),
    (z16, [0xD8, 0xC4], .faddStSt4),
    (z32, [0xD8, 0xC5], .faddStSt5),
    (z16, [0xD8, 0xC6], .faddStSt6),
    (z16, [0xD8, 0xC7], .faddStSt7),
    (z32, [0xDC, 0xC0], .faddSt0St),
    (z16, [0xDC, 0xC1], .faddSt1St),
    (z16, [0xDC, 0xC2], .faddSt2St),
    (z32, [0xDC, 0xC3], .faddSt3St),
    (z16, [0xDC, 0xC4], .faddSt4St),
    (z16, [0xDC, 0xC5], .faddSt5St),
    (z32, [0xDC, 0xC6], .faddSt6St),
    (z16, [0xDC, 0xC7], .faddSt7St),
    (z16, [0xD8, 0xC8], .fmulStSt0),
    (z32, [0xD8, 0xC9], .fmulStSt1),
    (z16, [0xD8, 0xCA], .fmulStSt2),
    (z16, [0xD8, 0xCB], .fmulStSt3),
    (z32, [0xD8, 0xCC], .fmulStSt4),
    (z16, [0xD8, 0xCD], .fmulStSt5),
    (z16, [0xD8, 0xCE], .fmulStSt6),
    (z32, [0xD8, 0xCF], .fmulStSt7)] := by decide +kernel

theorem test_decode_numerics_3 : Decodes [
    (z16, [0xDC, 0xC8], .fmulSt0St),
    (z16, [0xDC, 0xC9], .fmulSt1St),
    (z32, [0xDC, 0xCA], .fmulSt2St),
    (z16, [0xDC, 0xCB], .fmulSt3St),
    (z16, [0xDC, 0xCC], .fmulSt4St),
    (z32, [0xDC, 0xCD], .fmulSt5St),
    (z16, [0xDC, 0xCE], .fmulSt6St),
    (z16, [0xDC, 0xCF], .fmulSt7St)] := by decide +kernel

theorem test_decode_prefixes : Decodes [
    (z16, [0x66], .opSizePrefix),
    (z16, [0x67], .addrSizePrefix),
    (z32, [0xF0], .lockPrefix),
    (z16, [0x26], .esPrefix),
    (z16, [0x2E], .csPrefix),
    (z32, [0x36], .ssPrefix),
    (z16, [0x3E], .dsPrefix),
    (z16, [0x64], .fsPrefix),
    (z32, [0x65], .gsPrefix)] := by decide +kernel


/-! ### Worked examples of the spec (spec/95), one step each -/

/-- One step answers a next state, of which `p` holds. -/
abbrev Runs (s : State) (p : State → Bool) : Prop :=
  (match step s with
    | .next t => p t
    | _ => false) = true

/-- A flat segment. -/
def flat (sel : Half) (code big : Bool) (dpl : BitVec 2) : SegReg :=
  { selector := sel, base := 0#32, limit := 0xFFFFFFFF#32, present := true, dpl := dpl, executable := code,
    readable := true, writeable := !code, expandDown := false, conforming := false, big := big, granularity := true,
    accessed := true, usable := true }

/-- Six flat segment registers. -/
def flatSegs (cs data : Half) (dpl : BitVec 2) : Segs :=
  { es := flat data false true dpl, cs := flat cs true true dpl, ss := flat data false true dpl,
    ds := flat data false true dpl, fs := flat data false true dpl, gs := flat data false true dpl }

/-- Real mode, code at 100H, stack at 400H. -/
def s16 : State :=
  { State.reset with
    eip := 0x100#32, regs := { State.reset.regs with esp := 0x400#32, edx := 0#32 }
    segs := { State.reset.segs with cs := .real 0#16 0#32 0#2 } }

/-- Protected mode at CPL 0, 32-bit flat segments, code at 1000H, stack at 2000H, GDT at 5000H, IDT at 6000H. -/
def s32 : State :=
  { State.reset with
    eip := 0x1000#32, regs := { State.reset.regs with esp := 0x2000#32, edx := 0#32 }
    cr0 := { State.reset.cr0 with PE := true }, segs := flatSegs 8#16 16#16 0#2
    gdtr := { base := 0x5000#32, limit := 0xFF#16 }, idtr := { base := 0x6000#32, limit := 0x7FF#16 } }

/-- Bytes put in memory. -/
def ld (a : Nat) : List Nat → State → State
  | [], s => s
  | b :: bs, s => ld (a + 1) bs { s with mem := Memory.write s.mem a (BitVec.ofNat 8 b) }

/-- A stretch of memory, as it is listed. -/
def cells (a : Nat) : List Nat → List Host.Cell
  | [] => []
  | b :: bs => if b == 0 then cells (a + 1) bs else (a, BitVec.ofNat 8 b) :: cells (a + 1) bs

def m (s : State) (a : Nat) : Nat := (Memory.read s.mem a).toNat
def m2 (s : State) (a : Nat) : Nat := m s a + 256 * m s (a + 1)
def m4 (s : State) (a : Nat) : Nat := m2 s a + 65536 * m2 s (a + 2)

/-- A handler at 7000H plus the vector, in the real-mode table and in a protected-mode one; `vec` tells whether one is
running. -/
def ivt (v : Nat) (s : State) : State := ld (4 * v) [v, 0x70, 0, 0] s

def codeAndData : List Nat := [0xFF, 0xFF, 0, 0, 0, 0x9B, 0xCF, 0, 0xFF, 0xFF, 0, 0, 0, 0x93, 0xCF, 0]

def gdt (s : State) : State := ld 0x5008 codeAndData s

def idt (v : Nat) (s : State) : State := ld (0x6000 + 8 * v) [v, 0x70, 8, 0, 0, 0x8F, 0, 0] (gdt s)

def vec (s : State) : Nat := if s.eip.toNat / 0x100 == 0x70 then s.eip.toNat % 0x100 else 999

/-- At CPL 3, with a TSS whose inner stack is at 200000H. -/
def user (s : State) : State :=
  ld 0x5008 (codeAndData ++ [0xFF, 0xFF, 0, 0, 0, 0xFB, 0xCF, 0, 0xFF, 0xFF, 0, 0, 0, 0xF3, 0xCF, 0, 0, 0x40, 8, 0, 0, 0xEC,
      0x10, 0])
    (ld 0x7804 [0, 0, 0x20, 0, 0x10, 0]
      { s with
        regs := { s.regs with esp := 0xFFF0#32 }, segs := flatSegs 0x1B#16 0x23#16 3#2
        tr := { selector := 0x30#16, base := 0x7800#32, limit := 0x67#32, is386 := true } })

/-- From offset 20H on, the TSS of a task to start at 4000H. -/
def taskBytes : List Nat :=
  [0, 0x40, 0, 0, 2, 2, 0, 0, 1, 0, 0, 0, 2, 0, 0, 0, 3, 0, 0, 0, 4, 0, 0, 0, 0, 0x1F, 0, 0, 6, 0, 0, 0, 7, 0, 0, 0, 8, 0, 0, 0,
    0x10, 0, 0, 0, 8, 0, 0, 0, 0x10, 0, 0, 0, 0x10] ++ List.replicate 19 0

/-- With two tasks, the running one at 7800H, the other at 7900H. -/
def tasks (s : State) : State :=
  ld 0x5008 (codeAndData ++ [0x67, 0, 0, 0x78, 0, 0x8B, 0, 0, 0x67, 0, 0, 0x79, 0, 0x89, 0, 0])
    (ld 0x7920 taskBytes
      { s with tr := { selector := 0x18#16, base := 0x7800#32, limit := 0x67#32, is386 := true } })

/-- Page tables at 100000H; the page at 403000H is read-only for users. -/
def pageTables (s : State) : State :=
  ld 0x100004 [7, 0x10, 0x10, 0] (ld 0x10100C [5, 0x50, 0x20, 0] (ld 0x100000 [7, 0, 0x11, 0] (ld 0x110000
    ((List.range 8).flatMap fun k => [7, 16 * k, 0, 0]) s)))

theorem test_vector_mov_r8_imm : Runs
    (let s := ld 0x1000 [0xB0, 0xFF] s32; { s with regs := {s.regs with eax := 0x12345678}})
    (fun s => s.regs.eax == 0x123456FF) := by decide +kernel

theorem test_vector_mov_high_byte : Runs
    (let s := ld 0x1000 [0x88, 0xDC] s32; { s with regs := {s.regs with eax := 0x0, ebx := 0xAB}})
    (fun s => s.regs.eax == 0xAB00) := by decide +kernel

theorem test_vector_movzx : Runs
    (let s := ld 0x1000 [0x0F, 0xB6, 0xC3] s32; { s with regs := {s.regs with ebx := 0xFFFFFF80}})
    (fun s => s.regs.eax == 0x80) := by decide +kernel

theorem test_vector_movsx : Runs
    (let s := ld 0x1000 [0x0F, 0xBE, 0xC3] s32; { s with regs := {s.regs with ebx := 0x80}})
    (fun s => s.regs.eax == 0xFFFFFF80) := by decide +kernel

theorem test_vector_xchg : Runs
    (let s := ld 0x1000 [0x93] s32; { s with regs := {s.regs with eax := 0x1, ebx := 0x2}})
    (fun s => s.regs.eax == 0x2 && s.regs.ebx == 0x1) := by decide +kernel

theorem test_vector_push_sp : Runs
    (let s := ld 0x100 [0x54] s16; { s with regs := {s.regs with esp := 0x100}})
    (fun s => s.regs.esp == 0xFE && m2 s 0xFE == 0x100) := by decide +kernel

theorem test_vector_pop_esp : Runs
    (let s := ld 0x1000 [0x5C] s32; ld 0x1FFC [0, 0x30] { s with regs := {s.regs with esp := 0x1FFC}})
    (fun s => s.regs.esp == 0x3000) := by decide +kernel

theorem test_vector_pusha : Runs
    (let s := ld 0x100 [0x60] s16;
      { s with regs := {s.regs with eax := 0x1, ecx := 0x2, edx := 0x3, ebx := 0x4, esp := 0x100, ebp := 0x6, esi := 0x7, edi := 0x8}})
    (fun s => s.regs.esp == 0xF0 && m2 s 240 == 8 && m2 s 242 == 7 && m2 s 244 == 6 && m2 s 246 == 256 &&
      m2 s 248 == 4 && m2 s 250 == 3 && m2 s 252 == 2 && m2 s 254 == 1) := by decide +kernel

theorem test_vector_lea : Runs
    (let s := ld 0x1000 [0x8D, 0x44, 0x8B, 0x10] s32; { s with regs := {s.regs with ebx := 0x1000, ecx := 0x3}})
    (fun s => s.regs.eax == 0x101C) := by decide +kernel

theorem test_vector_lea_register : Runs
    (ld 0x1000 [0x8D, 0xC0] (idt 6 s32))
    (fun s => vec s == 6) := by decide +kernel

theorem test_vector_lds : Runs
    (let s := ld 0x100 [0xC5, 0x37] s16; ld 0x3000 [0x34, 0x12, 0,
      0x20] { s with regs := {s.regs with ebx := 0x3000}})
    (fun s => s.regs.esi == 0x1234 && s.segs.ds.selector == 0x2000 && s.segs.ds.base == 0x20000) := by decide +kernel

theorem test_vector_xlat : Runs
    (let s := ld 0x100 [0xD7] s16; ld 0x205 [0x7A] { s with regs := {s.regs with ebx := 0x200, eax := 0x5}})
    (fun s => s.regs.eax == 0x7A) := by decide +kernel

theorem test_vector_cbw : Runs
    (let s := ld 0x100 [0x98] s16; { s with regs := {s.regs with eax := 0x80}})
    (fun s => s.regs.eax == 0xFF80) := by decide +kernel

theorem test_vector_cwd : Runs
    (let s := ld 0x100 [0x99] s16; { s with regs := {s.regs with eax := 0x8000}})
    (fun s => s.regs.edx == 0xFFFF) := by decide +kernel

theorem test_vector_lahf : Runs
    (let s := ld 0x1000 [0x9F] s32; { s with flags := {s.flags with SF := true, AF := true, CF := true}})
    (fun s => s.regs.eax == 0x9300) := by decide +kernel

theorem test_vector_sahf : Runs
    (let s := ld 0x1000 [0x9E] s32; { s with regs := {s.regs with eax := 0xFF00}})
    (fun s => s.flags.OF == false && s.flags.SF == true && s.flags.ZF == true && s.flags.AF == true &&
      s.flags.PF == true && s.flags.CF == true) := by decide +kernel

theorem test_vector_enter : Runs
    (let s := ld 0x1000 [0xC8, 0x00, 0x00, 0x01] s32; { s with regs := {s.regs with esp := 0x2000, ebp := 0xAAAA}})
    (fun s => s.regs.ebp == 0x1FFC && s.regs.esp == 0x1FF8 && m4 s 0x1FFC == 0xAAAA && m4 s 0x1FF8 == 0x1FFC) := by decide +kernel

theorem test_vector_sete : Runs
    (let s := ld 0x1000 [0x0F, 0x94, 0xC0] s32; { s with flags := {s.flags with ZF := true}})
    (fun s => s.regs.eax == 0x1) := by decide +kernel

theorem test_vector_nop : Runs
    (ld 0x1000 [0x90] s32)
    (fun s => s == {(ld 0x1000 [0x90] s32) with eip := 0x1001}) := by decide +kernel

theorem test_vector_mov_ds : Runs
    (let s := ld 0x100 [0x8E, 0xD8] s16; { s with regs := {s.regs with eax := 0x1234}})
    (fun s => s.segs.ds.selector == 0x1234 && s.segs.ds.base == 0x12340) := by decide +kernel

theorem test_vector_mov_ds_null : Runs
    (ld 0x1000 [0x8E, 0xDB] (gdt s32))
    (fun s => s.segs.ds.usable == false && s.eip == 0x1002) := by decide +kernel

theorem test_vector_mov_ss_null : Runs
    (ld 0x1000 [0x8E, 0xD3] (idt 13 s32))
    (fun s => vec s == 13) := by decide +kernel

theorem test_vector_add : Runs
    (let s := ld 0x1000 [0x00, 0xD8] s32;
      { s with regs := {s.regs with eax := 0x7F, ebx := 0x1}, flags := {s.flags with CF := false}})
    (fun s => s.regs.eax == 0x80 && s.flags.OF == true && s.flags.SF == true && s.flags.ZF == false &&
      s.flags.AF == true && s.flags.PF == false && s.flags.CF == false) := by decide +kernel

theorem test_vector_adc : Runs
    (let s := ld 0x1000 [0x11, 0xD8] s32;
      { s with regs := {s.regs with eax := 0xFFFFFFFF, ebx := 0xFFFFFFFF}, flags := {s.flags with CF := true}})
    (fun s => s.regs.eax == 0xFFFFFFFF && s.flags.OF == false && s.flags.SF == true && s.flags.ZF == false &&
      s.flags.AF == true && s.flags.PF == true && s.flags.CF == true) := by decide +kernel

theorem test_vector_sub : Runs
    (let s := ld 0x1000 [0x29, 0xD8] s32;
      { s with regs := {s.regs with eax := 0x80000000, ebx := 0x7FFFFFFF}, flags := {s.flags with CF := false}})
    (fun s => s.regs.eax == 0x1 && s.flags.OF == true && s.flags.SF == false && s.flags.ZF == false &&
      s.flags.AF == true && s.flags.PF == false && s.flags.CF == false) := by decide +kernel

theorem test_vector_sbb : Runs
    (let s := ld 0x1000 [0x18, 0xD8] s32;
      { s with regs := {s.regs with eax := 0x0, ebx := 0x0}, flags := {s.flags with CF := true}})
    (fun s => s.regs.eax == 0xFF && s.flags.OF == false && s.flags.SF == true && s.flags.ZF == false &&
      s.flags.AF == true && s.flags.PF == true && s.flags.CF == true) := by decide +kernel

theorem test_vector_cmp : Runs
    (let s := ld 0x1000 [0x38, 0xD8] s32;
      { s with regs := {s.regs with eax := 0x5, ebx := 0x5}, flags := {s.flags with CF := false}})
    (fun s => s.regs.eax == 0x5 && s.flags.OF == false && s.flags.SF == false && s.flags.ZF == true &&
      s.flags.AF == false && s.flags.PF == true && s.flags.CF == false) := by decide +kernel

theorem test_vector_and : Runs
    (let s := ld 0x1000 [0x66, 0x21, 0xD8] s32;
      { s with regs := {s.regs with eax := 0x37F, ebx := 0x103F}, flags := {s.flags with CF := false}})
    (fun s => s.regs.eax == 0x3F && s.flags.OF == false && s.flags.SF == false && s.flags.ZF == false &&
      s.flags.PF == true && s.flags.CF == false) := by decide +kernel

theorem test_vector_or : Runs
    (let s := ld 0x1000 [0x09, 0xD8] s32;
      { s with regs := {s.regs with eax := 0x11, ebx := 0x80000000}, flags := {s.flags with CF := false}})
    (fun s => s.regs.eax == 0x80000011 && s.flags.OF == false && s.flags.SF == true && s.flags.ZF == false &&
      s.flags.PF == true && s.flags.CF == false) := by decide +kernel

theorem test_vector_xor : Runs
    (let s := ld 0x1000 [0x30, 0xD8] s32;
      { s with regs := {s.regs with eax := 0xFF, ebx := 0x55}, flags := {s.flags with CF := false}})
    (fun s => s.regs.eax == 0xAA && s.flags.OF == false && s.flags.SF == true && s.flags.ZF == false &&
      s.flags.PF == true && s.flags.CF == false) := by decide +kernel

theorem test_vector_test : Runs
    (let s := ld 0x1000 [0x84, 0xD8] s32;
      { s with regs := {s.regs with eax := 0x80, ebx := 0x80}, flags := {s.flags with CF := false}})
    (fun s => s.regs.eax == 0x80 && s.flags.OF == false && s.flags.SF == true && s.flags.ZF == false &&
      s.flags.PF == false && s.flags.CF == false) := by decide +kernel

theorem test_vector_inc : Runs
    (let s := ld 0x1000 [0xFE, 0xC0] s32; { s with regs := {s.regs with eax := 0x7F}})
    (fun s => s.regs.eax == 0x80 && s.flags.OF == true && s.flags.SF == true && s.flags.ZF == false &&
      s.flags.AF == true && s.flags.PF == false) := by decide +kernel

theorem test_vector_dec : Runs
    (let s := ld 0x1000 [0xFE, 0xC8] s32; { s with regs := {s.regs with eax := 0x80}})
    (fun s => s.regs.eax == 0x7F && s.flags.OF == true && s.flags.SF == false && s.flags.ZF == false &&
      s.flags.AF == true && s.flags.PF == false) := by decide +kernel

theorem test_vector_neg : Runs
    (let s := ld 0x1000 [0xF6, 0xD8] s32; { s with regs := {s.regs with eax := 0x80}})
    (fun s => s.regs.eax == 0x80 && s.flags.OF == true && s.flags.SF == true && s.flags.ZF == false &&
      s.flags.AF == false && s.flags.PF == false && s.flags.CF == true) := by decide +kernel

theorem test_vector_not : Runs
    (let s := ld 0x1000 [0xF6, 0xD0] s32; { s with regs := {s.regs with eax := 0x55}})
    (fun s => s.regs.eax == 0xAA && s.flags.OF == false && s.flags.SF == false && s.flags.ZF == false &&
      s.flags.AF == false && s.flags.PF == false && s.flags.CF == false) := by decide +kernel

theorem test_vector_mul : Runs
    (let s := ld 0x1000 [0xF6, 0xE3] (gdt s32); { s with regs := {s.regs with eax := 0xFF, edx := 0x0, ebx := 0xFF}})
    (fun s => s.regs.eax == 0xFE01 && s.regs.edx == 0x0 && s.flags.CF == true && s.flags.OF == true) := by decide +kernel

theorem test_vector_imul : Runs
    (let s := ld 0x1000 [0xF7, 0xEB] (gdt s32);
      { s with regs := {s.regs with eax := 0xFFFFFFFF, edx := 0x0, ebx := 0x7FFFFFFF}})
    (fun s => s.regs.eax == 0x80000001 && s.regs.edx == 0xFFFFFFFF && s.flags.CF == false && s.flags.OF == false) := by decide +kernel

theorem test_vector_div_overflow : Runs
    (let s := ld 0x1000 [0xF6, 0xF3] (idt 0 s32);
      { s with regs := {s.regs with eax := 0x100, edx := 0x0, ebx := 0x1}})
    (fun s => vec s == 0) := by decide +kernel

theorem test_vector_idiv : Runs
    (let s := ld 0x1000 [0xF6, 0xFB] (gdt s32); { s with regs := {s.regs with eax := 0x7, edx := 0x0, ebx := 0xFE}})
    (fun s => s.regs.eax == 0x1FD && s.regs.edx == 0x0) := by decide +kernel

theorem test_vector_shl : Runs
    (let s := ld 0x1000 [0xD2, 0xE0] s32;
      { s with regs := {s.regs with eax := 0x81, ecx := 0x1}, flags := {s.flags with CF := false}})
    (fun s => s.regs.eax == 0x2 && s.flags.OF == true && s.flags.SF == false && s.flags.ZF == false &&
      s.flags.PF == false && s.flags.CF == true) := by decide +kernel

theorem test_vector_shr : Runs
    (let s := ld 0x1000 [0xD2, 0xE8] s32;
      { s with regs := {s.regs with eax := 0x81, ecx := 0x1}, flags := {s.flags with CF := false}})
    (fun s => s.regs.eax == 0x40 && s.flags.OF == true && s.flags.SF == false && s.flags.ZF == false &&
      s.flags.PF == false && s.flags.CF == true) := by decide +kernel

theorem test_vector_sar : Runs
    (let s := ld 0x1000 [0xD2, 0xF8] s32;
      { s with regs := {s.regs with eax := 0xFB, ecx := 0x1}, flags := {s.flags with CF := false}})
    (fun s => s.regs.eax == 0xFD && s.flags.OF == false && s.flags.SF == true && s.flags.ZF == false &&
      s.flags.PF == false && s.flags.CF == true) := by decide +kernel

theorem test_vector_rol : Runs
    (let s := ld 0x1000 [0xD2, 0xC0] s32;
      { s with regs := {s.regs with eax := 0x81, ecx := 0x4}, flags := {s.flags with CF := false}})
    (fun s => s.regs.eax == 0x18 && s.flags.CF == false) := by decide +kernel

theorem test_vector_ror : Runs
    (let s := ld 0x1000 [0x66, 0xD3, 0xC8] s32;
      { s with regs := {s.regs with eax := 0x1, ecx := 0x4}, flags := {s.flags with CF := false}})
    (fun s => s.regs.eax == 0x1000 && s.flags.CF == false) := by decide +kernel

theorem test_vector_rcl : Runs
    (let s := ld 0x1000 [0xD2, 0xD0] s32;
      { s with regs := {s.regs with eax := 0x1, ecx := 0x8}, flags := {s.flags with CF := true}})
    (fun s => s.regs.eax == 0x80 && s.flags.CF == true) := by decide +kernel

theorem test_vector_rcr : Runs
    (let s := ld 0x1000 [0xD2, 0xD8] s32;
      { s with regs := {s.regs with eax := 0x1, ecx := 0x2}, flags := {s.flags with CF := false}})
    (fun s => s.regs.eax == 0x80 && s.flags.CF == false) := by decide +kernel

theorem test_vector_shld : Runs
    (let s := ld 0x1000 [0x0F, 0xA5, 0xD8] s32;
      { s with regs := {s.regs with eax := 0x12345678, ebx := 0x9ABCDEF0, ecx := 0x4}})
    (fun s => s.regs.eax == 0x23456789 && s.flags.SF == false && s.flags.ZF == false && s.flags.PF == false &&
      s.flags.CF == true) := by decide +kernel

theorem test_vector_shrd : Runs
    (let s := ld 0x1000 [0x0F, 0xAD, 0xD8] s32;
      { s with regs := {s.regs with eax := 0x12345678, ebx := 0x9ABCDEF0, ecx := 0x4}})
    (fun s => s.regs.eax == 0x1234567 && s.flags.SF == false && s.flags.ZF == false && s.flags.PF == false &&
      s.flags.CF == true) := by decide +kernel

theorem test_vector_bt : Runs
    (let s := ld 0x1000 [0x0F, 0xBA, 0xE0, 0x25] s32; { s with regs := {s.regs with eax := 0x20}})
    (fun s => s.flags.CF) := by decide +kernel

theorem test_vector_bts : Runs
    (ld 0x1000 [0x0F, 0xBA, 0xE8, 0x1F] s32)
    (fun s => s.regs.eax == 0x80000000 && !s.flags.CF) := by decide +kernel

theorem test_vector_btr : Runs
    (let s := ld 0x1000 [0x0F, 0xBA, 0xF0, 0x00] s32; { s with regs := {s.regs with eax := 0xFFFFFFFF}})
    (fun s => s.regs.eax == 0xFFFFFFFE && s.flags.CF) := by decide +kernel

theorem test_vector_btc : Runs
    (let s := ld 0x1000 [0x0F, 0xBA, 0xF8, 0x04] s32; { s with regs := {s.regs with eax := 0x10}})
    (fun s => s.regs.eax == 0x0 && s.flags.CF) := by decide +kernel

theorem test_vector_bsf : Runs
    (let s := ld 0x1000 [0x0F, 0xBC, 0xC3] s32; { s with regs := {s.regs with ebx := 0x8000}})
    (fun s => s.regs.eax == 0xF && !s.flags.ZF) := by decide +kernel

theorem test_vector_bsr : Runs
    (let s := ld 0x1000 [0x0F, 0xBD, 0xC3] s32; { s with regs := {s.regs with ebx := 0x8001}})
    (fun s => s.regs.eax == 0xF && !s.flags.ZF) := by decide +kernel

theorem test_vector_daa : Runs
    (let s := ld 0x1000 [0x27] s32; { s with regs := {s.regs with eax := 0xAE}})
    (fun s => s.regs.eax == 0x14 && s.flags.SF == false && s.flags.ZF == false && s.flags.AF == true &&
      s.flags.PF == true && s.flags.CF == true) := by decide +kernel

theorem test_vector_das : Runs
    (let s := ld 0x1000 [0x2F] s32;
      { s with regs := {s.regs with eax := 0xEE}, flags := {s.flags with CF := true, AF := true}})
    (fun s => s.regs.eax == 0x88 && s.flags.SF == true && s.flags.AF == true && s.flags.PF == true &&
      s.flags.CF == true) := by decide +kernel

theorem test_vector_aaa : Runs
    (let s := ld 0x1000 [0x37] s32; { s with regs := {s.regs with eax := 0xFA}})
    (fun s => s.regs.eax == 0x100 && s.flags.AF == true && s.flags.CF == true) := by decide +kernel

theorem test_vector_aas : Runs
    (let s := ld 0x1000 [0x3F] s32; { s with regs := {s.regs with eax := 0x200}, flags := {s.flags with AF := true}})
    (fun s => s.regs.eax == 0x10A && s.flags.AF == true && s.flags.CF == true) := by decide +kernel

theorem test_vector_aam : Runs
    (let s := ld 0x1000 [0xD4, 0x0A] s32; { s with regs := {s.regs with eax := 0xFF}})
    (fun s => s.regs.eax == 0x1905 && s.flags.SF == false && s.flags.ZF == false && s.flags.PF == true) := by decide +kernel

theorem test_vector_aam_zero : Runs
    (let s := ld 0x1000 [0xD4, 0x00] (idt 0 s32); { s with regs := {s.regs with eax := 0xFF}})
    (fun s => vec s == 0) := by decide +kernel

theorem test_vector_aad : Runs
    (let s := ld 0x1000 [0xD5, 0x0A] s32; { s with regs := {s.regs with eax := 0x909}})
    (fun s => s.regs.eax == 0x63 && s.flags.SF == false && s.flags.ZF == false && s.flags.PF == true) := by decide +kernel

theorem test_vector_bound_inside : Runs
    (let s := ld 0x100 [0x62, 0x07] s16; ld 0x3000 [0, 0, 9,
      0] { s with regs := {s.regs with eax := 0x5, ebx := 0x3000}})
    (fun s => vec s == 999 && s.eip == 0x102) := by decide +kernel

theorem test_vector_bound_outside : Runs
    (let s := ld 0x100 [0x62, 0x07] (ivt 5 s16); ld 0x3000 [0, 0, 9,
      0] { s with regs := {s.regs with eax := 0xA, ebx := 0x3000}})
    (fun s => vec s == 5 && m2 s 0x3FA == 0x100) := by decide +kernel

theorem test_vector_jmp : Runs
    (let s := ld 0x100 [] s16; ld 0x2E [0xEB, 0x18] { s with eip := 0x2E})
    (fun s => s.eip == 0x48) := by decide +kernel

theorem test_vector_jg : Runs
    (ld 0x100 [0x7F, 0x02] s16)
    (fun s => s.eip == 0x104) := by decide +kernel

theorem test_vector_loop : Runs
    (let s := ld 0x100 [0xE2, 0xFE] s16; { s with regs := {s.regs with ecx := 0x1}})
    (fun s => s.eip == 0x102 && s.regs.ecx == 0) := by decide +kernel

theorem test_vector_loope : Runs
    (let s := ld 0x100 [0xE1, 0xFE] s16; { s with regs := {s.regs with ecx := 0x5}})
    (fun s => s.eip == 0x102 && s.regs.ecx == 4) := by decide +kernel

theorem test_vector_loopne : Runs
    (let s := ld 0x100 [0xE0, 0xFE] s16; { s with regs := {s.regs with ecx := 0x5}})
    (fun s => s.eip == 0x100 && s.regs.ecx == 4) := by decide +kernel

theorem test_vector_call : Runs
    (let s := ld 0x100 [] s16; ld 0x109 [0xE8, 2, 0] { s with eip := 0x109})
    (fun s => s.eip == 0x10E && s.regs.esp == 0x3FE && m2 s 0x3FE == 0x10C) := by decide +kernel

theorem test_vector_ret : Runs
    (let s := ld 0x100 [0xC3] s16; ld 0x3FE [0xC, 1] { s with regs := {s.regs with esp := 0x3FE}})
    (fun s => s.eip == 0x10C && s.regs.esp == 0x400) := by decide +kernel

theorem test_vector_ret_imm : Runs
    (let s := ld 0x1000 [0xC2, 0x08, 0x00] s32; ld 0x1FFC [5, 0x10] { s with regs := {s.regs with esp := 0x1FFC}})
    (fun s => s.eip == 0x1005 && s.regs.esp == 0x2008) := by decide +kernel

theorem test_vector_jmp_far : Runs
    (let s := ld 0x100 [] s16; ld 0x10200 [0xEA, 0, 1, 0,
      0x20] { s with eip := 0x200, segs := {s.segs with cs := .real 0x1000 0x10000 0}})
    (fun s => s.eip == 0x100 && s.segs.cs.base == 0x20000) := by decide +kernel

theorem test_vector_call_far : Runs
    (let s := ld 0x100 [] s16; ld 0x10200 [0x9A, 0, 1, 0,
      0x20] { s with eip := 0x200, segs := {s.segs with cs := .real 0x1000 0x10000 0}})
    (fun s => s.eip == 0x100 && s.segs.cs.base == 0x20000 && s.regs.esp == 0x3FC && m2 s 0x3FC == 0x205 &&
      m2 s 0x3FE == 0x1000) := by decide +kernel

theorem test_vector_int : Runs
    (let s := ld 0x100 [] s16; ld 0x84 [0, 4, 0x70, 0] (ld 0x10200 [0xCD,
      0x21] { s with eip := 0x200, segs := {s.segs with cs := .real 0x1000 0x10000 0}, flags := {s.flags with IF := true}}))
    (fun s => s.eip == 0x400 && s.segs.cs.base == 0x700 && s.regs.esp == 0x3FA && m2 s 0x3FA == 0x202 &&
      m2 s 0x3FC == 0x1000 && m2 s 0x3FE == 0x202 && !s.flags.IF) := by decide +kernel

theorem test_vector_into : Runs
    (ld 0x100 [0xCE] s16)
    (fun s => s.eip == 0x101) := by decide +kernel

theorem test_vector_int3 : Runs
    (ld 0x100 [0xCC] (ivt 3 s16))
    (fun s => vec s == 3 && m2 s 0x3FA == 0x101) := by decide +kernel

/-- 60 R769: the frame lies over the vector, which is read after the pushes: the handler is the return address. -/
theorem test_into_frame_over_vector : Runs
    (let s := ld 0x100 [0xCE] s16
     { s with regs := { s.regs with esp := 0x16 }, flags := { s.flags with OF := true } })
    (fun s => s.eip == 0x101 && s.segs.cs.selector == 0 && s.regs.esp == 0x10) := by decide +kernel

theorem test_vector_iret_to_v86 : Runs
    (let s := ld 0x1000 [0xCF] (gdt s32); ld 0x2000 [0, 1, 0, 0, 0, 0x20, 0, 0, 2, 0, 2, 0, 0x80, 0, 0, 0, 0, 0x30, 0,
      0, 0, 0x40, 0, 0, 0, 0x50, 0, 0, 0, 0x60, 0, 0, 0, 0x70, 0, 0] s)
    (fun s => s.flags.VM && s.segs.cs.base == 0x20000 && s.eip == 0x100 && s.regs.esp == 0x80 &&
      s.segs.ss.base == 0x30000 && s.segs.es.base == 0x40000 && s.segs.ds.base == 0x50000 &&
      s.segs.fs.base == 0x60000 && s.segs.gs.base == 0x70000 && s.cpl == 3) := by decide +kernel

theorem test_vector_jmp_task : Runs
    (let s := ld 0x1000 [0xEA, 0x00, 0x00, 0x00, 0x00, 0x20, 0x00] (gdt s32); tasks s)
    (fun s => s.eip == 0x4000 && s.tr.selector == 0x20 && s.regs.eax == 1 && s.regs.edi == 8 &&
      s.regs.esp == 0x1F00 && s.cr0.TS && m s 0x501D == 0x89 && m s 0x5025 == 0x8B && s.segs.fs.usable == false &&
      m4 s 0x7820 == 0x1007 && s.flags.IF) := by decide +kernel

theorem test_vector_call_task : Runs
    (let s := ld 0x1000 [0x9A, 0x00, 0x00, 0x00, 0x00, 0x20, 0x00] (gdt s32); tasks s)
    (fun s => s.eip == 0x4000 && s.tr.selector == 0x20 && s.cr0.TS && m s 0x501D == 0x8B && m s 0x5025 == 0x8B &&
      s.flags.NT && m2 s 0x7900 == 0x18) := by decide +kernel

theorem test_vector_intr : Runs
    (let s := ld 0x1000 [0x90] (idt 32 s32); ld 0x6100 [0x20, 0x70, 8, 0, 0, 0x8E, 0,
      0] { s with intr := some 0x20, flags := {s.flags with IF := true}})
    (fun s => vec s == 0x20 && s.regs.esp == 0x1FF4 && !s.flags.IF && s.intr == none) := by decide +kernel

theorem test_vector_int_dpl : Runs
    (let s := ld 0x1000 [0xCD, 0x80] (idt 13 s32); ld 0x6400 [0x20, 0x70, 8, 0, 0, 0x8E, 0, 0] (user s))
    (fun s => vec s == 13 && s.cpl == 0) := by decide +kernel

theorem test_vector_rep_zero : Runs
    (ld 0x100 [0xF3, 0xA4] s16)
    (fun s => s.eip == 0x102) := by decide +kernel

theorem test_vector_movs_wrap : Runs
    (let s := ld 0x100 [0xA4] s16; { s with regs := {s.regs with esi := 0xFFFF, edi := 0x3000}})
    (fun s => s.regs.esi == 0) := by decide +kernel

theorem test_vector_lods : Runs
    (let s := ld 0x100 [0xAC] s16; ld 0x200 [0x7F] { s with regs := {s.regs with esi := 0x200}})
    (fun s => s.regs.eax == 0x7F && s.regs.esi == 0x201) := by decide +kernel

theorem test_vector_in_denied : Runs
    (let s := ld 0x1000 [0xE5, 0x07] (idt 13 s32); let s := ld 0x7866 [0x68, 0] (ld 0x7868 [3, 0x4C, 0x0F, 0xF6, 0xF9,
      0xFC, 0xCA, 0x23, 0xFF] {(user s) with tr := {selector := 0x30, base := 0x7800, limit := 0x70, is386 := true}});
      { s with regs := {s.regs with edx := 0x0, esp := 0xFFF0}})
    (fun s => vec s == 13) := by decide +kernel

theorem test_vector_out_allowed : Runs
    (let s := ld 0x1000 [0x66, 0xE7, 0x21] (gdt s32); let s := ld 0x7866 [0x68, 0] (ld 0x7868 [3, 0x4C, 0x0F, 0xF6,
      0xF9, 0xFC, 0xCA, 0x23,
      0xFF] {(user s) with tr := {selector := 0x30, base := 0x7800, limit := 0x70, is386 := true}});
      { s with regs := {s.regs with edx := 0x0, esp := 0xFFF0}})
    (fun s => vec s == 999) := by decide +kernel

theorem test_vector_cli_denied : Runs
    (let s := ld 0x1000 [0xFA] (idt 13 s32); user s)
    (fun s => vec s == 13) := by decide +kernel

theorem test_vector_pushf : Runs
    (let s := ld 0x100 [0x9C] s16; { s with regs := {s.regs with esp := 0x100}, flags := {s.flags with IF := true}})
    (fun s => s.regs.esp == 0xFE) := by decide +kernel

theorem test_vector_popf_user : Runs
    (let s := ld 0x1000 [0x66, 0x9D] (gdt s32); ld 0xFFF0 [2, 0x32] (user s))
    (fun s => s.flags.IOPL == 0 && !s.flags.IF) := by decide +kernel

theorem test_vector_lgdt : Runs
    (let s := ld 0x100 [0x0F, 0x01, 0x16, 0x30, 0x80] s16; ld 0x8030 [0x17, 0, 0x40, 0x80, 0xFF, 0xFF] s)
    (fun s => s.gdtr.limit == 0x17 && s.gdtr.base == 0xFF8040) := by decide +kernel

theorem test_vector_lidt_denied : Runs
    (let s := ld 0x1000 [0x0F, 0x01, 0x1D, 0x00, 0x00, 0x00, 0x00] (idt 13 s32); user s)
    (fun s => vec s == 13) := by decide +kernel

theorem test_vector_sidt : Runs
    (let s := ld 0x100 [0x0F, 0x01, 0x0E, 0x00, 0x03] s16; s)
    (fun s => m2 s 0x300 == 0x3FF && m4 s 0x302 == 0) := by decide +kernel

theorem test_vector_lldt_null : Runs
    (let s := ld 0x1000 [0x0F, 0x00, 0xD0] (gdt s32); s)
    (fun s => !s.ldtr.valid && s.eip == 0x1003) := by decide +kernel

theorem test_vector_lldt_real : Runs
    (let s := ld 0x100 [0x0F, 0x00, 0xD0] (ivt 6 s16); s)
    (fun s => vec s == 6) := by decide +kernel

theorem test_vector_ltr_busy : Runs
    (let s := ld 0x1000 [0x0F, 0x00, 0xD8] (gdt s32); let s := tasks s;{ s with regs := {s.regs with eax := 0x20}})
    (fun s => s.tr.base == 0x7900 && m s 0x5025 == 0x8B) := by decide +kernel

theorem test_vector_lmsw : Runs
    (let s := ld 0x100 [0x0F, 0x01, 0xF0] s16; { s with regs := {s.regs with eax := 0x1}})
    (fun s => s.cr0.PE) := by decide +kernel

theorem test_vector_smsw : Runs
    (let s := ld 0x1000 [0x66, 0x0F, 0x01, 0xE0] s32;
      { s with cr0 := {PE := true, MP := true, EM := false, TS := true, ET := true, PG := false, reserved := 0}})
    (fun s => s.regs.eax == 0x1B) := by decide +kernel

theorem test_vector_clts : Runs
    (let s := ld 0x1000 [0x0F, 0x06] s32; { s with cr0 := {s.cr0 with TS := true}})
    (fun s => !s.cr0.TS) := by decide +kernel

theorem test_vector_clts_denied : Runs
    (let s := ld 0x1000 [0x0F, 0x06] (idt 13 s32); user s)
    (fun s => vec s == 13) := by decide +kernel

theorem test_vector_mov_cr0_pg_without_pe : Runs
    (let s := ld 0x100 [0x0F, 0x22, 0xC0] (ivt 13 s16); { s with regs := {s.regs with eax := 0x80000000}})
    (fun s => vec s == 13) := by decide +kernel

theorem test_vector_mov_cr3 : Runs
    (let s := ld 0x1000 [0x0F, 0x22, 0xD8] s32; { s with regs := {s.regs with eax := 0x100FFF}})
    (fun s => s.cr3 == 0x100000) := by decide +kernel

/-- Tables at 100000H map the code to itself, those at 300000H to other bytes; paging has just been turned off by the
instruction before 0FFDH. -/
def unpaged (old : Option OldPaging) (s : State) : State :=
  let s := pageTables (ld 0x300000 [7, 0x10, 0x30, 0] (ld 0x301004 [7, 0x20, 0, 0] s))
  { s with staleModes := [{ PE := true, PG := true, next := 0xFFD#32, clean := true, paging := old }] }

/-- MOV CR3 keeps, for what is queued, the tables it was fetched through (70 R850, C15). -/
theorem test_mov_cr3_after_paging_off : Runs
    (let s := unpaged none (ld 0xFFD [0x0F, 0x22, 0xD8] s32);
      { s with eip := 0xFFD, cr3 := 0x100000, regs := {s.regs with eax := 0x300000}})
    (fun s => s.cr3 == 0x300000 && s.staleModes.map (·.paging) == [some { cr3 := 0x100000, tlb := [] }]) := by
  decide +kernel

/-- The JMP after that MOV CR3 has one result (70 R850, R860). -/
theorem test_jmp_after_mov_cr3 : Runs
    (let s := unpaged (some { cr3 := 0x100000, tlb := [] }) (ld 0x1000 [0xEB, 0x10] s32); { s with cr3 := 0x300000})
    (fun s => s.eip == 0x1012 && s.draws == 0 && s.staleModes.isEmpty) := by decide +kernel

/-- MOV CR0 that sets PG keeps, for what is queued, the TLB as it stood (20 R233). -/
theorem test_mov_cr0_paging_on : Runs
    (let s := pageTables (ld 0x1000 [0x0F, 0x22, 0xC0] s32);
      { s with cr3 := 0x100000, regs := {s.regs with eax := 0x80000001}})
    (fun s => s.cr0.PG && s.staleModes.map (·.paging) == [some { cr3 := 0x100000, tlb := [] }]) := by decide +kernel

/-- INT 40H queued in real mode, with PE set since and the vector beyond the IDT limit: the double fault pushes an
error code, a fourth item, through the protected gate (60 R748, 70 R860). -/
theorem test_queued_int_beyond_limit :
    (match exec (.intIb 0x40) (let s := idt 8 s32;
        { s with
          idtr := { s.idtr with limit := 0xFF }
          insn := { Insn.start with
            len := 2, oldMode := some { PE := false, PG := false, next := 0, clean := false, paging := none } } }) with
      | .next t => vec t == 8 && t.regs.esp == 0x1FF0
      | _ => false) = true := by decide +kernel

/-- A load that wraps past FFFFFFFFH meets a breakpoint at 0, not one at 2 (20 R132, 60 R741). -/
theorem test_wrapped_load_breakpoint : Runs
    (let s := ld 0x1000 [0xA1, 0xFE, 0x0F, 0, 0] s32;
      { s with
        dr := { s.dr with dr0 := 0, dr1 := 2, dr7 := 0xFF0005 }
        segs := { s.segs with ds := { s.segs.ds with base := 0xFFFFF000 } } })
    (fun s => s.eip == 0x1005 && s.pendingDb == 1) := by decide +kernel

/-- In the mode before PG was set, with a translation of page 3 cached since. -/
def lateCached : State :=
  { s32 with
    cr0 := { s32.cr0 with PG := true }
    tlb := [{ page := 3, frame := 9, user := true, writeable := true, dirty := true }]
    insn := { Insn.start with
      oldMode := some { PE := true, PG := false, next := 0, clean := false, paging := some { cr3 := 0, tlb := [] } } } }

/-- What is queued from before PG was set uses nothing cached since (20 R233). -/
theorem test_unpaged_mode_after_paging_on :
    (match translate 0x3004#32 true false lateCached with
      | .ok pa u => pa == 0x3004#32 && u.draws == lateCached.draws
      | .error _ _ => false) = true := by decide +kernel

theorem test_vector_mov_cr1 : Runs
    (let s := ld 0x1000 [0x0F, 0x20, 0xC8] (idt 6 s32); s)
    (fun s => vec s == 6) := by decide +kernel

theorem test_vector_lar : Runs
    (let s := ld 0x1000 [0x0F, 0x02, 0xC3] s32; ld 0x5008 [0xFF, 0xFF, 0, 0, 0, 0x9B, 0xCF,
      0] { s with regs := {s.regs with ebx := 0x8}})
    (fun s => s.regs.eax == 0xC09B00 && s.flags.ZF) := by decide +kernel

theorem test_vector_lsl : Runs
    (let s := ld 0x1000 [0x0F, 0x03, 0xC3] s32; ld 0x5008 [0xFF, 0xFF, 0, 0, 0, 0x9B, 0xCF,
      0] { s with regs := {s.regs with ebx := 0x8}})
    (fun s => s.regs.eax == 0xFFFFFFFF && s.flags.ZF) := by decide +kernel

theorem test_vector_verr : Runs
    (let s := ld 0x1000 [0x0F, 0x00, 0xE0] (gdt s32); { s with regs := {s.regs with eax := 0x10}})
    (fun s => s.flags.ZF) := by decide +kernel

theorem test_vector_arpl : Runs
    (let s := ld 0x1000 [0x63, 0xC8] s32; { s with regs := {s.regs with eax := 0x8, ecx := 0x23}})
    (fun s => s.regs.eax == 0xB && s.flags.ZF) := by decide +kernel

theorem test_vector_paged_write : Runs
    (let s := ld 0x1000 [0x88, 0x03] (gdt s32); let s := pageTables s;
      { s with cr0 := {s.cr0 with PG := true}, cr3 := 0x100000, regs := {s.regs with ebx := 0x403025, esp := 0x2000}})
    (fun s => s.eip == 0x1002 && m4 s 0x100004 == 0x101027 && m4 s 0x10100C == 0x205065) := by decide +kernel

theorem test_vector_paged_read : Runs
    (let s := ld 0x1000 [0x8A, 0x03] (gdt s32); ld 0x205025 [9] (let s := pageTables (user s);
      { s with cr0 := {s.cr0 with PG := true}, cr3 := 0x100000, regs := {s.regs with ebx := 0x403025, esp := 0x2000}}))
    (fun s => s.regs.eax == 9 && m4 s 0x100004 == 0x101027 && m4 s 0x10100C == 0x205025) := by decide +kernel

theorem test_vector_esc_emulated : Runs
    (let s := ld 0x1000 [0xD9, 0xE8] (idt 7 s32); { s with cr0 := {s.cr0 with EM := true}})
    (fun s => vec s == 7) := by decide +kernel

theorem test_vector_sib : Runs
    (let s := ld 0x1000 [0x8B, 0x44, 0x8B, 0x10] s32;
      ld 0x3020 [5] { s with regs := {s.regs with ebx := 0x3000, ecx := 0x4}})
    (fun s => s.regs.eax == 5) := by decide +kernel
/-! ### Witnesses: states and operands that meet the hypotheses of the obligations -/

def ranOk {α : Type} (m : M α) (s : State) : Bool :=
  match m s with
  | .ok _ _ => true
  | .error _ _ => false

def valOf {α : Type} (d : α) (m : M α) (s : State) : α :=
  match m s with
  | .ok a _ => a
  | .error _ _ => d

def stOf {α : Type} (m : M α) (s : State) : State :=
  match m s with
  | .ok _ t => t
  | .error _ t => t

theorem ran {α : Type} {m : M α} {s : State} (d : α) (h : ranOk m s = true) : m s = .ok (valOf d m s) (stOf m s) := by
  cases hm : m s with
  | ok a t => simp [valOf, stOf, hm]
  | error e t => simp [ranOk, hm] at h

theorem ran_unit {m : M Unit} {s : State} (h : ranOk m s = true) : m s = .ok () (stOf m s) := ran () h

/-- `x` runs to its end in `s`, and `p` is true of what it answers. -/
def oks {α : Type} (x : M α) (s : State) (p : α → State → Bool) : Bool :=
  match x s with
  | .ok a t => p a t
  | .error _ _ => false

/-- `x` runs to its end in `s`. -/
def okay {α : Type} (x : M α) (s : State) : Bool := oks x s fun _ _ => true

/-- `x` raises an exception of vector `v` in `s`, to be taken in the state reached or not. -/
def raises {α : Type} (x : M α) (s : State) (v : Byte) (here : Bool := false) : Bool :=
  match x s with
  | .error (.exc e) _ => e.vector == v && !here
  | .error (.excHere e) _ => e.vector == v && here
  | _ => false

def noDesc : Desc := { lo := 0#32, hi := 0#32 }

/-- Selector `sel` names a descriptor in `s`, of which `p` is true. -/
def names (s : State) (sel : Half) (p : Desc → Bool) : Bool :=
  match s.descAddr sel with
  | some la => decide (4 ≤ sel.toNat) && oks (readDesc la) s fun d _ => p d
  | none => false

/-- Nothing lies at selector `sel`, which is not null. -/
def missing (s : State) (sel : Half) : Bool := decide (4 ≤ sel.toNat) && s.descAddr sel == none

/-- A computation that runs to its end. -/
theorem ran_exists {α : Type} {m : M α} {s : State} (d : α) (h : ranOk m s = true) : ∃ x u, m s = .ok x u := by
  exact ⟨_, _, ran d h⟩

theorem no_prefix {s : State} {l st : Bool} (h1 : s.insn.lock = false) (h2 : s.insn.rep = false)
    (h3 : s.insn.repne = false) : s.prefixOk l st := by
  simp [State.prefixOk, h1, h2, h3]

/-- In real mode, two bytes of an instruction seen: 16-bit operands, or 32-bit ones. -/
def real : State :=
  { ld 0x3000 [5, 0, 9, 0, 0x10, 0] (ld 0x400 [0x34, 0x12, 0x78, 0x56, 0x02, 0x02, 1, 0, 2, 0, 3, 0] s16) with
    regs := { eax := 0x11220005#32, ecx := 2#32, edx := 0x3F8#32, ebx := 0x3000#32, esp := 0x400#32,
              ebp := 0x480#32, esi := 0x3000#32, edi := 0x4000#32 }
    insn := { Insn.start with len := 2 } }

def real32 : State := { real with insn := { real.insn with opSize := true } }

/-- In V86 mode. -/
def v86 : State :=
  { real with
    cr0 := { real.cr0 with PE := true }, flags := { real.flags with VM := true }
    segs := { es := .real 0#16 0#32 3#2, cs := .real 0#16 0#32 3#2, ss := .real 0#16 0#32 3#2,
              ds := .real 0#16 0#32 3#2, fs := .real 0#16 0#32 3#2, gs := .real 0#16 0#32 3#2 } }

/-- In protected mode at CPL 0, and at CPL 3. In the GDT: code 08H, data 10H, code 18H and data 20H of level 3, an LDT
28H, a TSS 30H, code 38H that is not present. Gates for vectors 6 (interrupt) and 14 (trap). -/
def prot : State :=
  { ld 0x5008 (codeAndData ++ [0xFF, 0xFF, 0, 0, 0, 0xFB, 0xCF, 0, 0xFF, 0xFF, 0, 0, 0, 0xF3, 0xCF, 0,
        0x2F, 0, 0, 9, 0, 0x82, 0, 0, 0x67, 0, 0, 0xA, 0, 0x89, 0, 0, 0xFF, 0xFF, 0, 0, 0, 0x1B, 0xCF, 0])
      (ld 0x6030 [6, 0x70, 8, 0, 0, 0x8E, 0, 0] (ld 0x6070 [14, 0x70, 8, 0, 0, 0x8F, 0, 0]
        (ld 0x3000 [0x10, 0, 0, 0, 0x10, 0, 0, 0] (ld 0x2000 [0x10, 0, 0, 0, 8, 0, 0, 0] s32)))) with
    regs := { real.regs with esp := 0x2000#32, ebp := 0x2080#32 }
    gdtr := { base := 0x5000#32, limit := 0x3F#16 }
    insn := { Insn.start with len := 2 } }

def prot16 : State := { prot with insn := { prot.insn with opSize := true } }

def prot3 : State := { prot with segs := flatSegs 0x1B#16 0x23#16 3#2 }

/-- `prot` with more in the GDT. Call gates of level 3: 40H to code 08H with one parameter, 58H not present, 80H to a
null selector, 88H beyond the table, 90H to data, 98H to code not present, A0H beyond the limit of the conforming code
68H, A8H to it; 50H one of level 0. Task gates: 48H to the TSS C0H, C8H not present, D0H to a null selector, D8H to
data, E0H to a TSS not present. TSSs: the running one 60H, an available one C0H, B0H not present, E8H too small, B8H
busy. Data: 70H not present, 78H not accessed yet. Gates for vectors 20H (trap), 21H (task), 22H (not present), 23H
(null), 24H (beyond the table), 25H (data), 26H (not present), 27H (beyond the limit), 28H (of the 80286), 29H (no
gate). -/
def sys : State :=
  { prot with
    mem := cells 0x2000 [0x10, 0, 0, 0, 8, 0, 0, 0] ++ cells 0x3000 [0x10, 0, 0, 0, 0x10, 0, 0, 0] ++
      cells 0x5008 (codeAndData ++ [0xFF, 0xFF, 0, 0, 0, 0xFB, 0xCF, 0, 0xFF, 0xFF, 0, 0, 0, 0xF3, 0xCF, 0,
        0x2F, 0, 0, 9, 0, 0x82, 0, 0, 0x67, 0, 0, 0xA, 0, 0x89, 0, 0, 0xFF, 0xFF, 0, 0, 0, 0x1B, 0xCF, 0]) ++
      cells 0x5040 [0, 0x70, 8, 0, 1, 0xEC, 0, 0, 0, 0, 0xC0, 0, 0, 0xE5, 0, 0, 0, 0x70, 8, 0, 0, 0x8C, 0, 0,
        0, 0x70, 8, 0, 0, 0x6C, 0, 0, 0x67, 0, 0, 0x78, 0, 0x8B, 0, 0, 0xFF, 0xFF, 0, 0, 0, 0x9E, 0x40, 0,
        0xFF, 0xFF, 0, 0, 0, 0x13, 0xCF, 0, 0xFF, 0xFF, 0, 0, 0, 0x92, 0xCF, 0] ++
      cells 0x5080 [0, 0x70, 0, 0, 0, 0xEC, 0, 0, 0, 0x70, 0xF8, 0, 0, 0xEC, 0, 0, 0, 0x70, 0x10, 0, 0, 0xEC, 0, 0,
        0, 0x70, 0x38, 0, 0, 0xEC, 0, 0, 0, 0, 0x68, 0, 0, 0xEC, 1, 0, 0, 0x70, 0x68, 0, 0, 0xEC, 0, 0,
        0x67, 0, 0, 0xA, 0, 0x69, 0, 0, 0x67, 0, 0, 0x79, 0, 0x8B, 0, 0] ++
      cells 0x50C0 [0x67, 0, 0, 0x79, 0, 0xE9, 0, 0, 0, 0, 0xC0, 0, 0, 0x65, 0, 0, 0, 0, 0, 0, 0, 0xE5, 0, 0,
        0, 0, 0x10, 0, 0, 0xE5, 0, 0, 0, 0, 0xB0, 0, 0, 0xE5, 0, 0, 0x66, 0, 0, 0x79, 0, 0xE9, 0, 0] ++
      cells 0x6030 [6, 0x70, 8, 0, 0, 0x8E, 0, 0] ++ cells 0x6070 [14, 0x70, 8, 0, 0, 0x8F, 0, 0] ++
      cells 0x6100 [0x20, 0x70, 8, 0, 0, 0xEF, 0, 0, 0, 0, 0xC0, 0, 0, 0xE5, 0, 0, 0, 0x70, 8, 0, 0, 0x6F, 0, 0,
        0, 0x70, 0, 0, 0, 0xEF, 0, 0, 0, 0x70, 0xF8, 0, 0, 0xEF, 0, 0, 0, 0x70, 0x10, 0, 0, 0xEF, 0, 0,
        0, 0x70, 0x38, 0, 0, 0xEF, 0, 0, 0, 0, 0x68, 0, 0, 0xEF, 1, 0, 0, 0x70, 8, 0, 0, 0xE7, 0, 0] ++
      cells 0x7800 [0xB8, 0, 0, 0, 0, 0, 0x20, 0, 0x10] ++ cells 0x7920 taskBytes
    gdtr := { base := 0x5000#32, limit := 0xEF#16 }
    tr := { selector := 0x60#16, base := 0x7800#32, limit := 0x67#32, is386 := true } }

/-- The same at CPL 3, and in V86 mode. -/
def sys3 : State := { sys with segs := flatSegs 0x1B#16 0x23#16 3#2 }

def sysV86 : State := { sys with flags := { sys.flags with VM := true, IOPL := 3#2 }, segs := v86.segs }

/-- `[BX]` or `[EBX]`. -/
def bx : Mem := .ind16 .bx .none
def ebx : Mem := .ind32 .ebx .none

theorem witness_RegisterMovesComplete :
    SetsReg real (.movR8Ib .esp 0xFF#8) .w8 .esp 0xFF#32 ∧ real.prefixOk false false ∧
    SetsReg real32 .cbw .w32 .eax 5#32 ∧ real32.prefixOk false false := by
  exact ⟨.movR8Ib _ _, no_prefix rfl rfl rfl, .cwde rfl, no_prefix rfl rfl rfl⟩

theorem witness_LoadsComplete_operand :
    LoadsRM real (.movsxGvEb .ecx (.mem bx)) .w16 .ecx .w8 (.mem bx) (fun v => (v.setWidth 8).signExtend 32) ∧
    real.prefixOk false false ∧ ∃ x u, readRM .w8 (.mem bx) real.started = .ok x u := by
  exact ⟨.movsxGvEb _ _, no_prefix rfl rfl rfl, ran_exists 0#32 (by decide +kernel)⟩

theorem witness_LoadsComplete_accumulator :
    LoadsAcc real (.movEaxOv (.v16 0xFFFE#16)) .w16 .ds 0xFFFE#32 ∧ real.prefixOk false false ∧
    ∃ x u, memRead .ds 0xFFFE#32 2 real.started = .ok x u := by
  exact ⟨.movEaxOv _, no_prefix rfl rfl rfl, ran_exists 0 (by decide +kernel)⟩

theorem witness_StoresComplete :
    StoresMem real (.movEvGv (.mem bx) .ecx) .w16 .ds 0x3000#32 2#32 ∧ real.prefixOk false false ∧
    Memory.wf real.mem = true ∧ ∃ pas u, memAddrs .ds 0x3000#32 2 false true real.started = .ok pas u := by
  exact ⟨.movEvGv _ _, no_prefix rfl rfl rfl, by decide +kernel, ran_exists [] (by decide +kernel)⟩

def locked : State := { real with insn := { real.insn with lock := true } }

theorem locked_prefix : locked.prefixOk true false := by
  refine ⟨fun _ => ⟨rfl, by decide +kernel, rfl, rfl⟩, fun h => ?_, fun _ => rfl⟩
  rcases h with h | h <;> cases h

theorem witness_ExchangeCompletes :
    (Exchanges real (.xchgEvGv (.reg .ecx) .ecx) .w16 (.reg .ecx) .ecx ∧ real.prefixOk (RM.isMem (.reg .ecx)) false ∧
      Memory.wf real.mem = true ∧ ∃ p u, modifyRM .w16 (.reg .ecx) real.started = .ok p u) ∧
    (Exchanges locked (.xchgEbGb (.mem bx) .ecx) .w8 (.mem bx) .ecx ∧ locked.prefixOk (RM.isMem (.mem bx)) false ∧
      Memory.wf locked.mem = true ∧ ∃ p u, modifyRM .w8 (.mem bx) locked.started = .ok p u) := by
  exact ⟨⟨.xchgEvGv _ _, no_prefix rfl rfl rfl, by decide +kernel, ran_exists (.bytes [], 0#32) (by decide +kernel)⟩,
    .xchgEbGb _ _, locked_prefix, by decide +kernel, ran_exists (.bytes [], 0#32) (by decide +kernel)⟩

theorem witness_PushAndPopComplete_push :
    (Pushes prot .pushDs (Config.free 16 prot.draws ++ prot.segs.ds.selector) 1 ∧ prot.prefixOk false false ∧
      Memory.wf prot.mem = true ∧
      ∃ pas u, memAddrs .ss (prot.stackOff (prot.sp - BitVec.ofNat 32 prot.opWidth.bytes)) prot.opWidth.bytes false true
        { prot.started with draws := prot.draws + 1 } = .ok pas u) ∧
    ∃ v u pas u', readRM prot.opWidth (.mem ebx) prot.started = .ok v u ∧
      memAddrs .ss (prot.stackOff (prot.sp - BitVec.ofNat 32 prot.opWidth.bytes)) prot.opWidth.bytes false true u =
        .ok pas u' := by
  exact ⟨⟨.pushDs32 rfl, no_prefix rfl rfl rfl, by decide +kernel, ran_exists [] (by decide +kernel)⟩,
    _, _, _, _, ran 0#32 (by decide +kernel), ran [] (by decide +kernel)⟩

theorem witness_PushAndPopComplete_pop :
    real.prefixOk false false ∧ Memory.wf real.mem = true ∧
    ∃ x u, memRead .ss real.sp real.opWidth.bytes real.started = .ok x u ∧
      ∃ pas u', memAddrs ((dropped u real.opWidth.bytes).ea bx).1 ((dropped u real.opWidth.bytes).ea bx).2
        real.opWidth.bytes false true (dropped u real.opWidth.bytes) = .ok pas u' := by
  exact ⟨no_prefix rfl rfl rfl, by decide +kernel, _, _, ran 0 (by decide +kernel), ran_exists [] (by decide +kernel)⟩

theorem witness_AluToOperandCompletes :
    AluTo real (.adcEvIb (.mem bx) 0xFF#8) .adc .w16 (.mem bx) 0xFFFF#32 ∧
    real.prefixOk (RM.isMem (.mem bx)) false ∧ Memory.wf real.mem = true ∧
    ∃ p u, modifyRM .w16 (.mem bx) real.started = .ok p u := by
  exact ⟨.adcEvIb _ _, no_prefix rfl rfl rfl, by decide +kernel, ran_exists (.bytes [], 0#32) (by decide +kernel)⟩

theorem witness_AluToOperandCompletes_register :
    AluFrom real (.subGvEv .ecx (.mem bx)) .sub .w16 .ecx (.mem bx) ∧ real.prefixOk false false ∧
    ∃ b u, readRM .w16 (.mem bx) real.started = .ok b u := by
  exact ⟨.subGvEv real _ _, no_prefix rfl rfl rfl, ran_exists 0#32 (by decide +kernel)⟩

theorem witness_CompareCompletes :
    (Compares real (.testEaxIv (.v16 0xFFFF#16)) .and .w16 (.reg .eax) 0xFFFF#32 ∧ real.prefixOk false false ∧
      ∃ a u, readRM .w16 (.reg .eax) real.started = .ok a u) ∧
    (∃ b u, readRM .w8 (.mem bx) real.started = .ok b u) ∧
    ∃ b u, readRM real.opWidth (.mem bx) real.started = .ok b u := by
  exact ⟨⟨.testEaxIv _, no_prefix rfl rfl rfl, ran_exists 0#32 (by decide +kernel)⟩, ran_exists 0#32 (by decide +kernel),
    ran_exists 0#32 (by decide +kernel)⟩

theorem witness_UnaryCompletes :
    Unary real (.negEb (.mem bx)) .w8 (.mem bx) (negResult .w8) ∧ real.prefixOk (RM.isMem (.mem bx)) false ∧
    Memory.wf real.mem = true ∧ ∃ p u, modifyRM .w8 (.mem bx) real.started = .ok p u := by
  exact ⟨.negEb _, no_prefix rfl rfl rfl, by decide +kernel, ran_exists (.bytes [], 0#32) (by decide +kernel)⟩

theorem witness_MultiplyCompletes :
    (Multiplies real (.imulEv (.mem bx)) .w16 (.mem bx) true ∧ real.prefixOk false false ∧
      ∃ b u, readRM .w16 (.mem bx) real.started = .ok b u) ∧
    MultipliesTo real (.imulGvEvIb .ecx (.mem bx) 0x80#8) .ecx (.mem bx) 0xFF80#32 ∧
    ∃ b u, readRM real.opWidth (.mem bx) real.started = .ok b u := by
  exact ⟨⟨.imulEv _, no_prefix rfl rfl rfl, ran_exists 0#32 (by decide +kernel)⟩, .imulGvEvIb _ _ _,
    ran_exists 0#32 (by decide +kernel)⟩

/-- AX divided by the byte 2: at 1FFH the greatest quotient, FFH; at 200H none. -/
def divides (ax : Word) : State := { real with regs := { real.regs with eax := ax } }

theorem witness_DivideCompletes :
    (Divides (divides 0x1FF#32) (.divEb (.reg .ecx)) .w8 (.reg .ecx) false ∧ (divides 0x1FF#32).prefixOk false false ∧
      ∃ b u, readRM .w8 (.reg .ecx) (divides 0x1FF#32).started = .ok b u ∧ asInt .w8 false b ≠ 0 ∧
        quotientFits .w8 false (dividend (divides 0x1FF#32) .w8 false) (asInt .w8 false b) = true) ∧
    (∃ b u, readRM .w8 (.reg .ecx) (divides 0x200#32).started = .ok b u ∧
      quotientFits .w8 false (dividend (divides 0x200#32) .w8 false) (asInt .w8 false b) = false) ∧
    ∃ b u, readRM .w8 (.reg .ebp) real.started = .ok b u ∧ asInt .w8 false b = 0 := by
  exact ⟨⟨.divEb _, no_prefix rfl rfl rfl, _, _, ran 0#32 (by decide +kernel), by decide +kernel, by decide +kernel⟩,
    ⟨_, _, ran 0#32 (by decide +kernel), by decide +kernel⟩, _, _, ran 0#32 (by decide +kernel), by decide +kernel⟩

theorem witness_ShiftCompletes :
    (Shifts real (.sarEvIb (.mem bx) 31#8) .sar .w16 (.mem bx) 31#32 ∧ real.prefixOk false false ∧
      Memory.wf real.mem = true ∧ ∃ p u, modifyRM .w16 (.mem bx) real.started = .ok p u) ∧
    (31#32).toNat % 32 ≠ 0 ∧
    Shifts real (.sarEvIb (.mem bx) 32#8) .sar .w16 (.mem bx) 32#32 ∧ (32#32).toNat % 32 = 0 ∧
    Shifts real (.rclEbIb (.mem bx) 27#8) .rcl .w8 (.mem bx) 27#32 ∧ (27#32).toNat % 32 % (Width.w8.bits + 1) = 0 ∧
    (∃ p u, modifyRM .w8 (.mem bx) real.started = .ok p u) ∧
    Shifts real (.rcrEbIb (.mem bx) 28#8) .rcr .w8 (.mem bx) 28#32 ∧ (28#32).toNat % 32 % (Width.w8.bits + 1) ≠ 0 := by
  exact ⟨⟨.sarEvIb _ _, no_prefix rfl rfl rfl, by decide +kernel, ran_exists (.bytes [], 0#32) (by decide +kernel)⟩,
    by decide, .sarEvIb _ _, by decide, .rclEbIb _ _, by decide, ran_exists (.bytes [], 0#32) (by decide +kernel),
    .rcrEbIb _ _, by decide⟩

theorem witness_ShiftResults :
    (0xFF#32).toNat < 2 ^ Width.w8.bits ∧ (∀ n ∈ [1, 8, 9, 31], 0 < n ∧ n < 32) := by decide

theorem witness_RotatesResults :
    (0xFFFFFFFF#32).toNat < 2 ^ Width.w32.bits ∧ (∀ n ∈ [1, 17, 31], 0 < n ∧ n < 32) := by decide

theorem witness_DoubleShiftCompletes :
    (DoubleShifts real (.shldEvGvIb (.mem bx) .ecx 16#8) true (.mem bx) .ecx 16#32 ∧ real.prefixOk false false ∧
      Memory.wf real.mem = true ∧ ∃ p u, modifyRM real.opWidth (.mem bx) real.started = .ok p u ∧
        p.2.toNat < 2 ^ real.opWidth.bits) ∧
    (16#32).toNat % 32 = real.opWidth.bits ∧ DoubleShifts real (.shrdEvGvIb (.mem bx) .ecx 17#8) false (.mem bx) .ecx 17#32 ∧
    DoubleShifts real (.shrdEvGvIb (.mem bx) .ecx 32#8) false (.mem bx) .ecx 32#32 ∧ (32#32).toNat % 32 = 0 := by
  exact ⟨⟨.shldEvGvIb _ _ _, no_prefix rfl rfl rfl, by decide +kernel, _, _, ran (.bytes [], 0#32) (by decide +kernel),
    by decide +kernel⟩, by decide +kernel, .shrdEvGvIb _ _ _, .shrdEvGvIb _ _ _, by decide⟩

theorem witness_BitInstructionsComplete_test :
    (TestsBit real (.btEvIb (.reg .ecx) 17#8) (.inl .ecx) 1 ∧ real.prefixOk false false ∧
      ∃ v u, unitRead real.opWidth (.inl .ecx) real.started = .ok v u) ∧
    TestsBit real (.btEvGv (.mem bx) .edx) (.inr (.ds, 0x307E#32)) 8 ∧
    ∃ v u, unitRead real.opWidth (.inr (.ds, 0x307E#32)) real.started = .ok v u := by
  exact ⟨⟨.btImmReg _ _, no_prefix rfl rfl rfl, ran_exists 0#32 (by decide +kernel)⟩, .btMem bx .edx,
    ran_exists 0#32 (by decide +kernel)⟩

theorem witness_BitInstructionsComplete_change :
    (ChangesBit real (.btcEvIb (.reg .ecx) 15#8) (.inl .ecx) 15 not ∧ real.prefixOk false false ∧
      Memory.wf real.mem = true ∧ ∃ p u, unitModify real.opWidth (.inl .ecx) real.started = .ok p u) ∧
    ChangesBit locked (.btsEvGv (.mem bx) .edx) (.inr (.ds, 0x307E#32)) 8 (fun _ => true) ∧
    locked.prefixOk true false ∧ Memory.wf locked.mem = true ∧
    ∃ p u, unitModify locked.opWidth (.inr (.ds, 0x307E#32)) locked.started = .ok p u := by
  exact ⟨⟨.btcImmReg _ _, no_prefix rfl rfl rfl, by decide +kernel, ran_exists (.bytes [], 0#32) (by decide +kernel)⟩,
    .btsMem bx .edx, locked_prefix, by decide +kernel, ran_exists (.bytes [], 0#32) (by decide +kernel)⟩

theorem witness_BitInstructionsComplete_scan :
    real.prefixOk false false ∧ (∃ v u, readRM real.opWidth (.mem bx) real.started = .ok v u ∧ v ≠ 0#32) ∧
    ∃ v u, readRM real.opWidth (.mem (.ind16 .di .none)) real.started = .ok v u ∧ v = 0#32 := by
  exact ⟨no_prefix rfl rfl rfl, ⟨_, _, ran 0#32 (by decide +kernel), by decide +kernel⟩,
    _, _, ran 0#32 (by decide +kernel), by decide +kernel⟩

theorem witness_FlagInstructionsComplete :
    SetsFlags real .cmc { real.flags with CF := !real.flags.CF } ∧ real.prefixOk false false ∧
    real.cpl ≤ real.flags.IOPL ∧ prot3.prefixOk false false ∧ prot3.flags.IOPL < prot3.cpl := by
  exact ⟨.cmc, no_prefix rfl rfl rfl, by decide +kernel, no_prefix rfl rfl rfl, by decide +kernel⟩

def lockedUser : State := { prot3 with insn := { prot3.insn with lock := true } }

theorem witness_PrefixBytes :
    Prefixes .lockPrefix (fun i => { i with lock := true }) ∧
    (locked.insn.lock = true ∧ locked.insn.rep = false ∧ locked.insn.repne = false) ∧
    lockedUser.insn.lock = true ∧ lockedUser.insn.rep = false ∧ lockedUser.insn.repne = false ∧
    lockedUser.cpl ≠ 0#2 := by
  exact ⟨.lock, ⟨rfl, rfl, rfl⟩, rfl, rfl, rfl, by decide +kernel⟩

/-- `real` with `v` in ESP; `prot` with an SS limit of `l`. -/
def stacked (v : Word) : State := { real with regs := { real.regs with esp := v } }

def limited (l : Word) : State := { prot with segs := { prot.segs with ss := { prot.segs.ss with limit := l } } }

/-- `s` with an expand-down stack segment, whose valid offsets lie above `l`. -/
def expandsDown (l : Word) (s : State) : State :=
  { s with segs := { s.segs with ss := { s.segs.ss with expandDown := true, limit := l } } }

theorem witness_StackFramesComplete_pusha :
    (real.prefixOk false false ∧ ¬(real.peNow = false ∧ real.sp.toNat < 16 ∧ real.sp.toNat % 2 = 1) ∧
      Plain real ∧ real.room real.opWidth.bytes 8 = true ∧
      ∃ u, pushBlock real.opWidth.bytes [real.regs.eax, real.regs.ecx, real.regs.edx, real.regs.ebx, real.regs.esp,
        real.regs.ebp, real.regs.esi, real.regs.edi] real.started = .ok () u) ∧
    ((expandsDown 0x1FF7#32 prot).prefixOk false false ∧ (expandsDown 0x1FF7#32 prot).peNow = true ∧
      (expandsDown 0x1FF7#32 prot).sp = 0x2000#32 ∧ (expandsDown 0x1FF7#32 prot).opWidth.bytes = 4 ∧
      (∃ ps u, BlockAddrs 4 0x2000#32 [1, 2] ps (expandsDown 0x1FF7#32 prot).started u) ∧
      ¬Allowed (expandsDown 0x1FF7#32 prot).segs.ss 0x1FF4#32 4 false true) ∧
    ((stacked 5#32).prefixOk false false ∧ (stacked 5#32).peNow = false ∧ (stacked 5#32).sp = 5#32) ∧
    ((stacked 7#32).prefixOk false false ∧ (stacked 7#32).peNow = false ∧ (stacked 7#32).sp = 7#32) ∧
    (stacked 15#32).peNow = false ∧ (stacked 15#32).sp = 15#32 := by
  unfold Plain Allowed
  simp only [BlockAddrs]
  exact ⟨⟨no_prefix rfl rfl rfl, by decide +kernel, by decide +kernel, by decide +kernel, _,
      ran_unit (by decide +kernel)⟩,
    ⟨no_prefix rfl rfl rfl, by decide +kernel, by decide +kernel, by decide +kernel,
      ⟨_, _, _, _, _, rfl, ran [] (by decide +kernel), _, _, _, rfl, ran [] (by decide +kernel), rfl, rfl⟩,
      by decide +kernel⟩,
    ⟨no_prefix rfl rfl rfl, by decide +kernel, by decide +kernel⟩,
    ⟨no_prefix rfl rfl rfl, by decide +kernel, by decide +kernel⟩, by decide +kernel, by decide +kernel⟩

/-- The page of the first slot is not present, and the third slot is outside the limit: the first decides (40 R347, 20
R169). -/
theorem test_pusha_first_slot_decides :
    raises pushRegs (let s := pageTables (expandsDown 0x8FF7#32 prot)
      { s with cr0 := { s.cr0 with PG := true }, cr3 := 0x100000#32, regs := { s.regs with esp := 0x9000#32 } }) 14#8 =
      true ∧
    raises pushRegs (expandsDown 0x1FF7#32 prot) 12#8 = true := by
  exact ⟨by decide +kernel, by decide +kernel⟩

theorem witness_StackFramesComplete_popa :
    real.prefixOk false false ∧ real.opWidth.bytes = 2 ∧
    oks (peek 2 0) real.started (fun _ u => oks (peek 2 2) u fun _ u => oks (peek 2 (2 * 2)) u fun _ u =>
      oks (peek 2 (3 * 2)) u fun _ u => oks (peek 2 (4 * 2)) u fun _ u => oks (peek 2 (5 * 2)) u fun _ u =>
      oks (peek 2 (6 * 2)) u fun _ u => okay (peek 2 (7 * 2)) u) = true := by
  exact ⟨no_prefix rfl rfl rfl, by decide +kernel, by decide +kernel⟩

theorem witness_StackFramesComplete_enter :
    real.prefixOk false false ∧ (32#8).toNat % 32 = 0 ∧ (31#8).toNat % 32 ≠ 0 ∧
    ∃ u, push real.opWidth.bytes (real.reg real.opWidth .ebp) real.started = .ok () u ∧
      ∃ u', copyFrames real.opWidth ((31#8).toNat % 32 - 1) u = .ok () u' ∧
        ∃ u'', push real.opWidth.bytes u.sp u' = .ok () u'' := by
  exact ⟨no_prefix rfl rfl rfl, by decide, by decide, _, ran_unit (by decide +kernel), _, ran_unit (by decide +kernel), _,
    ran_unit (by decide +kernel)⟩

theorem witness_StackFramesComplete_leave :
    ∃ v u, pop real.opWidth.bytes (real.started.setReg real.stackWidth .esp (real.reg real.stackWidth .ebp)) =
      .ok v u := by
  exact ran_exists 0#32 (by decide +kernel)

theorem witness_FlagsOnStackComplete :
    (real.prefixOk false false ∧ Memory.wf real.mem = true ∧ v86Allows real = true ∧
      (∃ pas u, memAddrs .ss (real.stackOff (real.sp - BitVec.ofNat 32 real.opWidth.bytes)) real.opWidth.bytes false true
        { real.started with draws := real.draws + 2 } = .ok pas u) ∧
      ∃ x u, memRead .ss real.sp real.opWidth.bytes real.started = .ok x u) ∧
    v86.prefixOk false false ∧ Memory.wf v86.mem = true ∧ v86Allows v86 = false := by
  exact ⟨⟨no_prefix rfl rfl rfl, by decide +kernel, by decide +kernel, ran_exists [] (by decide +kernel),
    ran_exists 0 (by decide +kernel)⟩, no_prefix rfl rfl rfl, by decide +kernel, by decide +kernel⟩

theorem witness_StackOperations :
    4 ≤ 4 ∧ Memory.wf prot.mem = true ∧
    (∃ pas u, memAddrs .ss (prot.stackOff (prot.sp - BitVec.ofNat 32 4)) 4 false true prot = .ok pas u) ∧
    (∃ x u, memRead .ss prot.sp 4 prot = .ok x u) ∧
    ∃ x u, memRead .ss (prot.stackOff (prot.sp + BitVec.ofNat 32 28)) 4 prot = .ok x u := by
  exact ⟨Nat.le_refl 4, by decide +kernel, ran_exists [] (by decide +kernel), ran_exists 0 (by decide +kernel),
    ran_exists 0 (by decide +kernel)⟩

theorem witness_StackOperations_frames :
    Memory.wf prot.mem = true ∧ Plain prot ∧ prot.room 4 3 = true ∧
    okay (pushSel 4 8#16) prot = true ∧ okay (pushReturn 4 8#16 0x1002#32) prot = true ∧
    okay (pushFrame 4 prot.flags 8#16 0x1002#32) prot = true ∧
    (∀ c ∈ [ErrCode.none, .sel 8#16, .page 7#3], okay (pushCode 4 c) prot = true) ∧
    okay (pushBlock 4 [1#32, 2#32, 3#32]) prot = true ∧ okay (copyFrames .w32 30) prot = true ∧
    okay (copyParams 4 prot.segs.ss prot.sp 31) prot = true := by
  unfold Plain
  decide +kernel

theorem witness_DecimalAdjustCompletes : real.prefixOk false false ∧ (1#8 ≠ 0#8 ∧ 255#8 ≠ 0#8) := by
  exact ⟨no_prefix rfl rfl rfl, by decide⟩

/-- The bounds at `[BX]` are 5 and 9: AX is 5, the lower bound, in `real`; CX is 2. -/
theorem witness_BoundChecksIndex :
    real.prefixOk false false ∧
    ∃ x u, memRead (real.ea bx).1 (real.ea bx).2 real.opWidth.bytes real.started = .ok x u ∧
      ∃ y u', memRead (real.ea bx).1 ((real.ea bx).2 + BitVec.ofNat 32 real.opWidth.bytes) real.opWidth.bytes u =
        .ok y u' ∧
      Width.w16.signed (BitVec.ofNat 32 x) = Width.w16.signed (real.reg .w16 .eax) ∧
      Width.w16.signed (real.reg .w16 .eax) ≤ Width.w16.signed (BitVec.ofNat 32 y) ∧
      ¬(Width.w16.signed (BitVec.ofNat 32 x) ≤ Width.w16.signed (real.reg .w16 .ecx)) := by
  exact ⟨no_prefix rfl rfl rfl, _, _, ran 0 (by decide +kernel), _, _, ran 0 (by decide +kernel), by decide +kernel,
    by decide +kernel, by decide +kernel⟩

/-- A far pointer at `m` can be read in `s`: offset, then selector. -/
def pointer (s : State) (m : Mem) (p : Nat → Nat → State → Bool) : Bool :=
  oks (memRead (s.ea m).1 (s.ea m).2 s.opWidth.bytes) s.started fun x u =>
    oks (memRead (s.ea m).1 ((s.ea m).2 + BitVec.ofNat 32 s.opWidth.bytes) 2) u fun y v => p x y v

theorem witness_RealSegmentLoadsComplete :
    real.prefixOk false false ∧ real.protMode = false ∧ SegNo.ss ≠ .cs ∧
    (∃ v u, readRM .w16 (.mem bx) real.started = .ok v u) ∧
    PopsSeg .popSs .ss ∧ (∃ x u, memRead .ss real.sp real.opWidth.bytes real.started = .ok x u) ∧
    LoadsPointer (.lesGvMp .ecx bx) .es .ecx bx ∧ pointer real bx (fun _ _ _ => true) = true := by
  exact ⟨no_prefix rfl rfl rfl, by decide +kernel, by decide, ran_exists 0#32 (by decide +kernel), .ss,
    ran_exists 0 (by decide +kernel), .les _ _, by decide +kernel⟩

/-- At `[EBX]` 10H and the pointer 10H:10H; on the stack 10H; at CPL 3 the same selector is refused. -/
theorem witness_ProtectedSegmentLoadsComplete :
    prot.prefixOk false false ∧ prot.protMode = true ∧ prot3.prefixOk false false ∧ prot3.protMode = true ∧
    SegNo.ds ≠ .cs ∧ PopsSeg .popSs .ss ∧ LoadsPointer (.lssGvMp .ecx ebx) .ss .ecx ebx ∧
    oks (readRM .w16 (.mem ebx)) prot.started (fun v u => okay (loadSeg .ds (v.setWidth 16)) u) = true ∧
    oks (memRead .ss prot.sp 4) prot.started (fun x u => okay (loadSeg .ss (BitVec.ofNat 16 x)) u) = true ∧
    pointer prot ebx (fun _ y u => okay (loadSeg .ss (BitVec.ofNat 16 y)) u) = true ∧
    oks (readRM .w16 (.mem ebx)) prot3.started (fun v u => raises (loadSeg .ss (v.setWidth 16)) u 13#8) = true ∧
    oks (memRead .ss prot3.sp 4) prot3.started (fun x u => raises (loadSeg .ss (BitVec.ofNat 16 x)) u 13#8) = true ∧
    pointer prot3 ebx (fun _ y u => raises (loadSeg .ss (BitVec.ofNat 16 y)) u 13#8) = true := by
  exact ⟨no_prefix rfl rfl rfl, by decide +kernel, no_prefix rfl rfl rfl, by decide +kernel, by decide, .ss, .lss _ _,
    by decide +kernel, by decide +kernel, by decide +kernel, by decide +kernel, by decide +kernel, by decide +kernel⟩

theorem witness_ProtectedSegmentLoad :
    sys.protMode = true ∧ SegNo.gs ≠ .cs ∧ (3#16).toNat < 4 ∧ SegNo.gs ≠ .ss ∧ missing sys 0xF0#16 = true ∧
    names sys 0x28#16 (fun d => !d.readable && !d.writeable) = true ∧
    names sys 0x70#16 (fun d => d.writeable && d.readable && !d.conforming && d.dpl == 0#2 && !d.present) = true ∧
    (0x70#16).extractLsb' 0 2 = sys.cpl ∧ sys.cpl = 0#2 ∧ sys.descAddr 0x78#16 = some 0x5078#32 ∧
    oks (readDesc 0x5078#32) sys (fun d u => d.writeable && d.readable && d.dpl == 0#2 && d.present &&
      okay (markAccessed 0x5078#32 d) u) = true := by
  decide +kernel

theorem witness_ProtectedSegmentLoad_marks :
    sys.physMap = [] ∧ Memory.wf sys.mem = true ∧
    oks (translate 0x5015#32 false false) sys (fun _ u => okay (translate 0x5015#32 true false) u) = true ∧
    oks (translate 0x507D#32 false false) sys (fun _ u => okay (translate 0x507D#32 true false) u) = true ∧
    oks (readDesc 0x5010#32) sys (fun d _ => bit d.hi 8) = true ∧
    oks (readDesc 0x5078#32) sys (fun d u => !bit d.hi 8 && !(Memory.read u.mem 0x507D).getLsbD 0) = true ∧
    bit noDesc.hi 8 = false ∧ (Memory.read sys.mem 0x5015).getLsbD 0 = true := by
  decide +kernel

theorem witness_TablesAndSelectorsComplete :
    (StoresHalf real (.movEwSw (.reg .ecx) .cs) (.reg .ecx) 0#16 ∧ real.prefixOk false false ∧ real.opWidth = .w16) ∧
    (StoresHalf prot (.sldtEw (.reg .ecx)) (.reg .ecx) 0#16 ∧ prot.prefixOk false false ∧ prot.opWidth = .w32) ∧
    (StoresHalf prot (.strEw (.mem ebx)) (.mem ebx) 0#16 ∧ Memory.wf prot.mem = true ∧
      ∃ pas u, memAddrs (prot.ea ebx).1 (prot.ea ebx).2 2 false true prot.started = .ok pas u) ∧
    (∀ r ∈ [prot.gdtr, prot.idtr], oks (memWrite (prot.ea ebx).1 (prot.ea ebx).2 2 r.limit.toNat) prot.started
      (fun _ v => okay (memAddrs (prot.ea ebx).1 ((prot.ea ebx).2 + 2#32) 4 false true) v) = true) ∧
    prot.cpl = 0#2 ∧ oks (memRead (prot.ea ebx).1 (prot.ea ebx).2 2) prot.started
      (fun _ u => okay (memRead (prot.ea ebx).1 ((prot.ea ebx).2 + 2#32) 4) u) = true := by
  exact ⟨⟨.movEwSw _ _, no_prefix rfl rfl rfl, by decide +kernel⟩,
    ⟨.sldtEw _ (by decide +kernel), no_prefix rfl rfl rfl, by decide +kernel⟩,
    ⟨.strEw _ (by decide +kernel), by decide +kernel, ran_exists [] (by decide +kernel)⟩,
    by decide +kernel, by decide +kernel, by decide +kernel⟩

/-- From 102H the displacement FEFDH reaches the limit FFFFH; with 32-bit operands FEFEH is one past it. -/
theorem witness_RelativeJumpsComplete :
    (Branches real (.jcxzJb 5#8) false 5#32 real.started ∧ real.prefixOk false false) ∧
    (Branches real (.jmpJv (.v16 0xFEFD#16)) true 0xFFFFFEFD#32 real.started ∧
      real.opWidth.trunc (real.nextEip + 0xFFFFFEFD#32) = real.segs.cs.limit) ∧
    Branches real32 (.jmpJv (.v32 0xFEFE#32)) true 0xFEFE#32 real32.started ∧ real32.prefixOk false false ∧
    real32.segs.cs.limit < real32.opWidth.trunc (real32.nextEip + 0xFEFE#32) := by
  exact ⟨⟨.jcxz 5#8, no_prefix rfl rfl rfl⟩, ⟨.jmpJv (.v16 0xFEFD#16), by decide +kernel⟩,
    .jmpJv (.v32 0xFEFE#32), no_prefix rfl rfl rfl, by decide +kernel⟩

theorem witness_NearTransfersComplete :
    (real.prefixOk false false ∧ (∃ v u, readRM real.opWidth (.mem bx) real.started = .ok v u ∧
      real.opWidth.trunc v ≤ real.segs.cs.limit ∧ ∃ u', push real.opWidth.bytes real.nextEip u = .ok () u') ∧
      (real.opWidth.trunc (real.nextEip + (ImmV.v16 0xFEFD#16).signed) = real.segs.cs.limit) ∧
      (∃ u, push real.opWidth.bytes real.nextEip real.started = .ok () u) ∧
      ∃ v u, peek real.opWidth.bytes 0 real.started = .ok v u ∧ real.opWidth.trunc v ≤ real.segs.cs.limit) ∧
    real32.prefixOk false false ∧
    (∃ v u, readRM real32.opWidth (.mem bx) real32.started = .ok v u ∧ real32.segs.cs.limit < real32.opWidth.trunc v) ∧
    real32.segs.cs.limit < real32.opWidth.trunc (real32.nextEip + (ImmV.v32 0xFEFE#32).signed) ∧
    ∃ v u, peek real32.opWidth.bytes 0 real32.started = .ok v u ∧ real32.segs.cs.limit < real32.opWidth.trunc v := by
  exact ⟨⟨no_prefix rfl rfl rfl, ⟨_, _, ran 0#32 (by decide +kernel), by decide +kernel, _, ran_unit (by decide +kernel)⟩,
    by decide +kernel, ⟨_, ran_unit (by decide +kernel)⟩, _, _, ran 0#32 (by decide +kernel), by decide +kernel⟩,
    no_prefix rfl rfl rfl, ⟨_, _, ran 0#32 (by decide +kernel), by decide +kernel⟩, by decide +kernel,
    _, _, ran 0#32 (by decide +kernel), by decide +kernel⟩

theorem witness_RealFarTransfersComplete_within :
    real.prefixOk false false ∧ real.protMode = false ∧
    FarGoes real (.callFarAp (.v16 0xFFFF#16) 1#16) true 1#16 0xFFFF#32 real.started ∧
    okay (pushReturn real.opWidth.bytes real.segs.cs.selector real.nextEip) real.started = true ∧
    (∃ x y v, FarGoes real (.callFarMp bx) true (BitVec.ofNat 16 y) (BitVec.ofNat 32 x) v) ∧
    pointer real bx (fun x _ u => decide (BitVec.ofNat 32 x ≤ 0xFFFF#32) &&
      okay (pushReturn real.opWidth.bytes real.segs.cs.selector real.nextEip) u) = true ∧ FarReturns .retf 0 ∧
    oks (peek real.opWidth.bytes 0) real.started (fun ip u => decide (ip ≤ 0xFFFF#32) &&
      okay (peek real.opWidth.bytes real.opWidth.bytes) u) = true := by
  exact ⟨no_prefix rfl rfl rfl, by decide +kernel, .callAp _ _, by decide +kernel,
    ⟨_, _, _, .callMp _ _ _ _ _ (ran 0 (by decide +kernel)) (ran 0 (by decide +kernel))⟩, by decide +kernel, .retf, by decide +kernel⟩

theorem witness_RealFarTransfersComplete_beyond :
    real32.prefixOk false false ∧ real32.protMode = false ∧
    FarGoes real32 (.jmpFarAp (.v32 0x10000#32) 1#16) false 1#16 0x10000#32 real32.started ∧ 0xFFFF#32 < 0x10000#32 ∧
    pointer real32 bx (fun x _ _ => decide (0xFFFF#32 < BitVec.ofNat 32 x)) = true ∧ FarReturns (.retfIw 4#16) 4 ∧
    oks (peek real32.opWidth.bytes 0) real32.started (fun ip u => decide (0xFFFF#32 < ip) &&
      okay (peek real32.opWidth.bytes real32.opWidth.bytes) u) = true := by
  exact ⟨no_prefix rfl rfl rfl, by decide +kernel, .jmpAp _ _, by decide, by decide +kernel, .retfIw 4#16,
    by decide +kernel⟩

/-- The conforming code segment 68H, not accessed yet, ends at FFFFH; with 16-bit operands. -/
def sys16 : State := { sys with insn := { sys.insn with opSize := true } }

theorem witness_ProtectedFarTransfersComplete_reached :
    sys16.prefixOk false false ∧ sys16.protMode = true ∧
    FarGoes sys16 (.callFarAp (.v16 0xFFFF#16) 0x68#16) true 0x68#16 0xFFFF#32 sys16.started ∧
    sys16.descAddr 0x68#16 = some 0x5068#32 ∧
    oks (readDesc 0x5068#32) sys16.started (fun d u => d.isCode && d.conforming && decide (d.dpl ≤ sys16.cpl) && d.present &&
      decide (0xFFFF#32 ≤ d.limit) && okay (markAccessed 0x5068#32 d) u && sys16.room sys16.opWidth.bytes 2 &&
      oks (pushReturn sys16.opWidth.bytes sys16.segs.cs.selector sys16.nextEip) u (fun _ v =>
        okay (markAccessed 0x5068#32 d) v)) = true ∧
    names sys16.started 8#16 (fun d => d.isCode && !d.conforming && d.dpl == sys16.cpl && d.present) = true := by
  exact ⟨no_prefix rfl rfl rfl, by decide +kernel, .callAp _ _, by decide +kernel, by decide +kernel, by decide +kernel⟩

theorem witness_ProtectedFarTransfersComplete_no_room :
    (limited 0x1FFB#32).prefixOk false false ∧ (limited 0x1FFB#32).protMode = true ∧
    (limited 0x1FFB#32).room (limited 0x1FFB#32).opWidth.bytes 2 = false ∧
    names (limited 0x1FFB#32).started 8#16 (fun d => d.isCode && !d.conforming && d.dpl == 0#2 && d.present) = true := by
  exact ⟨no_prefix rfl rfl rfl, by decide +kernel, by decide +kernel, by decide +kernel⟩

theorem witness_ProtectedFarTransfersComplete_refused :
    FarGoes sys (.jmpFarAp (.v32 0x10000#32) 3#16) false 3#16 0x10000#32 sys.started ∧ (3#16).toNat < 4 ∧
    missing sys 0xF0#16 = true ∧
    names sys.started 0x28#16 (fun d => !d.isCode && d.sysType == 2) = true ∧
    names sys.started 0x18#16 (fun d => d.isCode && !d.conforming && d.dpl != sys.cpl) = true ∧
    names sys.started 0x38#16 (fun d => d.isCode && !d.conforming && d.dpl == sys.cpl && !d.present) = true ∧
    names sys.started 0x68#16 (fun d => d.isCode && d.conforming && decide (d.dpl ≤ sys.cpl) && d.present &&
      decide (d.limit < 0x10000#32)) = true := by
  exact ⟨.jmpAp _ _, by decide, by decide +kernel, by decide +kernel, by decide +kernel, by decide +kernel,
    by decide +kernel⟩

/-- `s` with a stack of dwords at 2000H. -/
def onStack (vs : List Word) (s : State) : State :=
  { s with mem := (vs.zipIdx.foldl (fun m p => (List.range 4).foldl
      (fun m k => Memory.write m (0x2000 + 4 * p.2 + k) (p.1.extractLsb' (8 * k) 8)) m) s.mem) }

/-- RETF to `ip` in the code segment `cs`. -/
def returning (ip cs : Word) (p : Word → Desc → State → Bool) : Bool :=
  let s := onStack [ip, cs, 0x3000#32, 0x23#32] sys
  oks (peek 4 0) s.started fun _ u => oks (peek 4 4) u fun c v =>
    oks (returnDesc (c.setWidth 16)) v fun d w => p d.1 d.2 w

theorem witness_ProtectedFarTransfersComplete_return :
    FarReturns .retf 0 ∧ sys.opWidth.bytes = 4 ∧
    returning 0xFFFF#32 0x68#32 (fun la d v => decide (0xFFFF#32 ≤ d.limit) && okay (markAccessed la d) v) = true ∧
    returning 0x10000#32 0x68#32 (fun _ d _ => decide (d.limit < 0x10000#32)) = true ∧
    returning 0x4000#32 0x1B#32 (fun la d v => okay (returnOuter 4 8 0 0x1B#16 0x4000#32 la d) v) = true ∧
    raises (returnDesc 0x10#16) sys 13#8 = true := by
  exact ⟨.retf, by decide +kernel, by decide +kernel, by decide +kernel, by decide +kernel, by decide +kernel⟩

/-- The stack pointer for the outer level names a null selector. -/
theorem witness_ProtectedFarTransfersComplete_outer_refused :
    raises (returnOuter 4 8 0 0x1B#16 0x4000#32 0x5018#32 { lo := 0xFFFF#32, hi := 0xCFFB00#32 }) sys 13#8 = true := by
  decide +kernel

theorem witness_InterruptsAndReturnComplete_real :
    real.prefixOk false false ∧ Interrupts real (.intIb 255#8) 255#8 ∧ Interrupts real .int3 3#8 ∧
    (∃ t, RealEntry (softEvent 255#8) real.started.advanced t) ∧
    (∃ t, RealEntry (softEvent 3#8) real.started.advanced t) ∧
    real.flags.OF = false ∧ real.protMode = false ∧ v86Allows real = true ∧
    oks (peek 2 0) (released real.started) (fun ip u => decide (ip ≤ 0xFFFF#32) && oks (peek 2 2) u fun _ u =>
      okay (peek 2 (2 * 2)) u) = true ∧
    real32.prefixOk false false ∧ oks (peek 4 0) (released real32.started) (fun ip u => decide (0xFFFF#32 < ip) &&
      oks (peek 4 4) u fun _ u => okay (peek 4 (2 * 4)) u) = true := by
  exact ⟨no_prefix rfl rfl rfl, .intIb _ (by decide +kernel), .int3,
    ⟨_, _, _, _, _, _, by decide +kernel, by decide, ran_unit (by decide +kernel), ran_unit (by decide +kernel),
      ran_unit (by decide +kernel), ran 0 (by decide +kernel), rfl⟩,
    ⟨_, _, _, _, _, _, by decide +kernel, by decide, ran_unit (by decide +kernel), ran_unit (by decide +kernel),
      ran_unit (by decide +kernel), ran 0 (by decide +kernel), rfl⟩,
    rfl, by decide +kernel, by decide +kernel, by decide +kernel, no_prefix rfl rfl rfl, by decide +kernel⟩

def overflowed : State := { real with flags := { real.flags with OF := true } }

theorem witness_InterruptsAndReturnComplete_into_and_v86 :
    (overflowed.prefixOk false false ∧ Interrupts overflowed .into 4#8 ∧
      ∃ t, RealEntry (softEvent 4#8) overflowed.started.advanced t) ∧
    v86.prefixOk false false ∧ v86.protMode = false ∧ v86Allows v86 = false ∧
    sysV86.prefixOk false false ∧ v86Allows sysV86 = true ∧ sysV86.protMode = false := by
  exact ⟨⟨no_prefix rfl rfl rfl, .into rfl,
    ⟨_, _, _, _, _, _, by decide +kernel, by decide, ran_unit (by decide +kernel), ran_unit (by decide +kernel),
      ran_unit (by decide +kernel), ran 0 (by decide +kernel), rfl⟩⟩, no_prefix rfl rfl rfl, by decide +kernel,
    by decide +kernel, no_prefix rfl rfl rfl, by decide +kernel, by decide +kernel⟩

/-- The task of TSS C0H with a data segment in CS. -/
def badTask : State := ld 0x794C [0x10] sys

/-- INT 20H at the same level, to an inner one, from V86 mode, and INT 21H to a task. -/
theorem gate_entry_same : ∃ t, GateEntry (softEvent 0x20#8) sys.started.advanced t := by
  exact ⟨_, .same _ _ 0x5008#32 _ _ _ _ _
    ⟨by decide +kernel, by decide +kernel, ran noDesc (by decide +kernel), by decide +kernel, fun _ => by decide +kernel,
      by decide +kernel⟩
    ⟨by decide +kernel, by decide +kernel, by decide +kernel, ran noDesc (by decide +kernel), by decide +kernel,
      by decide +kernel, by decide +kernel, by decide +kernel⟩
    rfl (.inr (by decide +kernel)) (by decide +kernel) (ran_unit (by decide +kernel)) (ran_unit (by decide +kernel))
    (ran_unit (by decide +kernel))⟩

def noStack : InnerStack := { sel := 0#16, la := 0#32, desc := noDesc, esp := 0#32, wide := false }

theorem gate_entry_inner : ∃ t, GateEntry (softEvent 0x20#8) sys3.started.advanced t := by
  exact ⟨_, .inner _ _ 0x5008#32 _ _ _ _ _ _ _ _ _ _
    ⟨by decide +kernel, by decide +kernel, ran noDesc (by decide +kernel), by decide +kernel, fun _ => by decide +kernel,
      by decide +kernel⟩
    ⟨by decide +kernel, by decide +kernel, by decide +kernel, ran noDesc (by decide +kernel), by decide +kernel,
      by decide +kernel, by decide +kernel, by decide +kernel⟩
    rfl (by decide +kernel) (by decide +kernel) (ran noStack (by decide +kernel)) (ran_unit (by decide +kernel))
    (ran_unit (by decide +kernel)) (ran_unit (by decide +kernel)) (ran_unit (by decide +kernel))
    (ran_unit (by decide +kernel)) (ran_unit (by decide +kernel))⟩

theorem gate_entry_v86 : ∃ t, GateEntry (softEvent 0x20#8) sysV86.started.advanced t := by
  exact ⟨_, .v86 _ _ 0x5008#32 _ _ _ _ _ _ _ _ _
    ⟨by decide +kernel, by decide +kernel, ran noDesc (by decide +kernel), by decide +kernel, fun _ => by decide +kernel,
      by decide +kernel⟩
    ⟨by decide +kernel, by decide +kernel, by decide +kernel, ran noDesc (by decide +kernel), by decide +kernel,
      by decide +kernel, by decide +kernel, by decide +kernel⟩
    rfl (by decide +kernel) (by decide +kernel) (by decide +kernel) (ran noStack (by decide +kernel))
    (ran_unit (by decide +kernel)) (ran_unit (by decide +kernel)) (ran_unit (by decide +kernel))
    (ran_unit (by decide +kernel)) (ran_unit (by decide +kernel))⟩

theorem gate_entry_task : ∃ t, GateEntry (softEvent 0x21#8) sys.started.advanced t := by
  exact ⟨_, .task _ _ _ _ _ _ _ _
    ⟨by decide +kernel, by decide +kernel, ran noDesc (by decide +kernel), by decide +kernel, fun _ => by decide +kernel,
      by decide +kernel⟩
    (by decide +kernel) (ran (0#16, 0#32, noDesc) (by decide +kernel)) (ran_unit (by decide +kernel))
    (ran_unit (by decide +kernel)) (by decide +kernel)⟩

/-- INT 255, INT 3 and INTO in real mode, with all that they need. -/
theorem witness_InterruptsAndReturnComplete_state :
    Interrupts real (.intIb 255#8) 255#8 ∧ Interrupts overflowed .into 4#8 ∧ overflowed.peNow = false ∧
    Plain overflowed ∧ 4 * 255 + 3 ≤ overflowed.idtr.limit.toNat ∧
    ∀ k ∈ [2, 4, 6], Allowed overflowed.segs.ss (overflowed.stackOff (overflowed.sp - BitVec.ofNat 32 k)) 2 false true := by
  unfold Plain Allowed
  exact ⟨.intIb _ (by decide +kernel), .into rfl, by decide +kernel, by decide +kernel, by decide +kernel,
    by decide +kernel⟩

theorem witness_InterruptsAndReturnComplete_gates :
    sys.prefixOk false false ∧ Interrupts sys (.intIb 0x20#8) 0x20#8 ∧ sys3.prefixOk false false ∧
    Interrupts sys3 (.intIb 0x20#8) 0x20#8 ∧ sysV86.prefixOk false false ∧ Interrupts sysV86 (.intIb 0x20#8) 0x20#8 ∧
    (∃ t, GateEntry (softEvent 0x20#8) sys.started.advanced t) ∧
    (∃ t, GateEntry (softEvent 0x20#8) sys3.started.advanced t) ∧
    (∃ t, GateEntry (softEvent 0x20#8) sysV86.started.advanced t) ∧
    (∃ t, GateEntry (softEvent 0x21#8) sys.started.advanced t) ∧
    raises (deliverOnce (softEvent 0x22#8)) sys.started.advanced 11#8 = true ∧ badTask.prefixOk false false ∧
    raises (deliverOnce (softEvent 0x21#8)) badTask.started.advanced 10#8 true = true := by
  exact ⟨no_prefix rfl rfl rfl, .intIb _ (by decide +kernel), no_prefix rfl rfl rfl, .intIb _ (by decide +kernel),
    no_prefix rfl rfl rfl, .intIb _ (by decide +kernel), gate_entry_same, gate_entry_inner,
    gate_entry_v86, gate_entry_task, by decide +kernel, no_prefix rfl rfl rfl, by decide +kernel⟩

/-- IRET with the items `vs` on the stack; `p` holds of the state after the first three. -/
def irets (vs : List Word) (p : State → Bool) : Bool :=
  oks (peek 4 0) (released (onStack vs sys).started) fun _ u => oks (peek 4 4) u fun _ u =>
    oks (peek 4 (2 * 4)) u fun _ u => p u

theorem witness_InterruptsAndReturnComplete_protected :
    sys.prefixOk false false ∧ sys.protMode = true ∧ sys.flags.NT = false ∧ bit 2#32 17 = false ∧
    irets [0x4000#32, 0x10#32, 2#32] (fun u => raises (returnDesc 0x10#16) u 13#8) = true ∧
    irets [0x10000#32, 0x68#32, 2#32] (fun u => oks (returnDesc 0x68#16) u fun p _ =>
      decide (p.2.limit < 0x10000#32)) = true ∧
    irets [0xFFFF#32, 0x68#32, 2#32] (fun u => oks (returnDesc 0x68#16) u fun p v =>
      decide (0xFFFF#32 ≤ p.2.limit) && okay (markAccessed p.1 p.2) v) = true ∧
    irets [0x4000#32, 0x1B#32, 2#32, 0x3000#32, 0x23#32] (fun u => oks (returnDesc 0x1B#16) u fun p v =>
      okay (returnOuter 4 12 0 0x1B#16 0x4000#32 p.1 p.2) v) = true ∧
    irets [0x4000#32, 0x1B#32, 2#32, 0x3000#32, 0#32] (fun u => oks (returnDesc 0x1B#16) u fun p v =>
      raises (returnOuter 4 12 0 0x1B#16 0x4000#32 p.1 p.2) v 13#8) = true ∧ bit 0x20002#32 17 = true ∧
    irets [0x100#32, 0#32, 0x20002#32, 0x400#32, 1#32, 2#32, 3#32, 4#32, 5#32] (fun u => oks (peek 4 12) u fun _ u =>
      oks (peek 4 16) u fun _ u => oks (peek 4 20) u fun _ u => oks (peek 4 24) u fun _ u => oks (peek 4 28) u fun _ u =>
      okay (peek 4 32) u) = true := by
  exact ⟨no_prefix rfl rfl rfl, by decide +kernel, by decide +kernel, by decide, by decide +kernel, by decide +kernel,
    by decide +kernel, by decide +kernel, by decide +kernel, by decide, by decide +kernel⟩

theorem witness_RealModeEventEntry :
    (∃ t, RealEntry (excEvent (plainExc 0#8)) real t) ∧
    (∃ t, RealEntry nmiEvent (delivering nmiEvent real) t) ∧ real.peNow = false ∧
    ({ real with idtr := { real.idtr with limit := 0xA#16 } } : State).idtr.limit.toNat < 4 * 2 + 3 := by
  exact ⟨⟨_, _, _, _, _, _, by decide +kernel, by decide, ran_unit (by decide +kernel), ran_unit (by decide +kernel),
      ran_unit (by decide +kernel), ran 0 (by decide +kernel), rfl⟩,
    ⟨_, _, _, _, _, _, by decide +kernel, by decide, ran_unit (by decide +kernel), ran_unit (by decide +kernel),
      ran_unit (by decide +kernel), ran 0 (by decide +kernel), rfl⟩, by decide +kernel, by decide⟩

/-- A page fault through the trap gate of vector 14, an invalid opcode through the interrupt gate of vector 6. -/
def pageFault : Exc := { vector := 14#8, code := .page 2#3, cr2 := some 0x1234#32, dr6 := 0#32 }

theorem witness_ProtectedEventEntry (e : Exc) (he : e = pageFault ∨ e = plainExc 6#8) :
    (∃ t, GateEntry (excEvent e) (delivering (excEvent e) prot) t) ∧
    (∃ t, GateEntry (softEvent 0x20#8) sys3.started.advanced t) ∧
    (∃ t, GateEntry (softEvent 0x20#8) sysV86.started.advanced t) ∧
    ∃ t, GateEntry (softEvent 0x21#8) sys.started.advanced t := by
  refine ⟨?_, gate_entry_inner, gate_entry_v86, gate_entry_task⟩
  rcases he with rfl | rfl <;>
  exact ⟨_, .same _ _ 0x5008#32 _ _ _ _ _
    ⟨by decide +kernel, by decide +kernel, ran noDesc (by decide +kernel), by decide +kernel, nofun, by decide +kernel⟩
    ⟨by decide +kernel, by decide +kernel, by decide +kernel, ran noDesc (by decide +kernel), by decide +kernel,
      by decide +kernel, by decide +kernel, by decide +kernel⟩
    rfl (.inr (by decide +kernel)) (by decide +kernel) (ran_unit (by decide +kernel)) (ran_unit (by decide +kernel))
    (ran_unit (by decide +kernel))⟩

/-- The gate of vector `v`, read as for its event. -/
def gated (s : State) (v : Byte) (p : Desc → Bool) : Bool :=
  decide (8 * v.toNat + 7 ≤ s.idtr.limit.toNat) &&
    oks (readDesc (s.idtr.base + BitVec.ofNat 32 (8 * v.toNat)))
      { acked (softEvent v) s with insn := { s.insn with system := true } } (fun g _ => p g)

/-- A gate of a kind that names a handler, present and of level 3. -/
def handlerGate (g : Desc) : Bool := [6, 7, 14, 15].contains g.sysType && g.dpl == 3#2 && g.present

theorem witness_ProtectedEventEntry_denied :
    sys.peNow = true ∧ ({ sys with idtr := { sys.idtr with limit := 0x106#16 } } : State).idtr.limit.toNat < 8 * 32 + 7 ∧
    gated sys 0x29#8 (fun g => g.sysType == 0) = true ∧ gated sys3 6#8 (fun g => g.sysType == 14 && g.dpl == 0#2) = true ∧
    gated sys 0x22#8 (fun g => g.sysType == 15 && g.dpl == 3#2 && !g.present) = true ∧
    gated sys 0x23#8 (fun g => handlerGate g && decide (g.gateSel.toNat < 4)) = true ∧
    gated sys 0x24#8 (fun g => handlerGate g && missing sys g.gateSel) = true ∧
    gated sys 0x25#8 (fun g => handlerGate g && names sys g.gateSel fun d => !d.isCode) = true ∧
    gated sys 0x26#8 (fun g => handlerGate g && names sys g.gateSel fun d => d.isCode && d.dpl == 0#2 && !d.present) = true ∧
    gated sys 0x27#8 (fun g => handlerGate g && names sys g.gateSel fun d => d.isCode && d.dpl == 0#2 && d.present &&
      decide (d.limit < g.gateOff)) = true ∧ sys.flags.VM = false := by
  decide +kernel

theorem witness_ProtectedEventEntry_denied_v86 :
    sysV86.peNow = true ∧ sysV86.flags.VM = true ∧
    gated sysV86 0x27#8 (fun g => handlerGate g && names sysV86 g.gateSel fun d => d.isCode && d.dpl == 0#2 && d.present &&
      d.conforming) = true ∧
    gated sysV86 0x28#8 (fun g => handlerGate g && !g.gate386 && names sysV86 g.gateSel fun d => d.isCode && d.dpl == 0#2 &&
      d.present && !d.conforming && decide (g.gateOff ≤ d.limit)) = true ∧
    gated (limited 0x1FF3#32) 6#8 (fun g => g.sysType == 14 && g.gate386 && g.present &&
      names (limited 0x1FF3#32) g.gateSel fun d => d.isCode && d.dpl == 0#2 && d.present && !d.conforming &&
        decide (g.gateOff ≤ d.limit)) = true ∧ (limited 0x1FF3#32).room 4 (3 + (codeItems .none).length) = false := by
  decide +kernel

/-- `s` with a stack pointer of 2 for level 0. -/
def lowStack (s : State) : State := ld 0x7804 [2, 0, 0] s

theorem witness_ProtectedEventEntry_no_inner_stack :
    gated (lowStack sys3) 0x20#8 (fun g => handlerGate g && g.gate386 && names (lowStack sys3) g.gateSel fun d =>
      d.isCode && d.dpl == 0#2 && d.present && !d.conforming && decide (g.gateOff ≤ d.limit)) = true ∧
    raises (innerStack 0#2 4 (5 + (codeItems .none).length)) (lowStack sys3) 12#8 = true ∧
    gated (lowStack sysV86) 0x20#8 (fun g => handlerGate g && g.gate386 && names (lowStack sysV86) g.gateSel fun d =>
      d.isCode && d.dpl == 0#2 && d.present && !d.conforming && decide (g.gateOff ≤ d.limit)) = true ∧
    raises (innerStack 0#2 4 (9 + (codeItems .none).length)) (lowStack sysV86) 12#8 = true := by
  decide +kernel

theorem witness_StringElements :
    Memory.wf real.mem = true ∧
    (∃ x u, memRead (real.overridden .ds) (real.reg real.adWidth .esi) 2 real = .ok x u ∧
      (∃ pas u', memAddrs .es (real.reg real.adWidth .edi) 2 false true u = .ok pas u') ∧
      ∃ y u', memRead .es (real.reg real.adWidth .edi) 2 u = .ok y u') ∧
    (∃ x u, memRead .es (real.reg real.adWidth .edi) 2 real = .ok x u) ∧
    (∃ pas u, memAddrs .es (real.reg real.adWidth .edi) 2 false true real = .ok pas u) ∧
    ∃ u, ioCheck (real.regs.edx.setWidth 16).toNat 2 real = .ok () u ∧
      (∃ pas u', memAddrs .es (real.reg real.adWidth .edi) 2 false true u = .ok pas u') ∧
      ∃ x u', memRead (real.overridden .ds) (real.reg real.adWidth .esi) 2 u = .ok x u' := by
  exact ⟨by decide +kernel,
    ⟨_, _, ran 0 (by decide +kernel), ran_exists [] (by decide +kernel), ran_exists 0 (by decide +kernel)⟩,
    ran_exists 0 (by decide +kernel), ran_exists [] (by decide +kernel), _, ran_unit (by decide +kernel),
    ran_exists [] (by decide +kernel), ran_exists 0 (by decide +kernel)⟩

/-- `real` after a repeat prefix, with `c` in CX. -/
def repeating (repne : Bool) (c : Word) : State :=
  { real with regs := { real.regs with ecx := c }, insn := { real.insn with rep := !repne, repne := repne } }

theorem repeating_prefix (repne : Bool) (c : Word) : (repeating repne c).prefixOk false true := by
  cases repne <;> simp [State.prefixOk, repeating, real, Insn.start]

theorem witness_StringInstructionsComplete_once :
    StringOps real .movsb false (moveElement .w8) ∧ real.prefixOk false true ∧ real.insn.rep = false ∧
    real.insn.repne = false ∧ ∃ u, moveElement .w8 real.started = .ok () u := by
  exact ⟨.movsb, no_prefix rfl rfl rfl, rfl, rfl, _, ran_unit (by decide +kernel)⟩

theorem witness_StringInstructionsComplete_repeated :
    (repeating false 0#32).reg (repeating false 0#32).adWidth .ecx = 0#32 ∧
    ((repeating false 1#32).reg (repeating false 1#32).adWidth .ecx = 1#32 ∧
      ∃ u, storeElement .w8 (repeating false 1#32).started = .ok () u) ∧
    ((repeating false 2#32).reg (repeating false 2#32).adWidth .ecx = 2#32 ∧
      StringOps (repeating false 2#32) .cmpsv true (compareElement (repeating false 2#32).opWidth) ∧
      ∃ u, compareElement (repeating false 2#32).opWidth (repeating false 2#32).started = .ok () u ∧
        u.flags.ZF = (repeating false 2#32).insn.repne) ∧
    ∃ u, compareElement (repeating true 2#32).opWidth (repeating true 2#32).started = .ok () u ∧
      ¬(u.flags.ZF = (repeating true 2#32).insn.repne) := by
  exact ⟨by decide +kernel, ⟨by decide +kernel, _, ran_unit (by decide +kernel)⟩,
    ⟨by decide +kernel, .cmpsv, _, ran_unit (by decide +kernel), by decide +kernel⟩,
    _, ran_unit (by decide +kernel), by decide +kernel⟩

/-- At CPL 3, with a permission map at offset 68H of the TSS, which denies port 0 and allows port 8. -/
def mapped : State :=
  { ld 0x7866 [0x68, 0, 1] prot3 with
    tr := { selector := 0x30#16, base := 0x7800#32, limit := 0x6A#32, is386 := true } }

theorem witness_PortsComplete :
    (real.prefixOk false false ∧ (∃ u, ioCheck 0xFFFE Width.w16.bytes real.started = .ok () u) ∧
      PortIns real (.inEaxIb 0xFE#8) .w16 0xFE#16 ∧ PortOuts real .outDxAl .w8 0x3F8#16) ∧
    (real.peNow = false ∧ 0xFFFE + 2 ≤ 0x10000 ∧ 0x10000 < 0xFFFF + 2) ∧
    (¬(mapped.peNow = false ∨ (mapped.flags.VM = false ∧ mapped.cpl ≤ mapped.flags.IOPL)) ∧
      prot3.tr.limit.toNat < 0x67 ∧ mapped.tr.is386 = true ∧ 0x67 ≤ mapped.tr.limit.toNat ∧
      ∃ base u, linRead (mapped.tr.base + 0x66#32) 2 mapped = .ok base u ∧
        mapped.tr.limit.toNat < base + 16 / 8 + 1 ∧ base + 8 / 8 + 1 ≤ mapped.tr.limit.toNat ∧
        (∃ x u', linRead (mapped.tr.base + BitVec.ofNat 32 (base + 0 / 8)) 2 u = .ok x u' ∧
          x / 2 ^ (0 % 8) % 2 ^ 1 ≠ 0) ∧
        ∃ x u', linRead (mapped.tr.base + BitVec.ofNat 32 (base + 8 / 8)) 2 u = .ok x u' ∧
          x / 2 ^ (8 % 8) % 2 ^ 1 = 0) := by
  exact ⟨⟨no_prefix rfl rfl rfl, ⟨_, ran_unit (by decide +kernel)⟩, .eaxIb _, .dxAl⟩,
    ⟨by decide +kernel, by decide, by decide⟩, by decide +kernel, by decide +kernel, by decide +kernel, by decide +kernel,
    _, _, ran 0 (by decide +kernel), by decide +kernel, by decide +kernel,
    ⟨_, _, ran 0 (by decide +kernel), by decide +kernel⟩, _, _, ran 0 (by decide +kernel), by decide +kernel⟩

/-- The map base is FFFFH, in a TSS that reaches beyond it. -/
def nullMap : State := { ld 0x7866 [0xFF, 0xFF] prot3 with
  tr := { selector := 0x30#16, base := 0x7800#32, limit := 0x20000#32, is386 := true } }

theorem witness_PortsComplete_null_map :
    ¬(nullMap.peNow = false ∨ (nullMap.flags.VM = false ∧ nullMap.cpl ≤ nullMap.flags.IOPL)) ∧
    nullMap.tr.is386 = true ∧ 0x67 ≤ nullMap.tr.limit.toNat ∧
    oks (linRead (nullMap.tr.base + 0x66#32) 2) nullMap (fun base _ => base == 0xFFFF) = true := by
  decide +kernel

/-- A map that allows every port, with its last byte. -/
def openMap : State := { ld 0x7866 [0x68, 0] (ld 0x9867 [0, 0] prot3) with
  tr := { selector := 0x30#16, base := 0x7800#32, limit := 0x2068#32, is386 := true } }

theorem witness_PortsComplete_past_the_end :
    ¬(openMap.peNow = false ∨ (openMap.flags.VM = false ∧ openMap.cpl ≤ openMap.flags.IOPL)) ∧
    openMap.tr.is386 = true ∧ 0x67 ≤ openMap.tr.limit.toNat ∧ 0x10000 < 0xFFFF + 2 ∧
    oks (linRead (openMap.tr.base + 0x66#32) 2) openMap (fun base u => base == 0x68 &&
      decide (base + 0xFFFF / 8 + 1 ≤ openMap.tr.limit.toNat) &&
      oks (linRead (openMap.tr.base + BitVec.ofNat 32 (base + 0xFFFF / 8)) 2) u fun x _ =>
        x / 2 ^ (0xFFFF % 8) % 2 ^ 2 == 0) = true := by
  decide +kernel

/-- DR7.GD set. -/
def guarded : State := { real with dr := { real.dr with dr7 := 0x2000#32 } }

theorem witness_ControlAndDebugRegistersComplete :
    (real.prefixOk false false ∧ real.cpl = 0#2 ∧ (∃ t, loadCr real.started (real.reg .w32 .eax) .cr3 = some t) ∧
      loadCr real.started 0x80000000#32 .cr0 = none ∧ (∃ t, loadCr real.started 0x80000001#32 .cr0 = some t) ∧
      (∃ v u, readRM .w16 (.mem bx) real.started = .ok v u) ∧ real.cr0.PG = false) ∧
    (bit real.dr.dr7 13 = false ∧ readDebug real.dr .dr6 = some (0#32, 0xE00F#32) ∧ readDebug real.dr .dr4 = none) ∧
    guarded.prefixOk false false ∧ guarded.cpl = 0#2 ∧ bit guarded.dr.dr7 13 = true := by
  exact ⟨⟨no_prefix rfl rfl rfl, by decide +kernel, ⟨_, rfl⟩, by decide +kernel, ⟨_, rfl⟩,
    ran_exists 0#32 (by decide +kernel), rfl⟩, ⟨by decide +kernel, by decide +kernel, by decide +kernel⟩,
    no_prefix rfl rfl rfl, by decide +kernel, by decide +kernel⟩

theorem witness_ControlAndDebugRegistersComplete_test_registers :
    real.prefixOk false false ∧ real.cpl = 0#2 ∧ prot3.prefixOk false false ∧ prot3.cpl ≠ 0#2 := by
  exact ⟨no_prefix rfl rfl rfl, by decide +kernel, no_prefix rfl rfl rfl, by decide +kernel⟩

/-- `prot` with `v` in EAX. -/
def selecting (v : Word) : State := { prot with regs := { prot.regs with eax := v } }

theorem witness_ProtectionChecksComplete_probe :
    (selecting 3#32).prefixOk false false ∧ (selecting 3#32).protMode = true ∧
    (∃ v u, readRM .w16 (.reg .eax) (selecting 3#32).started = .ok v u ∧ (v.setWidth 16 : Half).toNat < 4) ∧
    (selecting 0x40#32).descAddr 0x40#16 = none ∧
    Probes (selecting 0x10#32) (.verwEw (.reg .eax)) (.reg .eax) Desc.writeable (fun _ u => u) ∧
    (∃ v u, readRM .w16 (.reg .eax) (selecting 0x10#32).started = .ok v u ∧ (v.setWidth 16 : Half) = 0x10#16 ∧
      (selecting 0x10#32).descAddr 0x10#16 = some 0x5010#32 ∧
      ∃ d u', readDesc 0x5010#32 u = .ok d u' ∧ d.writeable = true ∧ seen (selecting 0x10#32) d 0x10#16 = true) ∧
    ∃ d u', readDesc 0x5008#32 (selecting 8#32).started = .ok d u' ∧ ¬(d.writeable = true) := by
  exact ⟨no_prefix rfl rfl rfl, by decide +kernel, ⟨_, _, ran 0#32 (by decide +kernel), by decide +kernel⟩,
    by decide +kernel, .verw _,
    ⟨_, _, ran 0#32 (by decide +kernel), by decide +kernel, by decide +kernel, _, _, ran noDesc (by decide +kernel),
      by decide +kernel, by decide +kernel⟩,
    _, _, ran noDesc (by decide +kernel), by decide +kernel⟩

/-- The selector at `[EBX]` is 10H; CX is 2. -/
theorem witness_ProtectionChecksComplete_arpl :
    prot.prefixOk false false ∧ prot.protMode = true ∧ Memory.wf prot.mem = true ∧
    (prot.reg .w16 .ebx).extractLsb' 0 2 = 0#2 ∧ (prot.reg .w16 .ecx).extractLsb' 0 2 = 2#2 ∧
    ∃ p v u, modifyRM .w16 (.mem ebx) prot.started = .ok (p, v) u ∧ (v.setWidth 16 : Half).extractLsb' 0 2 = 0#2 := by
  exact ⟨no_prefix rfl rfl rfl, by decide +kernel, by decide +kernel, by decide +kernel, by decide +kernel, _, _, _,
    ran (.bytes [], 0#32) (by decide +kernel), by decide +kernel⟩

theorem witness_ProtectionChecksComplete_load :
    sys.prefixOk false false ∧ sys.cpl = 0#2 ∧ missing sys 0xF0#16 = true ∧ (0xC#16).getLsbD 2 = true ∧
    names sys 0x28#16 (fun d => d.sysType == 2 && d.present) = true ∧
    names sys 0x30#16 (fun d => d.sysType == 9 && d.present) = true ∧
    names sys 0x38#16 (fun d => d.sysType == 0) = true ∧
    names sys 0xB0#16 (fun d => d.sysType == 9 && !d.present) = true ∧
    names (ld 0x502D [2] sys) 0x28#16 (fun d => d.sysType == 2 && !d.present) = true ∧
    okay (putBusy 0x5030#32 true) sys.started = true := by
  exact ⟨no_prefix rfl rfl rfl, by decide +kernel, by decide +kernel, by decide, by decide +kernel, by decide +kernel,
    by decide +kernel, by decide +kernel, by decide +kernel, by decide +kernel⟩

theorem witness_PrivilegedInstructionsTrap :
    prot3.prefixOk false false ∧ prot3.cpl ≠ 0#2 ∧ Privileged .hlt ∧ prot3.protMode = true ∧
    v86.prefixOk false false ∧ v86.protMode = false ∧ ProtectedOnly (.verrEw (.reg .eax)) := by
  exact ⟨no_prefix rfl rfl rfl, by decide +kernel, .hlt, by decide +kernel, no_prefix rfl rfl rfl, by decide +kernel,
    .verr _⟩

/-- Halted. -/
def halted : State := { real with run := .halted, flags := { real.flags with IF := true }, insn := Insn.start }

/-- What is pending at the boundary before an instruction. -/
def pending (db : Word) (nmi : Bool) (intr : Option Byte) (s : State) : State :=
  { s with pendingDb := db, nmiPending := nmi, intr := intr, flags := { s.flags with IF := true }, insn := Insn.start }

/-- A code breakpoint on the instruction. -/
def broken (s : State) : State :=
  { s with dr := { s.dr with dr0 := 0x100#32, dr7 := 1#32 } }

theorem witness_EventsBetweenInstructions :
    (real.prefixOk false false ∧ real.cpl = 0#2) ∧
    ({ real with repeating := some (.stosb, Insn.start) } : State).repeating = some (.stosb, Insn.start) ∧
    real.resetPin = false ∧ real.run ≠ .shutdown ∧ halted.resetPin = false ∧
    halted.run ≠ .shutdown ∧ ({ real with inhibitAll := true } : State).inhibitAll = true ∧
    real.inhibitAll = false ∧ (pending 0x4000#32 false none real).pendingDb ≠ 0#32 ∧ real.pendingDb = 0#32 ∧
    ((broken real).run = .running ∧ (broken real).flags.RF = false ∧ (broken real).codeBreaks = 1#32) ∧
    real.codeBreaks = 0#32 ∧ (pending 0#32 true none real).nmiPending = true ∧ real.nmiBlocked = false ∧
    (pending 0#32 false (some 0x20#8) real).intr = some 0x20#8 ∧ (pending 0#32 false (some 0x20#8) real).flags.IF = true ∧
    real.nmiPending = false ∧ real.inhibitInt = false ∧ real.intr = none := by
  exact ⟨⟨no_prefix rfl rfl rfl, by decide +kernel⟩, rfl, rfl, by decide +kernel, rfl, by decide +kernel, rfl, rfl,
    by decide, rfl, ⟨rfl, rfl, by decide +kernel⟩, by decide +kernel, rfl, rfl, rfl, rfl, rfl, rfl, rfl⟩

/-- LEA with a register operand, an invalid opcode, at CS:EIP. -/
def invalidNext : State := { ld 0x100 [0x8D, 0xC0] real with insn := Insn.start }

theorem witness_EventsBetweenInstructions_ahead :
    (match runInstruction { invalidNext with run := .halted, dr := { invalidNext.dr with dr6 := 0#32 } } with
      | .next u => u.run != .halted
      | _ => false) = true ∧
    ({ real with run := .shutdown } : State).run = .shutdown := by
  exact ⟨by decide +kernel, rfl⟩

/-- `bs` at CS:EIP in real mode, as the trial of the instruction about to execute finds it. -/
def trialOf (bs : List Nat) : State :=
  { ld 0x100 bs real with insn := Insn.start, run := .halted, dr := { real.dr with dr6 := 0#32 } }

theorem witness_EventsBetweenInstructions_trial :
    (match runInstruction (trialOf [0x90]) with | .next u => u.run == .halted | _ => false) = true ∧
    (match (chooseMode { ld 0x100 [0x90] real with insn := Insn.start }).nextInsn with
      | .item i _ => i == .nop | _ => false) = true ∧
    (match runInstruction (trialOf [0xCC]) with | .next u => u.run == .halted | _ => false) = true ∧
    (match (chooseMode { ld 0x100 [0xCC] real with insn := Insn.start }).nextInsn with
      | .item i _ => i == .int3 | _ => false) = true ∧
    (match runInstruction (trialOf [0x0F, 0x21, 0xE0]) with | .next _ => false | _ => true) = true := by
  exact ⟨by decide +kernel, by decide +kernel, by decide +kernel, by decide +kernel, by decide +kernel⟩

/-- A coprocessor attached, with the levels of its lines. -/
def attached (busy error : Bool) : State :=
  { real with npx := { real.npx with kind := .npx387, busy := busy, error := error } }

theorem witness_NumericsComplete :
    (real.prefixOk false false ∧ EscRegs .fld1 false (1#3 ++ 0xE8#8) ∧ EscReady real false) ∧
    EscReady (attached false false) false ∧ EscReady (attached true true) true ∧
    (EscMems (.fldcwM bx) false 1#3 5#3 bx (.read 2) ∧ operandSize real.sizes.op32 (.read 2) = some (2, false) ∧
      ∃ pas u, memAddrs (real.ea bx).1 (real.ea bx).2 2 true false real.started = .ok pas u ∧
        ∃ bs u', physReadList pas u = .ok bs u') ∧
    (EscMems (.fsaveM bx) true 5#3 6#3 bx (.state true) ∧ ∃ n, operandSize real.sizes.op32 (.state true) = some (n, true) ∧
      n ≤ 4096 ∧ Memory.wf real.mem = true ∧
      ∃ pas u, memAddrs (real.ea bx).1 (real.ea bx).2 n false true real.started = .ok pas u ∧
        ∃ bs u', drawBytes n u = .ok bs u') ∧
    (operandSize real.sizes.op32 .none = none ∧ real.cr0.EM = false ∧ real.cr0.TS = false ∧
      ¬(real.cr0.MP = true ∧ real.cr0.TS = true) ∧ ¬npxErrs real ∧ ¬npxWorks real) := by
  exact ⟨⟨no_prefix rfl rfl rfl, .fld1, rfl, rfl, fun _ => .inl rfl⟩, ⟨rfl, rfl, fun _ => .inr ⟨rfl, rfl⟩⟩,
    ⟨rfl, rfl, nofun⟩,
    ⟨.fldcwM _, by decide +kernel, _, _, ran [] (by decide +kernel), ran_exists [] (by decide +kernel)⟩,
    ⟨.fsaveM _, _, rfl, by decide +kernel, by decide +kernel, _, _, ran [] (by decide +kernel),
      ran_exists [] (by decide +kernel)⟩,
    by decide, rfl, rfl, by decide +kernel, fun h => h.1 rfl, fun h => h.1 rfl⟩

/-- CR0 with MP, EM and TS as given. -/
def numerics (mp em ts : Bool) : State := { real with cr0 := { real.cr0 with MP := mp, EM := em, TS := ts } }

theorem witness_NumericsTraps :
    ((numerics false true false).prefixOk false false ∧ (numerics false true false).cr0.EM = true) ∧
    ((numerics true false true).prefixOk false false ∧ (numerics true false true).cr0.MP = true ∧
      (numerics true false true).cr0.TS = true) ∧
    ((attached false true).prefixOk false false ∧ (attached false true).cr0.EM = false ∧
      (attached false true).cr0.TS = false ∧ npxErrs (attached false true)) ∧
    (attached true false).prefixOk false false ∧ ¬npxErrs (attached true false) ∧ npxWorks (attached true false) := by
  exact ⟨⟨no_prefix rfl rfl rfl, rfl⟩, ⟨no_prefix rfl rfl rfl, rfl, rfl⟩,
    ⟨no_prefix rfl rfl rfl, rfl, rfl, nofun, rfl⟩, no_prefix rfl rfl rfl,
    fun h => Bool.noConfusion (h.2 : false = true), nofun, rfl⟩

theorem witness_NumericsTraps_memory :
    (attached true false).cr0.EM = false ∧ (attached true false).cr0.TS = false ∧
    EscMems (.frstorM bx) false 5#3 4#3 bx (.state false) ∧ (numerics false false false).prefixOk false false ∧
    ¬((numerics false false false).cr0.MP = true ∧ (numerics false false false).cr0.TS = true) := by
  exact ⟨rfl, rfl, .frstorM _, no_prefix rfl rfl rfl, by decide +kernel⟩

theorem witness_ArithmeticFlags :
    (0xFF#32).toNat < 2 ^ Width.w8.bits ∧ (0x8000#32).toNat < 2 ^ Width.w16.bits ∧
    (0xFFFFFFFF#32).toNat < 2 ^ Width.w32.bits ∧
    (AluOp.adc = .adc ∧ 1 = ({ real.flags with CF := true } : Flags).CF.toNat) := by decide +kernel

theorem witness_OverflowIsSigned :
    (0x7F#32).toNat < 2 ^ Width.w8.bits ∧ (0x80000000#32).toNat < 2 ^ Width.w32.bits := by decide

/-- An expand-down segment register above FFFH. -/
def downward : SegReg := { flat 0x10#16 false true 0#2 with expandDown := true, limit := 0xFFF#32 }

theorem witness_SegmentChecks :
    Allowed (real.seg .ds) 0xFFFE#32 2 true true ∧ ¬Allowed (real.seg .ds) 0xFFFF#32 2 true true ∧ Plain real ∧
    Allowed downward 0x1000#32 4 true true ∧ ¬Allowed downward 0xFFF#32 4 true true := by
  unfold Allowed Plain
  decide +kernel

theorem witness_StoreThenLoad :
    4 ≤ 4096 ∧ Plain real ∧ Memory.wf real.mem = true ∧ Allowed (real.seg .es) 0xFFFC#32 4 true true := by
  unfold Allowed Plain
  decide +kernel

/-- Paging on: the first 4 MB through the table at 110000H, the page at 403000H read-only for users; nothing else
present. -/
def paged : State :=
  { pageTables prot3 with cr0 := { prot3.cr0 with PG := true }, cr3 := 0x100000#32 }

theorem witness_PagedTranslation :
    paged.pgNow = true ∧ paged.tlbNow = [] ∧ paged.physMap = [] ∧ Memory.wf paged.mem = true ∧
    bit (memWord paged.mem 0x100004) 0 = true ∧ bit (memWord paged.mem 0x10100C) 0 = true ∧
    bit (memWord paged.mem 0x10100C) 1 = false ∧ bit (memWord paged.mem 0x101010) 0 = false ∧
    bit (memWord paged.mem 0x100008) 0 = false := by
  exact ⟨by decide +kernel, rfl, rfl, by decide +kernel, by decide +kernel, by decide +kernel, by decide +kernel,
    by decide +kernel, by decide +kernel⟩

theorem witness_PagedTranslation_write :
    oks (translate 0x3000#32 true true) paged (fun pa _ => pa == 0x3000#32) = true ∧
    bit (memWord paged.mem 0x100000) 0 = true ∧ bit (memWord paged.mem 0x11000C) 0 = true := by
  decide +kernel

theorem witness_ResetValues : ({ real with resetPin := true } : State).resetPin = true := rfl

theorem witness_DecodeEncode :
    (Instr.movGvEv .eax (.mem (.sib 3#2 .edi .ebp (.full 0xFFFFFFFF#32)))).wf z32 = true ∧
    (Instr.enterIwIb 0xFFFF#16 0xFF#8).wf z16 = true := by decide

/-- 66H 40H, INC EAX in real mode, at 100H. -/
def fetching : State := { ld 0x100 [0x66, 0x40] real with insn := Insn.start }

theorem witness_StepRunsDecoded :
    Quiet fetching ∧ (∀ p ∈ [Instr.opSizePrefix], isPrefix p = true) ∧ isPrefix .incEax = false ∧
    AtEip fetching ([Instr.opSizePrefix].flatMap encode ++ [0x40#8]) ∧
    ∀ rest, decode ({ fetching with insn := noted [.opSizePrefix] } : State).sizes ([0x40#8] ++ rest) =
      .ok (.incEax, rest) := by
  refine ⟨?_, by decide, rfl, ?_, fun rest => rfl⟩
  · unfold Quiet; decide +kernel
  · unfold AtEip; decide +kernel

/-- The bytes `bs` at CS:EIP, in the last bytes below the CS limit where there are three of them. -/
def atEnd (bs : List Nat) : State :=
  { ld 0x100 bs real with
    insn := Insn.start, segs := { real.segs with cs := { real.segs.cs with limit := 0x102#32 } } }

/-- LEA with a register operand; MOV EAX cut off by the limit; fifteen prefixes; EIP beyond the limit. -/
theorem witness_StepRunsDecoded_faults :
    (Quiet (atEnd [0x8D, 0xC0]) ∧ AtEip (atEnd [0x8D, 0xC0]) [0x8D#8, 0xC0#8] ∧
      ∀ rest, decode ({ atEnd [0x8D, 0xC0] with insn := noted [] } : State).sizes ([0x8D#8, 0xC0#8] ++ rest) =
        .error (.invalid rest)) ∧
    (AtEip (atEnd [0x66, 0xB8, 1]) ([Instr.opSizePrefix].flatMap encode ++ [0xB8#8, 1#8]) ∧
      (match decode ({ atEnd [] with insn := noted [.opSizePrefix] } : State).sizes [0xB8#8, 1#8] with
        | .error .short => true
        | _ => false) = true ∧
      (atEnd []).segs.cs.limit.toNat + 1 = (atEnd []).eip.toNat + [Instr.opSizePrefix].length + [0xB8#8, 1#8].length) ∧
    ((List.replicate 15 Instr.lockPrefix).length + 0 = 15 ∧
      Quiet { ld 0x100 (List.replicate 15 0xF0) real with insn := Insn.start } ∧
      AtEip (ld 0x100 (List.replicate 15 0xF0) real) ((List.replicate 15 Instr.lockPrefix).flatMap encode ++ [])) ∧
    ({ atEnd [] with eip := 0x103#32 } : State).segs.cs.limit < 0x103#32 := by
  refine ⟨⟨?_, ?_, fun rest => rfl⟩, ⟨?_, by decide +kernel, by decide +kernel⟩, ⟨rfl, ?_, ?_⟩, by decide +kernel⟩
  · unfold Quiet; decide +kernel
  · unfold AtEip; decide +kernel
  · unfold AtEip; decide +kernel
  · unfold Quiet; decide +kernel
  · unfold AtEip; decide +kernel

/-- `real` with two bytes the coprocessor has still to store, and with a set bit kept. -/
def storing : State :=
  { real with
    lateBytes := [{ pa := 0x4000#32, bytes := 2, value := 1#8 }, { pa := 0x4001#32, bytes := 2, value := 2#8 }]
    insn := { real.insn with kept := [(0x5015, 1#8)] } }

theorem witness_InstructionEnds :
    Memory.wf storing.mem = true ∧ (∀ c ∈ storing.insn.kept, c.1 < 2 ^ 32) ∧
    storing.lateBytes = { pa := 0x4000#32, bytes := 2, value := 1#8 } :: storing.lateBytes.tail ∧
    ({ storing with flags := { storing.flags with TF := true } } : State).flags.TF = true := by
  exact ⟨by decide +kernel, by decide, rfl, rfl⟩

theorem witness_FailedDeliveries :
    raises (deliverOnce (excEvent (plainExc 0x22#8))) (delivering (excEvent (plainExc 0x22#8)) sys) 11#8 = true ∧
    raises (deliverOnce nmiEvent) (delivering nmiEvent sys) 13#8 = true ∧
    raises (deliverOnce (excEvent (plainExc 0x21#8))) (delivering (excEvent (plainExc 0x21#8)) badTask) 10#8 true =
      true := by
  decide +kernel

theorem witness_StackSwitches_descriptor :
    sys.descAddr 0xF0#16 = none ∧ (0x10#16).extractLsb' 0 2 = 0#2 ∧
    names sys 0x10#16 (fun d => d.writeable && d.dpl == 0#2 && d.present) = true ∧
    names sys 0x70#16 (fun d => d.writeable && d.dpl == 0#2 && !d.present) = true ∧
    names sys 0x20#16 (fun d => d.dpl != 0#2) = true := by
  decide +kernel

/-- `sys3` with the bytes `bs` at offset `k` of the TSS, and its limit. -/
def inTss (k : Nat) (bs : List Nat) (limit : Word) : State :=
  { ld (0x7800 + k) bs sys3 with tr := { sys3.tr with limit := limit } }

/-- The stack pointer for level `level` lies in the TSS; `p` holds of it and its selector. -/
def inner (s : State) (level : Nat) (p : Half → State → Bool) : Bool :=
  decide (8 + 8 * level + 1 ≤ s.tr.limit.toNat) &&
    oks (linRead (s.tr.base + BitVec.ofNat 32 (4 + 8 * level)) 4) s fun _ u =>
      oks (linRead (s.tr.base + BitVec.ofNat 32 (8 + 8 * level)) 2) u fun y v => p (BitVec.ofNat 16 y) v

theorem witness_StackSwitches_inner :
    (inTss 0 [] 8#32).tr.limit.toNat < 4 + 4 + 1 ∧ inner sys3 1 (fun sel _ => decide (sel.toNat < 4)) = true ∧
    inner (inTss 8 [0x23] 0x67#32) 0 (fun sel u => decide (4 ≤ sel.toNat) && raises (stackDesc 10#8 sel 0#2) u 10#8) =
      true ∧
    inner sys3 0 (fun sel u => decide (4 ≤ sel.toNat) && oks (stackDesc 10#8 sel 0#2) u fun p v =>
      (p.2.toReg sel p.2.dpl).room 0x200000#32 4 5 && !(p.2.toReg sel p.2.dpl).room 2#32 4 5 &&
      okay (markAccessed p.1 p.2) v) = true := by
  decide +kernel

/-- Without room on the new stack its descriptor is not marked accessed (42 R527). -/
theorem test_inner_stack_without_room :
    (match innerStack 0#2 4 5 (inTss 4 [2, 0, 0, 0, 0x78] 0x67#32) with
      | .error (.exc e) u => e.vector == 12#8 && Memory.read u.mem 0x507D == 0x92#8
      | _ => false) = true := by decide +kernel

/-- V86 entry loads all of ESP, though the stack of level 0 is not Big (60 R765). -/
theorem test_v86_entry_loads_esp :
    oks (deliverOnce (softEvent 0x20#8)) (ld 0x5016 [0x8F] (ld 0x7804 [0, 0x50, 0x34, 0x12] sysV86)).started.advanced
      (fun _ u => u.regs.esp == 0x12344FDC#32 && !u.segs.ss.big) = true := by decide +kernel

theorem witness_StackSwitches_return :
    (3#16).toNat < 4 ∧ missing sys 0xF0#16 = true ∧ (8#16).extractLsb' 0 2 < sys3.cpl ∧
    names sys 0x10#16 (fun d => !d.isCode) = true ∧
    names sys 0x38#16 (fun d => d.isCode && !d.conforming && d.dpl == 0#2 && !d.present) = true ∧
    names sys 0x1B#16 (fun d => d.isCode && !d.conforming && d.dpl == 3#2 && d.present) = true := by
  decide +kernel

/-- RETF to `ip` in 1BH with `ss` for its stack. -/
def outer (ip ss : Word) (p : Word → Half → State → Bool) : Bool :=
  let s := onStack [ip, 0x1B#32, 0x3000#32, ss] sys
  oks (peek 4 8) s fun spw u => oks (peek 4 12) u fun w v => p spw (w.setWidth 16) v

theorem witness_StackSwitches_outer :
    ¬Allowed (limited 0x200E#32).segs.ss (limited 0x200E#32).sp (8 + 2 * 4) true false ∧
    Allowed sys.segs.ss sys.sp (8 + 2 * 4) true false ∧
    outer 0x4000#32 0#32 (fun _ ss _ => decide (ss.toNat < 4)) = true ∧
    outer 0x4000#32 0x20#32 (fun _ ss u => decide (4 ≤ ss.toNat) && raises (stackDesc 13#8 ss 3#2) u 13#8) = true ∧
    outer 0x4000#32 0x23#32 (fun _ ss u => decide (4 ≤ ss.toNat) && oks (stackDesc 13#8 ss 3#2) u fun p v =>
      okay (markAccessed p.1 p.2) v) = true ∧
    names sys 0x1B#16 (fun d => decide (0x4000#32 ≤ d.limit) && bit d.hi 8) = true ∧
    (⟨0xFFFF#32, 0x40FA00#32⟩ : Desc).limit < 0x10000#32 := by
  unfold Allowed
  decide +kernel

/-- The call gate at `sel`, read in `s`; `p` holds of it. -/
def callGate (s : State) (sel : Half) (p : Desc → Bool) : Bool :=
  names s.started sel fun g => g.sysType == 12 && p g

/-- The gate may be used, is present, and names a segment of which `p` holds. -/
def gateTo (s : State) (sel : Half) (p : Desc → Desc → Bool) : Bool :=
  callGate s sel fun g => g.dpl == 3#2 && g.present && names s g.gateSel fun d => p g d

theorem witness_CallGates_refused :
    FarGoes sys (.callFarAp (.v32 0#32) 0x40#16) true 0x40#16 0#32 sys.started ∧ sys.prefixOk false false ∧
    sys.protMode = true ∧ 4 ≤ (0x40#16).toNat ∧ sys3.prefixOk false false ∧ sys3.protMode = true ∧
    callGate sys3 0x50#16 (fun g => g.dpl == 0#2) = true ∧
    callGate sys 0x58#16 (fun g => g.dpl == 3#2 && !g.present) = true ∧
    callGate sys 0x80#16 (fun g => g.dpl == 3#2 && g.present && decide (g.gateSel.toNat < 4)) = true ∧
    callGate sys 0x88#16 (fun g => g.dpl == 3#2 && g.present && missing sys g.gateSel) = true ∧
    gateTo sys 0x90#16 (fun _ d => !d.isCode) = true ∧
    gateTo sys 0x98#16 (fun _ d => d.isCode && d.dpl == 0#2 && !d.present) = true ∧
    gateTo sys3 0x40#16 (fun _ d => d.isCode && d.dpl == 0#2 && d.present && !d.conforming) = true ∧
    gateTo sys 0xA0#16 (fun g d => d.isCode && d.dpl == 0#2 && d.present && d.conforming &&
      decide (d.limit < g.gateOff)) = true := by
  exact ⟨.callAp _ _, no_prefix rfl rfl rfl, by decide +kernel, by decide, no_prefix rfl rfl rfl, by decide +kernel,
    by decide +kernel, by decide +kernel, by decide +kernel, by decide +kernel, by decide +kernel, by decide +kernel,
    by decide +kernel, by decide +kernel⟩

def sysLimited : State := { sys with segs := (limited 0x1FFB#32).segs }

theorem witness_CallGates_same :
    FarGoes sys (.jmpFarAp (.v32 0#32) 0xA8#16) false 0xA8#16 0#32 sys.started ∧
    gateTo sys 0xA8#16 (fun g d => d.isCode && d.dpl == 0#2 && d.present && d.conforming &&
      decide (g.gateOff ≤ d.limit) && okay (markAccessed 0x5068#32 d) sys.started) = true ∧
    gateTo sys 0x40#16 (fun g d => d.isCode && d.present && d.dpl == sys.cpl && sys.room 4 2 &&
      decide (g.gateOff ≤ d.limit) && g.gate386 &&
      oks (pushReturn 4 sys.segs.cs.selector sys.nextEip) sys.started fun _ v => okay (markAccessed 0x5008#32 d) v) =
      true ∧
    sysLimited.room 4 2 = false ∧ gateTo sysLimited 0x40#16 (fun _ d => d.isCode && d.present && d.dpl == 0#2) = true := by
  exact ⟨.jmpAp _ _, by decide +kernel, by decide +kernel, by decide +kernel, by decide +kernel⟩

/-- Call gate 40H leads beyond the limit of code 08H. -/
def smallCode : State := ld 0x500E [0x40] (ld 0x5046 [1] sys3)

theorem witness_CallGates_inner :
    gateTo sys3 0x40#16 (fun g d => d.isCode && d.dpl == 0#2 && d.present && !d.conforming && g.gateCount == 1) = true ∧
    raises (innerStack 0#2 4 (4 + 1)) (inTss 0 [] 8#32).started 10#8 = true ∧
    gateTo (inTss 0 [] 8#32) 0x40#16 (fun _ d => d.isCode && d.dpl == 0#2 && d.present && !d.conforming) = true ∧
    raises (innerStack 0#2 4 (4 + 1)) (inTss 4 [2, 0, 0] 0x67#32).started 12#8 = true ∧
    okay (innerStack 0#2 4 (4 + 1)) smallCode.started = true ∧
    gateTo smallCode 0x40#16 (fun g d => d.isCode && d.dpl == 0#2 && d.present && decide (d.limit < g.gateOff)) = true ∧
    oks (innerStack 0#2 4 (4 + 1)) sys3.started (fun st v => oks (enterLevel 0#2 st) v fun _ v =>
      oks (pushSel 4 sys3.segs.ss.selector) v fun _ v =>
      oks (push 4 sys3.regs.esp) v fun _ v => oks (copyParams 4 sys3.segs.ss sys3.regs.esp 1) v fun _ v =>
      oks (pushReturn 4 sys3.segs.cs.selector sys3.nextEip) v fun _ v =>
      okay (markAccessed 0x5008#32 { lo := 0xFFFF#32, hi := 0xCF9B00#32 }) v) = true := by
  decide +kernel

theorem witness_TaskSwitches_saved :
    sys.physMap = [] ∧ Memory.wf sys.mem = true ∧ sys.tr.is386 = true ∧
    okay (physAddrs (sys.tr.base + 0x20#32) 64 true false) sys = true ∧
    okay (physAddrs (sys.tr.base + 0xE#32) 28 true false) { sys with tr := { sys.tr with is386 := false } } = true ∧
    Plain sys ∧ sys.tr.base.toNat + 0x68 ≤ 2 ^ 32 ∧ okay (saveTask sys.flags sys.nextEip) sys = true ∧
    okay (saveTask sys.flags sys.nextEip) { sys with tr := { sys.tr with is386 := false } } = true := by
  unfold Plain
  decide +kernel

/-- The writes of a switch, one after the other. -/
def switchWrites (kind : SwitchKind) (la : Word) (s : State) (p : State → Bool) : Bool :=
  oks (saveTask { s.flags with NT := s.flags.NT && decide (kind ≠ .back) } s.nextEip) s fun _ u =>
    oks (if kind = .nest then pure () else putBusy 0x5060#32 false) u fun _ v =>
    oks (if kind = .back then pure () else putBusy la true) v fun _ w =>
    oks (if kind = .nest then linWrite 0x7900#32 2 s.tr.selector.toNat else pure ()) w fun _ x => p x

theorem witness_TaskSwitches_switch :
    names sys 0xE8#16 (fun d => decide (d.limit.toNat < 0x67) && bit d.hi 11) = true ∧
    names sys 0xC0#16 (fun d => decide (0x67 ≤ d.limit.toNat) && bit d.hi 11 && d.base == 0x7900#32) = true ∧
    (inTss 0 [] 0x66#32).tr.limit.toNat < 0x67 ∧ 0x67 ≤ sys.tr.limit.toNat ∧ sys.descAddr 0x60#16 = some 0x5060#32 ∧
    switchWrites .nest 0x50C0#32 sys (fun u => oks (readTask 0x7900#32 true) u fun x v =>
      okay (validateTask x) (v.switched true sys.tr x)) = true ∧
    switchWrites .jump 0x50C0#32 badTask (fun u => oks (readTask 0x7900#32 true) u fun x v =>
      raises (validateTask x) (v.switched false sys.tr x) 10#8) = true ∧
    switchWrites .back 0x50B8#32 sys (fun u => oks (readTask 0x7900#32 true) u fun x v =>
      okay (validateTask x) (v.switched false sys.tr x)) = true := by
  decide +kernel

theorem witness_TaskSwitches_checks :
    (3#16).toNat < 4 ∧ missing sys 0xF0#16 = true ∧ names sys 0x10#16 (fun d => !d.isCode) = true ∧
    names sys 0x38#16 (fun d => d.isCode && !d.conforming && d.dpl == 0#2 && !d.present) = true ∧
    (0xC#16).getLsbD 2 = true ∧ names sys 0x30#16 (fun d => d.sysType != 2) = true ∧
    names sys 0xD8#16 (fun g => decide (4 ≤ g.gateSel.toNat) && names sys g.gateSel fun d => d.sysType == 0) = true ∧
    names sys 0xE0#16 (fun g => decide (4 ≤ g.gateSel.toNat) && names sys g.gateSel fun d => d.sysType == 9 &&
      !d.present) = true ∧
    names sys 0x48#16 (fun g => decide (4 ≤ g.gateSel.toNat) && names sys g.gateSel fun d => d.sysType == 9 &&
      d.present) = true ∧
    names sys 0xD0#16 (fun g => decide (g.gateSel.toNat < 4)) = true := by
  decide +kernel

/-- The task of the TSS at 7900H, and the state after the check of its LDT selector. -/
def taskChecked (s : State) (p : TaskImage → State → Bool) : Bool :=
  oks (readTask 0x7900#32 true) s fun x v => oks (checkLdt x.ldt) v fun _ u => p x u

theorem witness_TaskSwitches_order :
    raises (checkLdt 0x30#16) sys 10#8 = true ∧ taskChecked sys (fun x u => !x.flags.VM && okay (taskSegChecks x) u) = true ∧
    taskChecked (ld 0x7926 [2] sys) (fun x _ => x.flags.VM) = true ∧
    taskChecked (ld 0x7960 [0x28] sys) (fun x u => x.ldt == 0x28#16 && u.ldtr.valid) = true := by
  decide +kernel

theorem witness_TaskSwitches_loads :
    (0x28#16).getLsbD 2 = false ∧ names sys 0x28#16 (fun d => d.sysType == 2 && d.present) = true ∧
    names sys 0x8#16 (fun d => d.isCode && !d.conforming && d.dpl == 0#2 && d.present && okay (markAccessed 0x5008#32 d) sys) =
      true ∧
    names sys 0x68#16 (fun d => d.isCode && d.conforming && d.dpl == 0#2 && d.present && okay (markAccessed 0x5068#32 d) sys) =
      true ∧
    names sys 0x78#16 (fun d => d.readable && d.dpl == sys.cpl && d.present && okay (markAccessed 0x5078#32 d) sys) = true ∧
    names sys 0x70#16 (fun d => d.readable && d.dpl == sys.cpl && !d.present) = true ∧
    names sys3 0x10#16 (fun d => d.readable && !d.conforming && decide (d.dpl < sys3.cpl)) = true ∧
    raises (stackDesc 10#8 0x30#16 sys.cpl) sys 10#8 = true ∧
    oks (stackDesc 10#8 0x10#16 sys.cpl) sys (fun p u => okay (markAccessed p.1 p.2) u) = true := by
  decide +kernel

theorem witness_TaskSwitches_far :
    FarGoes sys (.callFarAp (.v32 0#32) 0xC0#16) true 0xC0#16 0#32 sys.started ∧ sys.prefixOk false false ∧
    sys.protMode = true ∧
    names sys3.started 0x30#16 (fun d => d.sysType == 9 && d.dpl == 0#2) = true ∧
    names sys.started 0xB0#16 (fun d => d.sysType == 9 && d.dpl == 3#2 && !d.present) = true ∧
    names sys.started 0xC8#16 (fun d => d.sysType == 5 && d.dpl == 3#2 && !d.present) = true ∧
    names sys.started 0xC0#16 (fun d => d.sysType == 9 && d.dpl == 3#2 && d.present &&
      okay (taskSwitch .nest 0xC0#16 0x50C0#32 d sys.flags sys.nextEip) sys.started &&
      raises (taskSwitch .jump 0xC0#16 0x50C0#32 d sys.flags sys.nextEip) badTask.started 10#8 true) = true ∧
    names sys.started 0xE8#16 (fun d => d.sysType == 9 && d.dpl == 3#2 && d.present &&
      raises (taskSwitch .jump 0xE8#16 0x50E8#32 d sys.flags sys.nextEip) sys.started 10#8) = true ∧
    names sys.started 0x48#16 (fun d => d.sysType == 5 && d.dpl == 3#2 && d.present && oks (gateTss d) sys.started
      fun p u => okay (taskSwitch .nest p.1 p.2.1 p.2.2 sys.flags sys.nextEip) u) = true ∧
    names sys.started 0xD8#16 (fun d => d.sysType == 5 && d.dpl == 3#2 && d.present &&
      raises (gateTss d) sys.started 13#8) = true := by
  exact ⟨.callAp _ _, no_prefix rfl rfl rfl, by decide +kernel, by decide +kernel, by decide +kernel, by decide +kernel,
    by decide +kernel, by decide +kernel, by decide +kernel, by decide +kernel⟩

/-- NT set; the back link is `link`. -/
def nested (link : Nat) : State := { ld 0x7800 [link] sys with flags := { sys.flags with NT := true } }

/-- The back link as IRET reads it, and the descriptor it names. -/
def linked (s : State) (p : Half → Desc → State → Bool) : Bool :=
  oks (linRead s.tr.base 2) (released s.started) fun x u => oks (readDesc ((s.descAddr (BitVec.ofNat 16 x)).getD 0#32)) u
    fun d v => p (BitVec.ofNat 16 x) d v

theorem witness_TaskSwitches_return :
    (nested 0xB8).prefixOk false false ∧ (nested 0xB8).protMode = true ∧ (nested 0xB8).flags.NT = true ∧
    linked (nested 0) (fun l _ _ => decide (l.toNat < 4)) = true ∧
    linked (nested 0xC0) (fun _ d _ => d.sysType == 9) = true ∧
    linked { (ld 0x50BD [0xB] (nested 0xB8)) with flags := (nested 0).flags } (fun _ d _ => d.sysType == 11 && !d.present) =
      true ∧
    (nested 0xB8).descAddr 0xB8#16 = some 0x50B8#32 ∧
    linked (nested 0xB8) (fun l d u => l == 0xB8#16 && d.sysType == 11 && d.present &&
      okay (taskSwitch .back l 0x50B8#32 d (nested 0xB8).flags (nested 0xB8).nextEip) u) = true := by
  exact ⟨no_prefix rfl rfl rfl, by decide +kernel, by decide +kernel, by decide +kernel, by decide +kernel,
    by decide +kernel, by decide +kernel, by decide +kernel⟩

theorem witness_StepKeepsInvariant : Machine.Inv fetching ∧ ∃ t, step fetching = .next t := by
  refine ⟨?_, ?_⟩
  · unfold Machine.Inv; decide +kernel
  · have h : (match step fetching with | .next _ => true | _ => false) = true := by decide +kernel
    cases hs : step fetching with
    | next t => exact ⟨t, rfl⟩
    | fault r => rw [hs] at h; cases h
    | refused r => rw [hs] at h; cases h

/-- The same with a repetition in progress, whose bytes no longer stand at CS:EIP. -/
theorem witness_StepKeepsInvariant_repeating :
    let s : State := { fetching with repeating := some (.lodsb, { Insn.start with rep := true, len := 2 }) }
    Machine.Inv s ∧ (match step s with | .next _ => true | _ => false) = true := by
  refine ⟨?_, ?_⟩
  · unfold Machine.Inv; decide +kernel
  · decide +kernel

end Sys2Proof.Tests
end

section
/-! PROOF. The rules of the stack operations: what memory keeps under a store, the stack pointer, when a push completes
over plain memory. -/

namespace Sys2Proof.Machine

open Sys2Proof.Claims

variable {s t u : State} {n g k : Nat} {pas : List Word}

/-! ### Canonical memory -/

/-- Memory in canonical form stays so. -/
def KeepsWf (s t : State) : Prop := Memory.wf s.mem = true → Memory.wf t.mem = true

theorem KeepsWf.refl (s : State) : KeepsWf s s := id

theorem KeepsWf.trans {w : State} (h : KeepsWf s u) (h' : KeepsWf u w) : KeepsWf s w := h' ∘ h

theorem Preserves.mono {α : Type} {R R' : State → State → Prop} {x : M α} (hr : ∀ {s t}, R s t → R' s t)
    (h : Preserves R x) : Preserves R' x := by
  intro s
  have hs := h s
  cases hx : x s <;> rw [hx] at hs <;> exact hr hs

theorem State.stored_keepsWf (s : State) (n : Nat) (pa : Word) (b : Byte) : KeepsWf s (s.stored n pa b) := by
  intro hm
  unfold State.stored
  split
  · exact Memory.write_wf b hm pa.isLt
  all_goals exact hm

theorem physWriteList_keepsWf (n : Nat) (pas : List Word) (bs : List Byte) :
    Preserves KeepsWf (physWriteList n pas bs) := by
  induction pas generalizing bs with
  | nil => exact .pure .refl ()
  | cons p ps ih =>
    cases bs with
    | nil => exact .pure .refl ()
    | cons b bs => exact .bind .trans (.modify fun s => s.stored_keepsWf n p b) fun _ => ih bs

theorem memAddrs_keepsWf (sg : SegNo) (off : Word) (n : Nat) (rd wr : Bool) :
    Preserves KeepsWf (memAddrs sg off n rd wr) := (memAddrs_keeps sg off n rd wr).mono AccessKeeps.wf

theorem memRead_keepsWf (sg : SegNo) (off : Word) (n : Nat) : Preserves KeepsWf (memRead sg off n) :=
  (memRead_keeps sg off n).mono AccessKeeps.wf

theorem push_keepsWf (n : Nat) (v : Word) : Preserves KeepsWf (push n v) :=
  .bind .trans (.get .refl) fun _ =>
    .bind .trans (.bind .trans (memAddrs_keepsWf _ _ _ _ _) fun _ => physWriteList_keepsWf _ _ _) fun _ =>
      .modify fun _ => id

/-- A store that completed did what `Stores` says. -/
theorem stores_of_physWriteList {v : Nat} (hm : Memory.wf u.mem = true) (hd : pas.Nodup) (hl : pas.length = n)
    (h : physWriteList n pas (toBytes n v) u = .ok () t) : Stores u pas (toBytes n v) t := by
  obtain ⟨t', ht, hs⟩ := physWriteList_stores (bs := toBytes n v) hm hd (hl.trans (toBytes_length n v).symm)
  rw [toBytes_length, h] at ht
  cases ht
  exact hs

/-! ### The stack pointer -/

theorem AccessKeeps.sp (h : AccessKeeps s u) : u.sp = s.sp := by rw [h.1]; rfl

theorem Width.trunc_w16_toNat (v : Word) : (Width.w16.trunc v).toNat = v.toNat % 2 ^ 16 := by
  simp [Width.trunc, BitVec.toNat_and, Nat.and_two_pow_sub_one_eq_mod v.toNat 16]

theorem SegReg.stackWidth_cases (r : SegReg) : r.stackWidth = .w16 ∨ r.stackWidth = .w32 := by
  unfold SegReg.stackWidth
  split
  · exact .inr rfl
  · exact .inl rfl

theorem SegReg.trunc_stackWidth (r : SegReg) (off : Word) :
    r.stackWidth.trunc off = if r.big then off else off &&& 0xFFFF#32 := by
  unfold SegReg.stackWidth
  split <;> rfl

/-- Subtracting from a truncated offset is subtracting before the truncation: offsets are sums modulo 2^16 or 2^32. -/
theorem SegReg.trunc_trunc_sub (r : SegReg) (v x : Word) :
    r.stackWidth.trunc (r.stackWidth.trunc v - x) = r.stackWidth.trunc (v - x) := by
  rcases r.stackWidth_cases with h | h <;> rw [h]
  · apply BitVec.eq_of_toNat_eq
    simp only [Width.trunc_w16_toNat, BitVec.toNat_sub]
    omega
  · rfl

theorem State.stackOff_sub (s : State) (v x : Word) : s.stackOff (s.stackOff v - x) = s.stackOff (v - x) :=
  s.segs.ss.trunc_trunc_sub v x

theorem State.stackOff_stackOff (s : State) (v : Word) : s.stackOff (s.stackOff v) = s.stackOff v := by
  simpa using s.stackOff_sub v 0#32

/-- The stack pointer is a stack offset. -/
theorem State.stackOff_sp (s : State) : s.stackOff s.sp = s.sp := by
  unfold State.stackOff State.sp State.stackWidth State.reg
  rcases s.segs.ss.stackWidth_cases with h | h <;> rw [h]
  · simp [Width.trunc, Regs.read, BitVec.and_assoc]
  · rfl

/-- The stack pointer after a move to `v`. -/
theorem State.sp_setReg (s : State) (v : Word) : (s.setReg s.stackWidth .esp v).sp = s.stackOff v := by
  unfold State.stackOff State.sp State.setReg State.stackWidth State.reg
  rcases s.segs.ss.stackWidth_cases with h | h <;> rw [h]
  · simp [Width.trunc, Regs.read, Regs.write, Regs.set, Regs.get, BitVec.and_or_distrib_right, BitVec.and_assoc]
  · rfl

/-! ### Reads of the stack -/

theorem peek_ok {x : Nat} (h : memRead .ss (s.stackOff (s.sp + BitVec.ofNat 32 k)) n s = .ok x u) :
    peek n k s = .ok (BitVec.ofNat 32 x) u := by
  simp [peek, h]

theorem pop_ok {x : Nat} (h : memRead .ss s.sp n s = .ok x u) :
    pop n s = .ok (BitVec.ofNat 32 x) (dropped u n) := by
  have hp : peek n 0 s = .ok (BitVec.ofNat 32 x) u := peek_ok (by simpa [s.stackOff_sp] using h)
  simp [pop, hp, dropBytes, dropped]

/-! ### Accesses over plain memory -/

theorem translate_plain (h : Plain s) (la : Word) (wr user : Bool) : translate la wr user s = .ok la s := by
  obtain ⟨hpg, htlb, -, -⟩ := h
  simp [translate, hpg, htlb, chooseEntry]

theorem physAddrs_plain (h : Plain s) (la : Word) (n : Nat) (wr user : Bool) :
    ∃ pas, physAddrs la n wr user s = .ok pas s := by
  simp only [physAddrs, bind_apply, translate_plain h, ite_apply, pure_apply]
  split <;> exact ⟨_, rfl⟩

theorem watch_plain (h : Plain s) (la : Word) (n : Nat) (wr : Bool) : watch la n wr s = .ok () s := by
  obtain ⟨-, -, -, hdr⟩ := h
  simp [watch, hdr]

/-- Over plain memory the segment check is all that can stop an access, and it changes nothing. -/
theorem memAddrs_plain (h : Plain s) {sg : SegNo} {off : Word} {rd wr : Bool}
    (ha : (s.seg sg).allows off n rd wr = true) : ∃ pas, memAddrs sg off n rd wr s = .ok pas s := by
  obtain ⟨pas, hp⟩ := physAddrs_plain h ((s.seg sg).base + off) n wr s.userLevel
  exact ⟨pas, by simp [memAddrs, regAddrs, segAddr, ha, hp, watch_plain h]⟩

end Sys2Proof.Machine
end

section
/-! PROOF. What is pushed: single items, frames, blocks, copied frame pointers and parameters. -/

namespace Sys2Proof.Claims

open Sys2Proof.Machine

variable {s t u : State} {n g k : Nat} {v : Word} {x : Item} {cs : Half}

/-! ### One item -/

/-- A push that completed pushed its value. -/
theorem pushedOne_of_push (hg : g ≤ 4096) (hm : Memory.wf s.mem = true) (h : push g v s = .ok () t) :
    PushedOne g (.val v) s t := by
  have h0 := h
  simp only [push] at h
  obtain ⟨_, _, hget, h⟩ := bind_eq_ok h
  cases hget
  obtain ⟨_, _, hw, -⟩ := bind_eq_ok h
  simp only [memWrite] at hw
  obtain ⟨pas, u, hp, -⟩ := bind_eq_ok hw
  obtain ⟨w, hw, hs⟩ := push_ok (v := v) hg hm hp
  rw [h0] at hw
  cases hw
  exact ⟨pas, u, w, hp, (memAddrs_keeps _ _ _ _ _).ok hp, hs, rfl⟩

/-- An item is pushed as its value, after the free values in it have been drawn. -/
theorem pushedOne_iff_val : PushedOne g x s t ↔
    PushedOne g (.val (x.value g s.draws).1) { s with draws := s.draws + (x.value g s.draws).2 } t := Iff.rfl

theorem selectorSlot_eq (g : Nat) (cs : Half) (s : State) :
    selectorSlot g cs s = .ok ((Item.sel cs).value g s.draws).1
      { s with draws := s.draws + ((Item.sel cs).value g s.draws).2 } := by
  by_cases hg : g = 4 <;> simp [selectorSlot, Item.value, hg]

theorem pushSel_eq (g : Nat) (cs : Half) (s : State) :
    pushSel g cs s = push g ((Item.sel cs).value g s.draws).1
      { s with draws := s.draws + ((Item.sel cs).value g s.draws).2 } := bind_ok (selectorSlot_eq g cs s)

theorem pushCode_page (g : Nat) (c : BitVec 3) (s : State) :
    pushCode g (.page c) s = push g ((Item.page c).value g s.draws).1
      { s with draws := s.draws + ((Item.page c).value g s.draws).2 } := rfl

theorem pushedOne_of_pushSel (hg : g ≤ 4096) (hm : Memory.wf s.mem = true) (h : pushSel g cs s = .ok () t) :
    PushedOne g (.sel cs) s t := by
  rw [pushSel_eq] at h
  exact pushedOne_iff_val.mpr (pushedOne_of_push hg hm h)

theorem pushSel_keepsWf (g : Nat) (cs : Half) : Preserves KeepsWf (pushSel g cs) := by
  intro s
  rw [pushSel_eq]
  exact push_keepsWf g _ _

/-! ### Frames -/

theorem pushed_singleton (h : PushedOne g x s t) : Pushed g [x] s t := ⟨t, h, rfl⟩

theorem pushed_return (hg : g ≤ 4096) (hm : Memory.wf s.mem = true) {next : Word}
    (h : pushReturn g cs next s = .ok () t) : Pushed g [.sel cs, .val next] s t := by
  obtain ⟨_, u, hsel, hval⟩ := bind_eq_ok h
  have hu := (pushSel_keepsWf g cs).ok hsel hm
  exact ⟨u, pushedOne_of_pushSel hg hm hsel, pushed_singleton (pushedOne_of_push hg hu hval)⟩

theorem pushed_frame (hg : g ≤ 4096) (hm : Memory.wf s.mem = true) {image : Flags} {next : Word}
    (h : pushFrame g image cs next s = .ok () t) : Pushed g [.val image.toWord, .sel cs, .val next] s t := by
  obtain ⟨_, u, hval, hret⟩ := bind_eq_ok h
  have hu := (push_keepsWf g _).ok hval hm
  exact ⟨u, pushedOne_of_push hg hm hval, pushed_return hg hu hret⟩

theorem pushed_code (hg : g ≤ 4096) (hm : Memory.wf s.mem = true) {code : ErrCode}
    (h : pushCode g code s = .ok () t) : Pushed g (codeItems code) s t := by
  cases code with
  | none =>
    cases h
    rfl
  | sel c => exact pushed_singleton (pushedOne_of_pushSel hg hm h)
  | page c =>
    rw [pushCode_page] at h
    exact pushed_singleton (pushedOne_iff_val.mpr (pushedOne_of_push hg hm h))

/-! ### Room -/

/-- Room for `k` items: each of the `k` slots below the top may be written. -/
theorem room_iff (r : SegReg) (sp : Word) (g k : Nat) :
    r.room sp g k = true ↔
      ∀ j < k, r.allows (r.stackWidth.trunc (sp - BitVec.ofNat 32 (g * (j + 1)))) g false true = true := by
  induction k with
  | zero => simp [SegReg.room]
  | succ k ih => rw [SegReg.room, Bool.and_eq_true, ih, Nat.forall_lt_succ_right, and_comm]

/-- After one item of `k + 1` has been pushed, there is room for the other `k`. -/
theorem room_pushed {r : SegReg} {sp : Word} (h : r.room sp g (k + 1) = true) :
    r.room (r.stackWidth.trunc (sp - BitVec.ofNat 32 g)) g k = true := by
  rw [room_iff] at h ⊢
  intro j hj
  have hsum : sp - BitVec.ofNat 32 g - BitVec.ofNat 32 (g * (j + 1)) = sp - BitVec.ofNat 32 (g * (j + 1 + 1)) := by
    rw [BitVec.sub_sub, ← BitVec.ofNat_add, Nat.mul_succ g (j + 1), Nat.add_comm]
  rw [SegReg.trunc_trunc_sub, hsum]
  exact h (j + 1) (by omega)

/-- What `k` pushes of `g` bytes need in order to complete: plain memory in canonical form, and room. -/
def Roomy (g k : Nat) (s : State) : Prop := Plain s ∧ Memory.wf s.mem = true ∧ s.room g k = true

/-- A free value drawn takes no room. -/
theorem Roomy.drawn (h : Roomy g k s) (d : Nat) : Roomy g k { s with draws := d } := h

/-- Where there is room for an item, its push completes and leaves the rest of the room. -/
theorem Roomy.push (hg : g ≤ 4096) (h : Roomy g (k + 1) s) (v : Word) :
    ∃ t, push g v s = .ok () t ∧ Roomy g k t := by
  obtain ⟨hp, hm, hr⟩ := h
  have ha : s.segs.ss.allows (s.stackOff (s.sp - BitVec.ofNat 32 g)) g false true = true := by
    have h0 := (room_iff _ _ _ _).mp hr 0 k.succ_pos
    rwa [Nat.zero_add, Nat.mul_one] at h0
  obtain ⟨pas, hpas⟩ := memAddrs_plain (sg := .ss) hp ha
  obtain ⟨w, hw, hs⟩ := push_ok (v := v) hg hm hpas
  refine ⟨_, hw, ?_, (push_keepsWf g v).ok hw hm, ?_⟩
  · rw [hs.1]
    exact hp
  · rw [State.room, ← hs.stackWidth, State.sp_setReg, State.setReg_segs, hs.1]
    exact (s.stackOff_stackOff _).symm ▸ room_pushed hr

theorem Roomy.pushSel (hg : g ≤ 4096) (h : Roomy g (k + 1) s) (cs : Half) :
    ∃ t, pushSel g cs s = .ok () t ∧ Roomy g k t := by
  rw [pushSel_eq]
  exact (h.drawn _).push hg _

theorem Roomy.pushReturn (hg : g ≤ 4096) (h : Roomy g (k + 2) s) (cs : Half) (next : Word) :
    ∃ t, pushReturn g cs next s = .ok () t ∧ Roomy g k t := by
  obtain ⟨u, hu, hr⟩ := h.pushSel hg cs
  obtain ⟨t, ht, hr⟩ := hr.push hg next
  exact ⟨t, (bind_ok hu).trans ht, hr⟩

theorem Roomy.pushFrame (hg : g ≤ 4096) (h : Roomy g (k + 3) s) (image : Flags) (cs : Half) (next : Word) :
    ∃ t, pushFrame g image cs next s = .ok () t ∧ Roomy g k t := by
  obtain ⟨u, hu, hr⟩ := h.push hg image.toWord
  obtain ⟨t, ht, hr⟩ := hr.pushReturn hg cs next
  exact ⟨t, (bind_ok hu).trans ht, hr⟩

theorem Roomy.pushCode (hg : g ≤ 4096) (h : Roomy g 1 s) (code : ErrCode) : ∃ t, pushCode g code s = .ok () t := by
  cases code with
  | none => exact ⟨s, rfl⟩
  | sel c => exact (h.pushSel hg c).imp fun _ => And.left
  | page c =>
    rw [pushCode_page]
    exact ((h.drawn _).push hg _).imp fun _ => And.left

/-! ### Blocks -/

theorem blockAddrs_keeps (n k i : Nat) : Preserves AccessKeeps (blockAddrs n k i) := by
  induction i with
  | zero => exact .pure .refl []
  | succ i ih =>
    exact .bind .trans (.get .refl) fun _ => .bind .trans (memAddrs_keeps _ _ _ _ _) fun _ =>
      .bind .trans ih fun _ => .pure .refl _

/-- The last `i` of `k` items lie `k - i + 1` to `k` items below the top. -/
theorem blockAddrs_of_ok {i : Nat} {ps : List (List Word)} (hi : i ≤ k) (h : blockAddrs n k i s = .ok ps t) :
    BlockAddrs n s.sp (List.range' (k - i + 1) i) ps s t := by
  induction i generalizing s ps with
  | zero =>
    cases h
    exact ⟨rfl, rfl⟩
  | succ i ih =>
    simp only [blockAddrs] at h
    obtain ⟨_, _, hget, h⟩ := bind_eq_ok h
    cases hget
    obtain ⟨p, u, hp, h⟩ := bind_eq_ok h
    obtain ⟨qs, _, hqs, h⟩ := bind_eq_ok h
    cases h
    have hrest := ih (by omega) hqs
    rw [((memAddrs_keeps _ _ _ _ _).ok hp).sp] at hrest
    have hj : k - (i + 1) + 1 = k - i := by omega
    rw [List.range'_succ, hj]
    exact ⟨p, qs, u, rfl, hp, hrest⟩

/-- Each item of a block has as many different addresses as bytes. -/
theorem BlockAddrs.places {sp : Word} {js : List Nat} {ps : List (List Word)} (hn : n ≤ 4096)
    (h : BlockAddrs n sp js ps s t) : ∀ p ∈ ps, p.Nodup ∧ p.length = n := by
  induction js generalizing ps s with
  | nil =>
    obtain ⟨rfl, -⟩ := h
    simp
  | cons j js ih =>
    obtain ⟨p, qs, u, rfl, hp, hqs⟩ := h
    exact List.forall_mem_cons.mpr ⟨⟨memAddrs_nodup hn hp, memAddrs_length hp⟩, ih hqs⟩

theorem blockStores_of_putItems {ps : List (List Word)} {vs : List Word} (hm : Memory.wf s.mem = true)
    (hps : ∀ p ∈ ps, p.Nodup ∧ p.length = n) (h : putItems n ps vs s = .ok () t) : BlockStores n ps vs s t := by
  induction ps generalizing vs s with
  | nil =>
    cases h
    rfl
  | cons p ps ih =>
    cases vs with
    | nil =>
      cases h
      rfl
    | cons v vs =>
      obtain ⟨⟨hd, hl⟩, hps⟩ := List.forall_mem_cons.mp hps
      obtain ⟨_, u, hp, h⟩ := bind_eq_ok h
      exact ⟨u, stores_of_physWriteList hm hd hl hp, ih ((physWriteList_keepsWf _ _ _).ok hp hm) hps h⟩

theorem BlockStores.regs_segs {ps : List (List Word)} {vs : List Word} (h : BlockStores n ps vs s t) :
    t.regs = s.regs ∧ t.segs = s.segs := by
  induction ps generalizing vs s with
  | nil =>
    cases h
    exact ⟨rfl, rfl⟩
  | cons p ps ih =>
    cases vs with
    | nil =>
      cases h
      exact ⟨rfl, rfl⟩
    | cons v vs =>
      obtain ⟨u, hu, h⟩ := h
      obtain ⟨hr, hs⟩ := ih h
      rw [hr, hs, hu.1]
      exact ⟨rfl, rfl⟩

/-- PUSHA's block: the addresses of all items, then the stores, then the move of the stack pointer (40 R347). -/
theorem pushBlock_cases {vs : List Word} (hn : n ≤ 4096) (hm : Memory.wf s.mem = true)
    (h : pushBlock n vs s = .ok () t) :
    ∃ ps u v, BlockAddrs n s.sp ((List.range vs.length).map (· + 1)) ps s u ∧ AccessKeeps s u ∧
      BlockStores n ps vs u v ∧ t = v.setReg s.stackWidth .esp (s.sp - BitVec.ofNat 32 (n * vs.length)) := by
  simp only [pushBlock] at h
  obtain ⟨ps, u, hps, h⟩ := bind_eq_ok h
  obtain ⟨_, v, hv, h⟩ := bind_eq_ok h
  cases h
  have hk := (blockAddrs_keeps _ _ _).ok hps
  have hps := blockAddrs_of_ok (Nat.le_refl _) hps
  have hst := blockStores_of_putItems (hk.wf hm) (hps.places hn) hv
  obtain ⟨hr, hs⟩ := hst.regs_segs
  have hw : v.stackWidth = s.stackWidth := by rw [State.stackWidth, hs, hk.segs, State.stackWidth]
  have hsp : v.sp = s.sp := by rw [State.sp, State.reg, hw, hr, hk.regs, State.sp, State.reg]
  have hjs : List.range' (vs.length - vs.length + 1) vs.length = (List.range vs.length).map (· + 1) := by
    simp [List.range'_eq_map_range, Nat.add_comm]
  rw [hjs] at hps
  exact ⟨ps, u, v, hps, hk, hst, by simp only [hw, hsp]⟩

/-! ### Copied frame pointers and parameters -/

theorem framesCopied_of_ok {w : Width} (hm : Memory.wf s.mem = true) (h : copyFrames w k s = .ok () t) :
    FramesCopied w k s t := by
  induction k generalizing s with
  | zero =>
    cases h
    rfl
  | succ k ih =>
    simp only [copyFrames] at h
    obtain ⟨_, _, hget, h⟩ := bind_eq_ok h
    cases hget
    obtain ⟨_, _, hset, h⟩ := bind_eq_ok h
    cases hset
    obtain ⟨x, u, hx, h⟩ := bind_eq_ok h
    obtain ⟨_, v, hv, h⟩ := bind_eq_ok h
    have hu := (memRead_keepsWf _ _ _).ok hx hm
    exact ⟨x, u, v, hx, pushedOne_of_push (bytes_le w) hu hv, ih ((push_keepsWf _ _).ok hv hu) h⟩

theorem paramsCopied_of_ok {ss : SegReg} {esp : Word} (hg : g ≤ 4096) (hm : Memory.wf s.mem = true)
    (h : copyParams g ss esp k s = .ok () t) : ParamsCopied g ss esp k s t := by
  induction k generalizing s with
  | zero =>
    cases h
    rfl
  | succ k ih =>
    simp only [copyParams, SegReg.trunc_stackWidth] at h
    obtain ⟨pas, u, hpas, h⟩ := bind_eq_ok h
    obtain ⟨bs, u', hbs, h⟩ := bind_eq_ok h
    obtain ⟨_, v, hv, h⟩ := bind_eq_ok h
    have hu : Memory.wf u'.mem = true :=
      (((regAddrs_keeps _ _ _ _ _ _).ok hpas).trans ((physReadList_keeps _).ok hbs)).wf hm
    exact ⟨pas, bs, u, u', v, hpas, hbs, pushedOne_of_push hg hu hv, ih ((push_keepsWf _ _).ok hv hu) h⟩

end Sys2Proof.Claims
end

section
/-! PROOF. The statement about the stack. -/

namespace Sys2Proof.Claims

open Sys2Proof.Machine

/-- Settles O21: each operation's rule of the two parts above. -/
theorem stackOperations : Obligations.StackOperations := by
  have slot {g : Nat} (hg : g = 2 ∨ g = 4) : g ≤ 4096 := by omega
  refine ⟨fun s u n x v pas hn hm => ⟨fun hp => ?_, fun hx => ⟨pop_ok hx, (memRead_keeps _ _ _).ok hx⟩⟩,
    fun s u n k x hx => ⟨peek_ok hx, (memRead_keeps _ _ _).ok hx⟩,
    fun s t g cs next image code hg hm => ?frames, fun s t g k vs w ss esp hg hm => ?blocks⟩
  · obtain ⟨t, ht, hs⟩ := push_ok (v := v) (by omega) hm hp
    exact ⟨t, ht, (memAddrs_keeps _ _ _ _ _).ok hp, hs⟩
  case frames =>
    have hg := slot hg
    exact ⟨fun h => pushed_singleton (pushedOne_of_pushSel hg hm h), pushed_return hg hm, pushed_frame hg hm,
      pushed_code hg hm,
      fun hp hr => (Roomy.pushReturn hg ⟨hp, hm, hr⟩ cs next).imp fun _ => And.left,
      fun hp hr => (Roomy.pushFrame hg ⟨hp, hm, hr⟩ image cs next).imp fun _ => And.left,
      fun hp hr => Roomy.pushCode hg ⟨hp, hm, hr⟩ code⟩
  case blocks =>
    have hg := slot hg
    exact ⟨pushBlock_cases hg hm, framesCopied_of_ok hm, paramsCopied_of_ok hg hm⟩

end Sys2Proof.Claims
end

section
/-! PROOF. What holds in the middle of a step, and the rules by which a sequence of operations keeps it. -/

namespace Sys2Proof.Machine

/-! ### The invariant inside a step -/

/-- The parts of the state the invariant speaks of, while an instruction is in progress: as `Inv`, but that the bits the
processor has set in its structures so far, which a rollback sets again (60 R722 (c)), lie at physical addresses. -/
structure MidParts (mem : List Host.Cell) (cr3 : Word) (cr0 : Cr0) (kept : List Host.Cell)
    (repeating : Option (Instr × Insn)) : Prop where
  wf : Memory.wf mem = true
  cr3 : cr3 &&& 0xFFF#32 = 0#32
  paging : cr0.PG = true → cr0.PE = true
  kept : ∀ c ∈ kept, c.1 < 2 ^ 32
  repeating : ∀ p ∈ repeating, isString p.1 = true ∧ p.2.kept = []

/-- The invariant in the middle of a step. -/
def State.Mid (s : State) : Prop := MidParts s.mem s.cr3 s.cr0 s.insn.kept s.repeating

/-- Between steps no instruction is in progress. -/
theorem inv_iff {s : State} : Inv s ↔ s.Mid ∧ s.insn = Insn.start := by
  constructor
  · rintro ⟨hwf, hcr3, hpg, hinsn, hrep⟩
    exact ⟨⟨hwf, hcr3, hpg, by simp [hinsn, Insn.start], hrep⟩, hinsn⟩
  · rintro ⟨h, hinsn⟩
    exact ⟨h.wf, h.cr3, h.paging, hinsn, h.repeating⟩

theorem Inv.mid {s : State} (h : Inv s) : s.Mid := (inv_iff.mp h).1

namespace State.Mid

variable {s t : State}

/-- A state that begins or ends an instruction. -/
theorem withInsn (h : s.Mid) {i : Insn} (hi : i.kept = []) : { s with insn := i }.Mid :=
  ⟨h.wf, h.cr3, h.paging, by simp [hi], h.repeating⟩

theorem withRepeating (h : s.Mid) {r : Option (Instr × Insn)}
    (hr : ∀ p ∈ r, isString p.1 = true ∧ p.2.kept = []) : { s with repeating := r }.Mid :=
  ⟨h.wf, h.cr3, h.paging, h.kept, hr⟩

theorem withMem (h : s.Mid) {m : List Host.Cell} (hm : Memory.wf m = true) : { s with mem := m }.Mid :=
  ⟨hm, h.cr3, h.paging, h.kept, h.repeating⟩

/-- No repetition in progress. -/
theorem idle (h : s.Mid) : { s with repeating := none }.Mid := h.withRepeating (r := none) (by simp)

theorem withCr0 (h : s.Mid) {c : Cr0} (hc : c.PG = true → c.PE = true) : (s.withCr0 c).Mid :=
  ⟨h.wf, h.cr3, hc, h.kept, h.repeating⟩

theorem withCr3 (h : s.Mid) {v : Word} (hv : v &&& 0xFFF#32 = 0#32) : (s.withCr3 v).Mid :=
  ⟨h.wf, hv, h.paging, h.kept, h.repeating⟩

/-- One more byte whose bits stay set. -/
theorem keep (h : s.Mid) (pa : Word) (bits : Byte) :
    { s with insn := { s.insn with kept := s.insn.kept ++ [(pa.toNat, bits)] } }.Mid :=
  ⟨h.wf, h.cr3, h.paging, List.forall_mem_append.mpr ⟨h.kept, List.forall_mem_singleton.mpr pa.isLt⟩, h.repeating⟩

theorem stored (h : s.Mid) (n : Nat) (pa : Word) (b : Byte) : (s.stored n pa b).Mid := by
  have hwf := s.stored_keepsWf n pa b h.wf
  obtain ⟨m, e, tr, heq⟩ := s.stored_eq n pa b
  rw [heq] at hwf ⊢
  exact h.withMem hwf

theorem storeLate (h : s.Mid) (bs : List LateByte) : (storeLate bs s).Mid := by
  induction bs generalizing s with
  | nil => exact h
  | cons b bs ih => exact ih (h.stored b.bytes b.pa b.value)

theorem landed (h : s.Mid) (k : Nat) : (s.landed k).Mid :=
  State.Mid.storeLate (s := { s with lateBytes := s.lateBytes.drop k }) h _

theorem coprocessed (h : s.Mid) : s.coprocessed.Mid := by
  unfold State.coprocessed
  split
  · exact h
  · exact State.Mid.landed (s := { s with draws := s.draws + 1 }) h _

theorem withLines (h : s.Mid) (busy error : Bool) : (s.withLines busy error).Mid := by
  unfold State.withLines
  split
  · exact h
  · exact State.Mid.landed (s := { s with npx := { s.npx with busy := busy, error := error } }) h _

end State.Mid

/-! ### Operations that keep it -/

/-- Whatever `x` answers, the invariant inside a step still holds where it held before. -/
def Sound {α : Type} (x : M α) : Prop := Preserves (fun s t => s.Mid → t.Mid) x

namespace Sound

variable {α β : Type} {x y : M α} {f : α → M β}

@[simp] theorem pure (a : α) : Sound (pure a : M α) := Preserves.pure (fun _ => id) a

@[simp] theorem get : Sound (get : M State) := Preserves.get fun _ => id

@[simp] theorem throw (e : Stop) : Sound (throw e : M α) := Preserves.throw (fun _ => id) e

theorem modify {g : State → State} (h : ∀ s : State, s.Mid → (g s).Mid) : Sound (modify g : M PUnit) :=
  Preserves.modify h

@[simp] theorem bind (hx : Sound x) (hf : ∀ a, Sound (f a)) : Sound (x >>= f) :=
  Preserves.bind (fun h h' => h' ∘ h) hx hf

/-- A sequence whose second part needs to know what its first part answers. -/
theorem bind_of {P : α → Prop} (hx : Sound x) (hP : ∀ {s t a}, x s = .ok a t → P a) (hf : ∀ a, P a → Sound (f a)) :
    Sound (x >>= f) := by
  intro s
  have hs := hx s
  rw [bind_apply]
  cases h : x s with
  | ok a t =>
    rw [h] at hs
    have ht := hf a (hP h) t
    show match f a t with | .ok _ u => s.Mid → u.Mid | .error _ u => s.Mid → u.Mid
    cases h' : f a t <;> rw [h'] at ht <;> exact ht ∘ hs
  | error e t =>
    rw [h] at hs
    exact hs

@[simp] theorem ite {c : Prop} [Decidable c] (hx : Sound x) (hy : Sound y) : Sound (if c then x else y) :=
  Preserves.ite hx hy

/-- A choice whose parts need to know how it was made. -/
theorem ite_of {c : Prop} [Decidable c] (hx : c → Sound x) (hy : ¬c → Sound y) : Sound (if c then x else y) := by
  split
  · exact hx ‹_›
  · exact hy ‹_›

/-- A check, after which the operation goes on. -/
theorem check {c : Prop} [Decidable c] {stop : M PUnit} {k : PUnit → M β} (hs : Sound stop) (hk : ∀ u, Sound (k u)) :
    Sound (if c then stop >>= k else k ⟨⟩) := ite (hs.bind hk) (hk ⟨⟩)

end Sound

/-! ### Exceptions and free values -/

section

variable {α : Type} {v : Byte} {c : Half} {n : Nat}

@[simp] theorem refuse_sound {r : Refusal} : Sound (refuse r : M α) := .throw _

@[simp] theorem raise_sound : Sound (raise v : M α) := .throw _

@[simp] theorem raiseCode_sound : Sound (raiseCode v c : M α) := .bind .get fun _ => .throw _

@[simp] theorem raiseSel_sound : Sound (raiseSel v c : M α) := raiseCode_sound

@[simp] theorem raiseUD_sound : Sound (raiseUD : M α) := raise_sound

@[simp] theorem raiseGP0_sound : Sound (raiseGP0 : M α) := raiseCode_sound

@[simp] theorem raisePF_sound {la : Word} {p wr user : Bool} : Sound (raisePF la p wr user : M α) := .throw _

@[simp] theorem raiseDB_sound {causes : Word} : Sound (raiseDB causes : M α) := .throw _

@[simp] theorem raiseSeg_sound {sg : SegNo} : Sound (raiseSeg sg : M α) := .ite raiseCode_sound raiseCode_sound

@[simp] theorem draw_sound : Sound (draw n) := fun _ h => h

@[simp] theorem drawBool_sound : Sound drawBool := fun _ h => h

@[simp] theorem drawUpTo_sound : Sound (drawUpTo n) := .bind draw_sound fun _ => .pure _

/-- The kind of an exception does not change the state it comes in. -/
theorem Sound.inNewTask {x : M α} (hx : Sound x) : Sound (inNewTask x) := by
  intro s
  have hs := hx s
  unfold Machine.inNewTask
  cases h : x s with
  | ok a t =>
    rw [h] at hs
    exact hs
  | error e t =>
    rw [h] at hs
    cases e <;> exact hs

end

/-! ### Flags and registers -/

section

variable {op : AluOp} {sh : ShiftOp} {w : Width} {n k : Nat} {r : RegNo} {v a b : Word} {c o left : Bool}
variable {g : Flags → Flags}

@[simp] theorem modifyFlags_sound : Sound (modifyFlags g) := .modify fun _ h => h

@[simp] theorem getReg_sound : Sound (getReg w r) := .bind .get fun _ => .pure _

@[simp] theorem setReg_sound : Sound (setReg w r v) := .modify fun _ h => h

@[simp] theorem setSP_sound : Sound (setSP v) := .modify fun _ h => h

@[simp] theorem alu_sound : Sound (alu op w a b) := fun _ h => h

theorem shiftOF_sound : Sound (shiftOF n c) := .ite (.pure _) drawBool_sound

theorem shiftCF_sound : Sound (shiftCF w n c) := .ite (.pure _) drawBool_sound

theorem setShiftFlags_sound : Sound (setShiftFlags w v c o) := .bind drawBool_sound fun _ => modifyFlags_sound

theorem setRotateFlags_sound : Sound (setRotateFlags c o) := modifyFlags_sound

@[simp] theorem undefinedFlags_sound : Sound undefinedFlags :=
  .bind drawBool_sound fun _ => .bind drawBool_sound fun _ => .bind drawBool_sound fun _ =>
    .bind drawBool_sound fun _ => .bind drawBool_sound fun _ => .bind drawBool_sound fun _ => modifyFlags_sound

/-- The end of a shift or rotate, once CF is known. -/
theorem shiftEnd_sound {α : Type} {f : Bool → M PUnit} (hf : ∀ o, Sound (f o)) (x : α) :
    Sound (do let o ← shiftOF n c; f o; pure x) :=
  .bind shiftOF_sound fun o => .bind (hf o) fun _ => .pure _

@[simp] theorem shiftBy_sound : Sound (shiftBy sh w v n) := .bind .get fun _ => by
  cases sh with
  | rol | ror => exact shiftEnd_sound (fun _ => setRotateFlags_sound) _
  | rcl | rcr => exact .ite (.pure _) (shiftEnd_sound (fun _ => setRotateFlags_sound) _)
  | shl | shr => exact .bind shiftCF_sound fun _ => shiftEnd_sound (fun _ => setShiftFlags_sound) _
  | sar => exact shiftEnd_sound (fun _ => setShiftFlags_sound) _

@[simp] theorem shiftDouble_sound : Sound (shiftDouble left w a b n) :=
  .ite (.bind draw_sound fun _ => .bind undefinedFlags_sound fun _ => .pure _)
    (shiftEnd_sound (fun _ => setShiftFlags_sound) _)

@[simp] theorem mulFlags_sound : Sound (mulFlags c) :=
  .bind drawBool_sound fun _ => .bind drawBool_sound fun _ => .bind drawBool_sound fun _ =>
    .bind drawBool_sound fun _ => modifyFlags_sound

@[simp] theorem bitFlags_sound : Sound (bitFlags c) :=
  .bind drawBool_sound fun _ => .bind drawBool_sound fun _ => .bind drawBool_sound fun _ =>
    .bind drawBool_sound fun _ => .bind drawBool_sound fun _ => modifyFlags_sound

@[simp] theorem scanFlags_sound : Sound (scanFlags c) :=
  .bind drawBool_sound fun _ => .bind drawBool_sound fun _ => .bind drawBool_sound fun _ =>
    .bind drawBool_sound fun _ => .bind drawBool_sound fun _ => modifyFlags_sound

end

/-! ### Physical memory and paging

That the bits to be kept lie at physical addresses is no part of `AccessKeeps`, so each access is gone through again. -/

section

variable {pa la off : Word} {pas : List Word} {bs : List Byte} {b bits : Byte} {n : Nat} {rd wr user : Bool}
variable {sg : SegNo} {r : SegReg} {v : Nat}

theorem physRead_sound : Sound (physRead pa) := by
  intro s
  obtain ⟨b, k, h⟩ := physRead_ok pa s
  rw [h]
  exact id

@[simp] theorem physReadList_sound : Sound (physReadList pas) := by
  intro s
  obtain ⟨bs, k, h, -⟩ := physReadList_ok pas s
  rw [h]
  exact id

theorem physWrite_sound : Sound (physWrite n pa b) := .modify fun _ h => h.stored _ _ _

@[simp] theorem physWriteList_sound : Sound (physWriteList n pas bs) := by
  induction pas generalizing bs with
  | nil => exact .pure _
  | cons p ps ih =>
    cases bs with
    | nil => exact .pure _
    | cons b bs => exact .bind physWrite_sound fun _ => ih

theorem physSetBits_sound : Sound (physSetBits pa bits) :=
  .bind physRead_sound fun _ => .ite (.pure _) (.bind physWrite_sound fun _ => .modify fun _ h => h.keep _ _)

theorem physRead32_sound : Sound (physRead32 pa) := .bind physReadList_sound fun _ => .pure _

theorem walk_sound : Sound (walk la wr user) :=
  .bind .get fun _ => .bind physRead32_sound fun _ => .ite (.pure _) <|
    .bind physRead32_sound fun _ => .ite (.pure _) (.ite (.pure _) (.pure _))

theorem chooseEntry_sound {es : List TlbEntry} : Sound (chooseEntry es) := by
  cases es with
  | nil => exact .pure _
  | cons e es => exact .bind drawUpTo_sound fun _ => .pure _

theorem markDirty_sound {w : Walk} : Sound (markDirty wr w) := by
  cases w with
  | absent => exact .pure _
  | denied pte | ok pde pte => exact .ite physSetBits_sound (.pure _)

theorem State.Mid.cached {s : State} (h : s.Mid) (e : TlbEntry) : (s.cached e).Mid := by
  unfold State.cached
  split <;> exact h

theorem translate_sound : Sound (translate la wr user) :=
  .bind .get fun _ => .ite (.bind walk_sound fun w => .bind chooseEntry_sound fun
    | some _ => .check raisePF_sound fun _ => .bind markDirty_sound fun _ => .pure _
    | none => by
      cases w with
      | absent | denied _ => exact raisePF_sound
      | ok _ _ pde pte =>
        exact .bind physSetBits_sound fun _ => .bind physSetBits_sound fun _ =>
          .bind (.modify fun _ h => h.cached _) fun _ => .pure _)
    (.bind chooseEntry_sound fun
      | some _ => .pure _
      | none => .pure _)

theorem physAddrs_sound : Sound (physAddrs la n wr user) :=
  .bind translate_sound fun _ => .ite (.pure _) (.bind translate_sound fun _ => .pure _)

@[simp] theorem linRead_sound : Sound (linRead la n) :=
  .bind physAddrs_sound fun _ => .bind physReadList_sound fun _ => .pure _

@[simp] theorem linWrite_sound : Sound (linWrite la n v) := .bind physAddrs_sound fun _ => physWriteList_sound

theorem linSetBits_sound : Sound (linSetBits la bits) :=
  .bind linRead_sound fun _ => .ite (.pure _) (.bind translate_sound fun _ => physSetBits_sound)

/-! ### Accesses of an instruction -/

theorem segAddr_sound : Sound (segAddr sg r off n rd wr) := .ite (.pure _) raiseSeg_sound

theorem watchOne_sound {i : Nat} : Sound (watchOne i la n wr) :=
  .bind .get fun _ => .ite (.pure _) (.ite (.pure _) (.ite drawBool_sound (.pure _)))

theorem watch_sound : Sound (watch la n wr) :=
  .bind .get fun _ => .ite (.pure _) <|
    .bind watchOne_sound fun _ => .bind watchOne_sound fun _ => .bind watchOne_sound fun _ =>
      .bind watchOne_sound fun _ => .modify fun _ h => h

@[simp] theorem regAddrs_sound : Sound (regAddrs sg r off n rd wr) :=
  .bind segAddr_sound fun _ => .bind .get fun _ => .bind physAddrs_sound fun _ => .bind watch_sound fun _ => .pure _

@[simp] theorem memAddrs_sound : Sound (memAddrs sg off n rd wr) := .bind .get fun _ => regAddrs_sound

@[simp] theorem memRead_sound : Sound (memRead sg off n) :=
  .bind memAddrs_sound fun _ => .bind physReadList_sound fun _ => .pure _

@[simp] theorem memWrite_sound : Sound (memWrite sg off n v) := .bind memAddrs_sound fun _ => physWriteList_sound

/-! ### Instruction fetch -/

theorem takeStale_sound : Sound takeStale :=
  .bind .get fun s => by
    cases s.insn.useStale with
    | some _ => exact .pure _
    | none => exact .bind drawBool_sound fun _ => .bind (.modify fun _ h => h) fun _ => .pure _

theorem fetchAddr_sound : Sound (fetchAddr la) :=
  .bind .get fun s => by
    cases s.queuedFrames la with
    | nil => exact translate_sound
    | cons f fs =>
      cases fs with
      | nil => exact .pure _
      | cons _ _ => exact .bind drawUpTo_sound fun _ => .pure _

theorem fetchByte_sound : Sound (fetchByte n) :=
  .bind .get fun s => .check raiseGP0_sound fun _ => .bind fetchAddr_sound fun pa => .bind physRead_sound fun b => by
    cases staleAt s.staleBytes (s.segs.cs.base + BitVec.ofNat 32 n) pa b with
    | none => exact .pure _
    | some _ => exact .bind takeStale_sound fun _ => .ite (.pure _) (.pure _)

end

end Sys2Proof.Machine
end

section
/-! PROOF. Operands, the stack, segment registers, transfers, task switches and events keep the invariant inside a step:
one lemma per operation, its parts in their order. -/

namespace Sys2Proof.Machine

/-! ### Operands and the stack -/

section

variable {w : Width} {rm : RM} {m : Mem} {p : Place} {v : Word} {off : Word} {sg : SegNo} {n k i : Nat} {sel : Half}

@[simp] theorem memReadW_sound : Sound (memReadW w sg off) := .bind memRead_sound fun _ => .pure _

@[simp] theorem memWriteW_sound : Sound (memWriteW w sg off v) := memWrite_sound

@[simp] theorem readRM_sound : Sound (readRM w rm) := by
  cases rm with
  | reg n => exact getReg_sound
  | mem m => exact .bind .get fun _ => memReadW_sound

@[simp] theorem writeRM_sound : Sound (writeRM w rm v) := by
  cases rm with
  | reg n => exact setReg_sound
  | mem m => exact .bind .get fun _ => memWriteW_sound

theorem modifyMem_sound : Sound (modifyMem w sg off) :=
  .bind memAddrs_sound fun _ => .bind physReadList_sound fun _ => .pure _

@[simp] theorem modifyRM_sound : Sound (modifyRM w rm) := by
  cases rm with
  | reg n => exact .bind getReg_sound fun _ => .pure _
  | mem m => exact .bind .get fun _ => modifyMem_sound

@[simp] theorem putPlace_sound : Sound (putPlace w p v) := by
  cases p with
  | reg n => exact setReg_sound
  | bytes pas => exact physWriteList_sound

@[simp] theorem push_sound : Sound (push n v) := .bind .get fun _ => .bind memWrite_sound fun _ => setSP_sound

@[simp] theorem peek_sound : Sound (peek n k) := .bind .get fun _ => .bind memRead_sound fun _ => .pure _

theorem needBlock_sound : Sound (needBlock k) := .bind .get fun _ => .ite (.pure _) raiseCode_sound

theorem blockAddrs_sound : Sound (blockAddrs n k i) := by
  induction i with
  | zero => exact .pure _
  | succ i ih => exact .bind .get fun _ => .bind memAddrs_sound fun _ => .bind ih fun _ => .pure _

theorem putItems_sound {ps : List (List Word)} {vs : List Word} : Sound (putItems n ps vs) := by
  induction ps generalizing vs with
  | nil => exact .pure _
  | cons p ps ih =>
    cases vs with
    | nil => exact .pure _
    | cons v vs => exact .bind physWriteList_sound fun _ => ih

@[simp] theorem dropBytes_sound : Sound (dropBytes k) := .bind .get fun _ => setSP_sound

@[simp] theorem pop_sound : Sound (pop n) := .bind peek_sound fun _ => .bind dropBytes_sound fun _ => .pure _

theorem pushBlock_sound {vs : List Word} : Sound (pushBlock n vs) :=
  .bind blockAddrs_sound fun _ => .bind putItems_sound fun _ => .bind .get fun _ => setSP_sound

@[simp] theorem farPointer_sound : Sound (farPointer m) :=
  .bind .get fun _ => .bind memRead_sound fun _ => .bind memRead_sound fun _ => .pure _

@[simp] theorem pushSel_sound : Sound (pushSel n sel) :=
  .bind (.ite (.bind draw_sound fun _ => .pure _) (.pure _)) fun _ => push_sound

end

/-! ### Descriptors and segment registers -/

section

variable {la : Word} {vec : Byte} {sel : Half} {d : Desc} {n : SegNo} {r : SegReg} {level : BitVec 2}

theorem readDesc_sound : Sound (readDesc la) := .bind linRead_sound fun _ => .pure _

@[simp] theorem fetchDesc_sound : Sound (fetchDesc vec sel) :=
  .bind .get fun s => by
    cases s.descAddr sel with
    | none => exact raiseSel_sound
    | some la => exact .bind readDesc_sound fun _ => .pure _

theorem markAccessed_sound : Sound (markAccessed la d) := .ite (.pure _) linSetBits_sound

theorem putSeg_sound : Sound (putSeg n r) := .modify fun _ h => h

theorem loadSegReal_sound : Sound (loadSegReal n sel) := .bind .get fun _ => .ite putSeg_sound putSeg_sound

theorem loadNull_sound : Sound (loadNull n sel) := .bind .get fun _ => putSeg_sound

theorem loadDataSeg_sound : Sound (loadDataSeg vec n sel) :=
  .ite loadNull_sound <| .bind fetchDesc_sound fun (_, _) => .check raiseSel_sound fun _ => .bind .get fun _ =>
    .check raiseSel_sound fun _ => .check raiseSel_sound fun _ => .bind markAccessed_sound fun _ => putSeg_sound

theorem stackDesc_sound : Sound (stackDesc vec sel level) :=
  .bind fetchDesc_sound fun (_, _) => .check raiseSel_sound fun _ => .check raiseSel_sound fun _ => .pure _

theorem putStackSeg_sound : Sound (putStackSeg sel la d) := .bind markAccessed_sound fun _ => putSeg_sound

theorem loadStackSeg_sound : Sound (loadStackSeg sel) := by
  unfold loadStackSeg
  exact .check raiseGP0_sound fun _ => .bind .get fun _ => .bind stackDesc_sound fun (_, _) => putStackSeg_sound

@[simp] theorem loadSeg_sound : Sound (loadSeg n sel) :=
  .bind .get fun _ => .ite (.ite loadStackSeg_sound loadDataSeg_sound) loadSegReal_sound

theorem inhibitAfterSS_sound : Sound (inhibitAfterSS n) := .ite (.modify fun _ h => h) (.pure _)

end

/-! ### Transfers -/

section

variable {t off la next limit v : Word} {sel cs : Half} {d gate : Desc} {level : BitVec 2} {g k n c imm : Nat}
variable {call big : Bool}

theorem flushQueue_sound : Sound flushQueue := .modify fun _ h => h.idle

@[simp] theorem jumpTo_sound : Sound (jumpTo t) := .modify fun _ h => h.idle

theorem checkEip_sound : Sound (checkEip limit t) := .ite raiseGP0_sound (.pure _)

@[simp] theorem nearTarget_sound : Sound (nearTarget t) :=
  .bind .get fun _ => .bind checkEip_sound fun _ => .pure _

@[simp] theorem setEip_sound : Sound (setEip t) := .bind nearTarget_sound fun _ => jumpTo_sound

@[simp] theorem advance_sound : Sound advance := .modify fun _ h => h

@[simp] theorem branch_sound {b : Bool} : Sound (branch b t) :=
  .ite (.bind .get fun _ => setEip_sound) advance_sound

theorem farReal_sound : Sound (farReal sel off) :=
  .bind .get fun _ => .bind checkEip_sound fun _ => .bind putSeg_sound fun _ => jumpTo_sound

theorem loadCS_sound : Sound (loadCS sel la d level) := .bind markAccessed_sound fun _ => putSeg_sound

theorem setCpl_sound : Sound (setCpl level) := .modify fun _ h => h

theorem needRoom_sound : Sound (needRoom g k) := .bind .get fun _ => .ite (.pure _) raiseCode_sound

theorem stackTop_sound : Sound (stackTop big n v) := .ite (.bind draw_sound fun _ => .pure _) (.pure _)

theorem loadSP_sound : Sound (loadSP n v) := .bind .get fun _ => .bind stackTop_sound fun _ => setSP_sound

theorem innerStack_sound : Sound (innerStack level g k) :=
  .bind .get fun _ => .check raiseSel_sound fun _ => .bind linRead_sound fun _ => .bind linRead_sound fun _ =>
    .check raiseCode_sound fun _ => .bind stackDesc_sound fun (_, _) => .bind stackTop_sound fun _ =>
      .check raiseCode_sound fun _ => .pure _

theorem enterLevel_sound {i : InnerStack} : Sound (enterLevel level i) :=
  .bind putStackSeg_sound fun _ => .bind setCpl_sound fun _ => setSP_sound

theorem dropOuterSegs_sound : Sound (dropOuterSegs level) := .modify fun _ h => h

theorem pushReturn_sound : Sound (pushReturn g cs next) := .bind pushSel_sound fun _ => push_sound

theorem farToCode_sound : Sound (farToCode call sel off la d) :=
  .bind .get fun _ => .check raiseSel_sound fun _ => .check raiseSel_sound fun _ => .bind checkEip_sound fun _ =>
    have load := .bind loadCS_sound fun _ => jumpTo_sound
    .ite (.bind needRoom_sound fun _ => .bind pushReturn_sound fun _ => load) load

theorem copyParams_sound {ss : SegReg} {sp : Word} : Sound (copyParams g ss sp c) := by
  induction c with
  | zero => exact .pure _
  | succ c ih =>
    exact .bind regAddrs_sound fun _ => .bind physReadList_sound fun _ => .bind push_sound fun _ => ih

theorem callInner_sound : Sound (callInner g c sel off la d) :=
  .bind .get fun _ => .bind innerStack_sound fun _ => .bind checkEip_sound fun _ => .bind enterLevel_sound fun _ =>
    .bind pushSel_sound fun _ => .bind push_sound fun _ => .bind copyParams_sound fun _ =>
      .bind pushReturn_sound fun _ => .bind loadCS_sound fun _ => jumpTo_sound

theorem farThroughGate_sound : Sound (farThroughGate call sel gate) :=
  .bind .get fun _ => .check raiseSel_sound fun _ => .check raiseSel_sound fun _ => .check raiseGP0_sound fun _ =>
    .bind fetchDesc_sound fun (_, _) => .check raiseSel_sound fun _ => .check raiseSel_sound fun _ =>
      have load := .bind loadCS_sound fun _ => jumpTo_sound
      .ite
        (.ite (.bind needRoom_sound fun _ => .bind checkEip_sound fun _ => .bind pushReturn_sound fun _ => load)
          (.bind checkEip_sound fun _ => load))
        (.ite callInner_sound raiseSel_sound)

theorem returnDesc_sound : Sound (returnDesc sel) :=
  .bind .get fun _ => .check raiseGP0_sound fun _ => .check raiseSel_sound fun _ =>
    .bind fetchDesc_sound fun (_, _) => .check raiseSel_sound fun _ => .check raiseSel_sound fun _ => .pure _

theorem returnOuter_sound : Sound (returnOuter n k imm cs off la d) :=
  .bind needBlock_sound fun _ => .bind peek_sound fun _ => .bind peek_sound fun _ => .check raiseGP0_sound fun _ =>
    .bind stackDesc_sound fun (_, _) => .bind checkEip_sound fun _ => .bind loadCS_sound fun _ =>
      .bind putStackSeg_sound fun _ => .bind loadSP_sound fun _ => .bind dropBytes_sound fun _ =>
        .bind dropOuterSegs_sound fun _ => jumpTo_sound

theorem returnFar_sound : Sound (returnFar imm) :=
  .bind .get fun _ => .bind peek_sound fun _ => .bind peek_sound fun _ => .bind returnDesc_sound fun (_, _) =>
    .ite
      (.bind checkEip_sound fun _ => .bind loadCS_sound fun _ => .bind dropBytes_sound fun _ => jumpTo_sound)
      returnOuter_sound

theorem returnFarReal_sound : Sound (returnFarReal imm) :=
  .bind .get fun _ => .bind peek_sound fun _ => .bind peek_sound fun _ => .bind farReal_sound fun _ => dropBytes_sound

end

/-! ### Task switches -/

section

variable {image : Flags} {eip la base off : Word} {n : Nat} {bs : List Byte} {is386 busy call : Bool} {sel : Half}
variable {d gate : Desc} {t : TaskImage} {kind : SwitchKind}

theorem linWriteBytes_sound : Sound (linWriteBytes la n bs) := .bind physAddrs_sound fun _ => physWriteList_sound

theorem saveTask_sound : Sound (saveTask image eip) :=
  .bind .get fun _ => .ite linWriteBytes_sound linWriteBytes_sound

theorem wideHalf_sound : Sound (wideHalf sel) := .bind draw_sound fun _ => .pure _

theorem readTask_sound : Sound (readTask base is386) :=
  .ite (.bind linRead_sound fun _ => .pure _) <|
    .bind linRead_sound fun _ => .bind wideHalf_sound fun _ => .bind wideHalf_sound fun _ =>
      .bind wideHalf_sound fun _ => .bind wideHalf_sound fun _ => .bind wideHalf_sound fun _ =>
        .bind wideHalf_sound fun _ => .bind wideHalf_sound fun _ => .bind wideHalf_sound fun _ => .pure _

/-- A page table's address has its low 12 bits clear. -/
theorem pageAddr_low (v : Word) : v &&& 0xFFFFF000#32 &&& 0xFFF#32 = 0#32 := by
  rw [BitVec.and_assoc]
  exact BitVec.and_zero

/-- CR3 read from a TSS reads 0 in its low 12 bits (42 R544). -/
theorem readTask_cr3 {s u : State} (h : readTask base is386 s = .ok t u) : ∀ v ∈ t.cr3, v &&& 0xFFF#32 = 0#32 := by
  cases is386 with
  | true =>
    obtain ⟨_, _, -, h⟩ := bind_eq_ok h
    cases h
    rintro _ ⟨⟩
    exact pageAddr_low _
  | false =>
    obtain ⟨_, _, -, h⟩ := bind_eq_ok h
    iterate 8 obtain ⟨_, _, -, h⟩ := bind_eq_ok h
    cases h
    rintro _ ⟨⟩

theorem State.Mid.repaged {s : State} (h : s.Mid) {v : Option Word} (hv : ∀ x ∈ v, x &&& 0xFFF#32 = 0#32) :
    (s.repaged v).Mid := by
  cases v with
  | none => exact h
  | some x => exact h.withCr3 (hv x rfl)

theorem State.Mid.switched {s : State} (h : s.Mid) (hv : ∀ x ∈ t.cr3, x &&& 0xFFF#32 = 0#32) (nest : Bool)
    (tr : TaskReg) : (s.switched nest tr t).Mid :=
  have h' := h.repaged hv
  ⟨h'.wf, h'.cr3, h.paging, h'.kept, h'.repeating⟩

theorem checkLdt_sound : Sound (checkLdt sel) :=
  .ite (.pure _) <| .check raiseSel_sound fun _ => .bind fetchDesc_sound fun (_, _) =>
    .check raiseSel_sound fun _ => .modify fun _ h => h

theorem loadAllV86_sound {es cs ss ds fs gs : Half} : Sound (loadAllV86 es cs ss ds fs gs) := .modify fun _ h => h

theorem checkTaskCS_sound : Sound (checkTaskCS sel) :=
  .check raiseSel_sound fun _ => .bind fetchDesc_sound fun (_, _) => .check raiseSel_sound fun _ =>
    .check raiseSel_sound fun _ => loadCS_sound

theorem checkTaskSS_sound : Sound (checkTaskSS sel) := by
  unfold checkTaskSS
  exact .check raiseSel_sound fun _ => .bind .get fun _ => .bind stackDesc_sound fun (_, _) => putStackSeg_sound

theorem validateTask_sound : Sound (validateTask t) :=
  .bind checkLdt_sound fun _ => .ite loadAllV86_sound <| .bind setCpl_sound fun _ => .bind checkTaskCS_sound fun _ =>
    .bind checkTaskSS_sound fun _ => .bind loadDataSeg_sound fun _ => .bind loadDataSeg_sound fun _ =>
      .bind loadDataSeg_sound fun _ => loadDataSeg_sound

theorem putBusy_sound : Sound (putBusy la busy) := .bind linRead_sound fun _ => linWrite_sound

/-- The switch from its commit on: the new state is read, loaded and checked. -/
theorem enterNewTask_sound {nest : Bool} {tr : TaskReg} {finish : TaskImage → M Unit} (hf : ∀ t, Sound (finish t)) :
    Sound (do
      let t ← readTask base is386
      modify fun s => s.switched nest tr t
      inNewTask (validateTask t)
      finish t) :=
  .bind_of readTask_sound readTask_cr3 fun _ hv => .bind (.modify fun _ h => h.switched hv _ _) fun _ =>
    .bind validateTask_sound.inNewTask fun _ => hf _

theorem taskSwitch_sound : Sound (taskSwitch kind sel la d image eip) := by
  refine .bind .get fun s => .check raiseSel_sound fun _ => .check raiseSel_sound fun _ =>
    .bind saveTask_sound fun _ => ?_
  -- The steps after the old task is saved, from the last: enter the new one, write its back link, mark it busy.
  extract_lets _ enter link mark
  have henter : ∀ u, Sound (enter u) := fun _ => by
    refine enterNewTask_sound fun _ => ?_
    exact .check (.modify fun _ h => h) fun _ => flushQueue_sound
  have hlink : ∀ u, Sound (link u) := fun _ => .check linWrite_sound henter
  have hmark : ∀ u, Sound (mark u) := fun _ => .check putBusy_sound hlink
  refine .ite ?_ (hmark ⟨⟩)
  cases s.descAddr s.tr.selector with
  | some old => exact .bind putBusy_sound hmark
  | none => exact .bind raiseSel_sound hmark

theorem gateTss_sound : Sound (gateTss gate) :=
  .check raiseSel_sound fun _ => .bind fetchDesc_sound fun (_, _) => .check raiseSel_sound fun _ =>
    .check raiseSel_sound fun _ => .pure _

theorem switchFrom_sound : Sound (switchFrom call sel la d) := .bind .get fun _ => taskSwitch_sound

theorem farToTss_sound : Sound (farToTss call sel la d) :=
  .bind .get fun _ => .check raiseSel_sound fun _ => .check raiseSel_sound fun _ => switchFrom_sound

theorem farToTaskGate_sound : Sound (farToTaskGate call sel gate) :=
  .bind .get fun _ => .check raiseSel_sound fun _ => .check raiseSel_sound fun _ =>
    .bind gateTss_sound fun (_, _, _) => switchFrom_sound

theorem farProtected_sound : Sound (farProtected call sel off) :=
  .check raiseGP0_sound fun _ => .bind fetchDesc_sound fun (_, _) =>
    .ite farToCode_sound <| .ite farToTss_sound <| .ite farThroughGate_sound <| .ite farToTaskGate_sound raiseSel_sound

@[simp] theorem farJump_sound : Sound (farJump sel off) := .bind .get fun _ => .ite farProtected_sound farReal_sound

@[simp] theorem farCall_sound : Sound (farCall sel off) :=
  .bind .get fun _ => .ite farProtected_sound <|
    .bind checkEip_sound fun _ => .bind pushReturn_sound fun _ => farReal_sound

theorem returnTask_sound : Sound returnTask :=
  .bind .get fun _ => .bind linRead_sound fun _ => .check raiseSel_sound fun _ => .bind fetchDesc_sound fun (_, _) =>
    .check raiseSel_sound fun _ => .check raiseSel_sound fun _ => taskSwitch_sound

end

/-! ### Events and the return from them -/

section

variable {ev : Event} {g n : Nat} {code : ErrCode} {image : Flags} {cs : Half} {eip ip fl : Word} {s : State}
variable {level : BitVec 2} {gate : Desc} {v : Byte} {α : Type}

theorem pushCode_sound : Sound (pushCode g code) := by
  cases code with
  | none => exact .pure _
  | sel c => exact pushSel_sound
  | page c => exact .bind draw_sound fun _ => push_sound

theorem pushFrame_sound : Sound (pushFrame g image cs eip) := .bind push_sound fun _ => pushReturn_sound

theorem enterSame_sound : Sound (enterSame g ev s) :=
  .bind needRoom_sound fun _ => .bind pushFrame_sound fun _ => pushCode_sound

theorem enterInner_sound : Sound (enterInner g ev s level) :=
  .bind innerStack_sound fun _ => .bind enterLevel_sound fun _ => .bind pushSel_sound fun _ =>
    .bind push_sound fun _ => .bind pushFrame_sound fun _ => pushCode_sound

theorem enterFromV86_sound : Sound (enterFromV86 ev s) :=
  .bind innerStack_sound fun _ => .bind modifyFlags_sound fun _ => .bind enterLevel_sound fun _ =>
    .check setReg_sound fun _ => .bind pushSel_sound fun _ => .bind pushSel_sound fun _ => .bind pushSel_sound fun _ =>
      .bind pushSel_sound fun _ => .bind pushSel_sound fun _ => .bind push_sound fun _ =>
        .bind pushFrame_sound fun _ => .bind pushCode_sound fun _ => .modify fun _ h => h

theorem enterProcedure_sound : Sound (enterProcedure ev gate) :=
  .bind .get fun _ => .check raiseGP0_sound fun _ => .bind fetchDesc_sound fun (_, _) =>
    .check raiseSel_sound fun _ => .check raiseSel_sound fun _ => .check raiseSel_sound fun _ =>
      .bind checkEip_sound fun _ =>
        have load := .bind loadCS_sound fun _ => .bind modifyFlags_sound fun _ => jumpTo_sound
        .ite (.check refuse_sound fun _ => .bind enterFromV86_sound fun _ => load)
          (.ite (.bind enterSame_sound fun _ => load) (.bind enterInner_sound fun _ => load))

theorem enterTask_sound : Sound (enterTask ev gate) :=
  .bind .get fun _ => .bind gateTss_sound fun (_, _, _) => .bind taskSwitch_sound fun _ =>
    .bind (.inNewTask (.bind pushCode_sound fun _ => .bind .get fun _ => checkEip_sound)) fun _ => flushQueue_sound

theorem raiseIdt_sound {vec : Byte} : Sound (raiseIdt vec v : M α) := raiseCode_sound

theorem deliverProtected_sound : Sound (deliverProtected ev) :=
  .bind (.modify fun _ h => h) fun _ => .bind .get fun _ => .check raiseIdt_sound fun _ =>
    .bind readDesc_sound fun _ => .check raiseIdt_sound fun _ => .check raiseIdt_sound fun _ =>
      .check raiseIdt_sound fun _ => .ite enterTask_sound enterProcedure_sound

theorem deliverReal_sound : Sound (deliverReal ev) :=
  .bind .get fun _ => .check (.throw _) fun _ => .bind push_sound fun _ => .bind modifyFlags_sound fun _ =>
    .bind push_sound fun _ => .bind push_sound fun _ => .bind linRead_sound fun _ => farReal_sound

theorem State.Mid.acknowledged (h : s.Mid) (ev : Event) : (s.acknowledged ev).Mid := by
  unfold State.acknowledged
  split
  · exact h
  · exact h
  · split <;> exact h
  · exact h

theorem deliverOnce_sound : Sound (deliverOnce ev) :=
  .bind (.modify fun _ h => h.acknowledged ev) fun _ => .bind .get fun _ =>
    .ite deliverProtected_sound deliverReal_sound

theorem keepRF_sound : Sound keepRF := .modify fun _ h => h

theorem loadReturnFlags_sound : Sound (loadReturnFlags n fl level) :=
  .bind modifyFlags_sound fun _ => .ite keepRF_sound (.pure _)

theorem iretReal_sound : Sound iretReal :=
  .bind .get fun _ => .check raiseGP0_sound fun _ => .bind peek_sound fun _ => .bind peek_sound fun _ =>
    .bind peek_sound fun _ => .bind farReal_sound fun _ => .bind dropBytes_sound fun _ => loadReturnFlags_sound

theorem iretToV86_sound : Sound (iretToV86 ip fl cs) :=
  .bind peek_sound fun _ => .bind peek_sound fun _ => .bind peek_sound fun _ => .bind peek_sound fun _ =>
    .bind peek_sound fun _ => .bind peek_sound fun _ => .bind loadAllV86_sound fun _ =>
      .bind modifyFlags_sound fun _ => .bind setReg_sound fun _ => .bind keepRF_sound fun _ => jumpTo_sound

theorem iretProtected_sound : Sound iretProtected :=
  .bind .get fun _ => .ite returnTask_sound <| .bind peek_sound fun _ => .bind peek_sound fun _ =>
    .bind peek_sound fun _ => .ite iretToV86_sound <| .bind returnDesc_sound fun (_, _) =>
      .ite
        (.bind checkEip_sound fun _ => .bind loadCS_sound fun _ => .bind dropBytes_sound fun _ =>
          .bind jumpTo_sound fun _ => loadReturnFlags_sound)
        (.bind returnOuter_sound fun _ => loadReturnFlags_sound)

@[simp] theorem interruptReturn_sound : Sound interruptReturn :=
  .bind (.modify fun _ h => h) fun _ => .bind .get fun _ => .ite iretProtected_sound iretReal_sound

@[simp] theorem softwareInterrupt_sound : Sound (softwareInterrupt v) :=
  .bind advance_sound fun _ => deliverOnce_sound

theorem checkPrefixes_sound {lockable string : Bool} : Sound (checkPrefixes lockable string) :=
  .bind .get fun _ => .check refuse_sound fun _ => .check refuse_sound fun _ => .check raiseUD_sound fun _ =>
    .modify fun _ h => h.idle

end

end Sys2Proof.Machine
end

section
/-! PROOF. The bodies of the instructions keep the invariant inside a step, so every instruction that runs ends in a
state that meets the invariant. -/

namespace Sys2Proof.Machine

section

variable {w w' : Width} {rm : RM} {m : Mem} {r : RegNo} {sg : SegNo} {v unit o : Word} {imm : Byte} {sel : Half}
variable {b sign up left : Bool} {op : AluOp} {sh : ShiftOp} {bo : BitOp} {n k : Nat} {p : Half} {x : BitVec 11}

/-! ### Arithmetic and logic -/

@[simp] theorem aluRM_sound : Sound (aluRM op w rm v) :=
  .bind modifyRM_sound fun (_, _) => .bind alu_sound fun _ => putPlace_sound

@[simp] theorem aluOnly_sound : Sound (aluOnly op w rm v) :=
  .bind readRM_sound fun _ => .bind alu_sound fun _ => .pure _

@[simp] theorem aluReg_sound : Sound (aluReg op w r rm) :=
  .bind getReg_sound fun _ => .bind readRM_sound fun _ => .bind alu_sound fun _ => setReg_sound

@[simp] theorem aluRegOnly_sound : Sound (aluRegOnly op w r rm) :=
  .bind getReg_sound fun _ => .bind readRM_sound fun _ => .bind alu_sound fun _ => .pure _

@[simp] theorem unaryRM_sound {g : Word → Flags → Word × Flags} : Sound (unaryRM g w rm) :=
  .bind modifyRM_sound fun (_, _) => .bind .get fun _ => .bind modifyFlags_sound fun _ => putPlace_sound

theorem putHalves_sound : Sound (putHalves w v o) := .bind setReg_sound fun _ => setReg_sound

theorem putProduct_sound : Sound (putProduct w n) := putHalves_sound

@[simp] theorem mulUnsigned_sound : Sound (mulUnsigned w rm) :=
  .bind readRM_sound fun _ => .bind .get fun _ => .bind putProduct_sound fun _ => mulFlags_sound

@[simp] theorem mulSigned_sound : Sound (mulSigned w rm) :=
  .bind readRM_sound fun _ => .bind .get fun _ => .bind putProduct_sound fun _ => mulFlags_sound

theorem mulTo_sound : Sound (mulTo w r v o) := .bind setReg_sound fun _ => mulFlags_sound

@[simp] theorem mulReg_sound : Sound (mulReg w r rm) :=
  .bind readRM_sound fun _ => .bind .get fun _ => mulTo_sound

@[simp] theorem mulImm_sound : Sound (mulImm w r rm v) := .bind readRM_sound fun _ => mulTo_sound

@[simp] theorem divUnsigned_sound : Sound (divUnsigned w rm) :=
  .bind readRM_sound fun _ => .bind .get fun _ => .check raise_sound fun _ =>
    .bind putHalves_sound fun _ => undefinedFlags_sound

@[simp] theorem divSigned_sound : Sound (divSigned w rm) :=
  .bind readRM_sound fun _ => .bind .get fun _ => .check raise_sound fun _ =>
    .bind putHalves_sound fun _ => undefinedFlags_sound

@[simp] theorem adjustPacked_sound {g : Word → Bool → Bool → Word × Bool × Bool} : Sound (adjustPacked g) :=
  .bind .get fun _ => .bind drawBool_sound fun _ => .bind setReg_sound fun _ => modifyFlags_sound

@[simp] theorem adjustUnpacked_sound : Sound (adjustUnpacked up) :=
  .bind .get fun _ => .bind drawBool_sound fun _ => .bind drawBool_sound fun _ => .bind drawBool_sound fun _ =>
    .bind drawBool_sound fun _ => .bind setReg_sound fun _ => .bind setReg_sound fun _ => modifyFlags_sound

theorem adjustFlags_sound : Sound (adjustFlags v) :=
  .bind drawBool_sound fun _ => .bind drawBool_sound fun _ => .bind drawBool_sound fun _ => modifyFlags_sound

@[simp] theorem adjustMul_sound : Sound (adjustMul imm) :=
  .bind .get fun _ => .check raise_sound fun _ => .bind setReg_sound fun _ => .bind setReg_sound fun _ =>
    adjustFlags_sound

@[simp] theorem adjustDiv_sound : Sound (adjustDiv imm) :=
  .bind .get fun _ => .bind setReg_sound fun _ => adjustFlags_sound

@[simp] theorem checkBounds_sound : Sound (checkBounds r m) :=
  .bind .get fun _ => .bind memReadW_sound fun _ => .bind memReadW_sound fun _ => .ite raise_sound (.pure _)

/-! ### Shifts and bits -/

@[simp] theorem shiftRM_sound : Sound (shiftRM sh w rm v) :=
  .bind modifyRM_sound fun (_, _) => .ite (.pure _) (.bind shiftBy_sound fun _ => putPlace_sound)

@[simp] theorem shiftDoubleRM_sound : Sound (shiftDoubleRM left w rm r v) :=
  .bind modifyRM_sound fun (_, _) => .bind getReg_sound fun _ =>
    .ite (.pure _) (.bind shiftDouble_sound fun _ => putPlace_sound)

theorem readBitUnit_sound : Sound (readBitUnit w rm o) := by
  cases rm with
  | reg n => exact getReg_sound
  | mem m => exact .bind .get fun _ => memReadW_sound

theorem modifyBitUnit_sound : Sound (modifyBitUnit w rm o) := by
  cases rm with
  | reg n => exact .bind getReg_sound fun _ => .pure _
  | mem m => exact .bind .get fun _ => modifyMem_sound

@[simp] theorem bitTest_sound : Sound (bitTest w rm unit o) := .bind readBitUnit_sound fun _ => bitFlags_sound

@[simp] theorem bitChange_sound : Sound (bitChange bo w rm unit o) :=
  .bind modifyBitUnit_sound fun (_, _) => .bind bitFlags_sound fun _ => putPlace_sound

@[simp] theorem bitScan_sound {index : Word → Nat} : Sound (bitScan index w r rm) :=
  .bind readRM_sound fun _ => .bind draw_sound fun _ => .bind scanFlags_sound fun _ => setReg_sound

/-! ### Data movement -/

@[simp] theorem movToRM_sound : Sound (movToRM w rm r) := .bind getReg_sound fun _ => writeRM_sound

@[simp] theorem movFromRM_sound : Sound (movFromRM w r rm) := .bind readRM_sound fun _ => setReg_sound

@[simp] theorem movFromOff_sound {off : ImmV} : Sound (movFromOff w off) :=
  .bind .get fun _ => .bind memReadW_sound fun _ => setReg_sound

@[simp] theorem movToOff_sound {off : ImmV} : Sound (movToOff w off) := .bind .get fun _ => memWriteW_sound

@[simp] theorem movToSeg_sound : Sound (movToSeg sg rm) :=
  .bind readRM_sound fun _ => .bind loadSeg_sound fun _ => inhibitAfterSS_sound

@[simp] theorem storeHalf_sound : Sound (storeHalf rm sel) := by
  cases rm with
  | reg n => exact .bind .get fun _ => .ite (.bind draw_sound fun _ => setReg_sound) setReg_sound
  | mem m => exact (writeRM_sound : Sound (writeRM .w16 (.mem m) (sel.setWidth 32)))

@[simp] theorem movExtend_sound : Sound (movExtend sign w w' r rm) := .bind readRM_sound fun _ => setReg_sound

@[simp] theorem xchgRM_sound : Sound (xchgRM w rm r) :=
  .bind modifyRM_sound fun (_, _) => .bind getReg_sound fun _ => .bind putPlace_sound fun _ => setReg_sound

@[simp] theorem pushV_sound : Sound (pushV v) := .bind .get fun _ => push_sound

@[simp] theorem pushSegReg_sound : Sound (pushSegReg sg) := .bind .get fun _ => pushSel_sound

@[simp] theorem pushRM_sound : Sound (pushRM rm) := .bind .get fun _ => .bind readRM_sound fun _ => pushV_sound

theorem popV_sound : Sound popV := .bind .get fun _ => pop_sound

@[simp] theorem popRM_sound : Sound (popRM rm) := .bind popV_sound fun _ => .bind .get fun _ => writeRM_sound

@[simp] theorem popSegReg_sound : Sound (popSegReg sg) :=
  .bind .get fun _ => .bind peek_sound fun _ => .bind loadSeg_sound fun _ => .bind dropBytes_sound fun _ =>
    inhibitAfterSS_sound

theorem pushaPeculiar_sound {s : State} : Sound (pushaPeculiar s) :=
  .ite (.check (.throw _) fun _ => .ite raiseGP0_sound (.pure _)) (.pure _)

@[simp] theorem pushRegs_sound : Sound pushRegs :=
  .bind .get fun _ => .bind pushaPeculiar_sound fun _ => pushBlock_sound

@[simp] theorem popRegs_sound : Sound popRegs :=
  .bind .get fun _ => .bind peek_sound fun _ => .bind peek_sound fun _ => .bind peek_sound fun _ =>
    .bind peek_sound fun _ => .bind peek_sound fun _ => .bind peek_sound fun _ => .bind peek_sound fun _ =>
      .bind peek_sound fun _ => .bind dropBytes_sound fun _ => .bind setReg_sound fun _ => .bind setReg_sound fun _ =>
        .bind setReg_sound fun _ => .bind setReg_sound fun _ => .bind setReg_sound fun _ =>
          .bind setReg_sound fun _ => setReg_sound

@[simp] theorem loadPointer_sound : Sound (loadPointer sg r m) :=
  .bind farPointer_sound fun (_, _) => .bind loadSeg_sound fun _ => .bind .get fun _ => setReg_sound

@[simp] theorem translateByte_sound : Sound translateByte :=
  .bind .get fun _ => .bind memReadW_sound fun _ => setReg_sound

@[simp] theorem convertByte_sound : Sound convertByte := .bind .get fun _ => .ite setReg_sound setReg_sound

@[simp] theorem convertWord_sound : Sound convertWord := .bind .get fun _ => setReg_sound

theorem copyFrames_sound : Sound (copyFrames w k) := by
  induction k with
  | zero => exact .pure _
  | succ k ih =>
    exact .bind .get fun _ => .bind setReg_sound fun _ => .bind memRead_sound fun _ => .bind push_sound fun _ => ih

@[simp] theorem enterFrame_sound : Sound (enterFrame sel k) :=
  .bind .get fun _ => .bind push_sound fun _ => .bind .get fun _ =>
    have finish := .bind setReg_sound fun _ => .bind .get fun _ => setSP_sound
    .ite (.bind copyFrames_sound fun _ => .bind push_sound fun _ => finish) finish

@[simp] theorem leaveFrame_sound : Sound leaveFrame :=
  .bind .get fun _ => .bind setSP_sound fun _ => .bind popV_sound fun _ => setReg_sound

/-! ### Transfers of control -/

@[simp] theorem jumpRM_sound : Sound (jumpRM rm) := .bind .get fun _ => .bind readRM_sound fun _ => setEip_sound

@[simp] theorem loopWhile_sound : Sound (loopWhile b v) :=
  .bind .get fun _ => .bind setReg_sound fun _ => branch_sound

@[simp] theorem callNear_sound : Sound (callNear v) :=
  .bind nearTarget_sound fun _ => .bind .get fun _ => .bind push_sound fun _ => jumpTo_sound

@[simp] theorem callRM_sound : Sound (callRM rm) := .bind .get fun _ => .bind readRM_sound fun _ => callNear_sound

@[simp] theorem returnNear_sound : Sound (returnNear n) :=
  .bind .get fun _ => .bind peek_sound fun _ => .bind nearTarget_sound fun _ => .bind dropBytes_sound fun _ =>
    jumpTo_sound

theorem farIndirect_sound {go : Half → Word → M Unit} (h : ∀ sel off, Sound (go sel off)) :
    Sound (farIndirect go m) := .bind farPointer_sound fun (_, _) => h _ _

@[simp] theorem farReturn_sound : Sound (farReturn n) := .bind .get fun _ => .ite returnFar_sound returnFarReal_sound

@[simp] theorem interruptN_sound : Sound (interruptN imm) :=
  .bind .get fun _ => .check raiseGP0_sound fun _ => softwareInterrupt_sound

@[simp] theorem interruptOverflow_sound : Sound interruptOverflow :=
  .bind .get fun _ => .ite softwareInterrupt_sound advance_sound

/-! ### Flags -/

theorem needIopl_sound : Sound needIopl := .bind .get fun _ => .ite raiseGP0_sound (.pure _)

@[simp] theorem clearIF_sound : Sound clearIF := .bind needIopl_sound fun _ => modifyFlags_sound

@[simp] theorem setIF_sound : Sound setIF := .bind needIopl_sound fun _ => .modify fun _ h => h

theorem needV86Iopl_sound : Sound needV86Iopl := .bind .get fun _ => .ite raiseGP0_sound (.pure _)

@[simp] theorem pushFlags_sound : Sound pushFlags :=
  .bind needV86Iopl_sound fun _ => .bind .get fun _ => .bind drawBool_sound fun _ => .bind drawBool_sound fun _ =>
    pushV_sound

@[simp] theorem popFlags_sound : Sound popFlags :=
  .bind needV86Iopl_sound fun _ => .bind popV_sound fun _ => .bind .get fun _ => modifyFlags_sound

/-! ### Numerics -/

theorem redrawLines_sound : Sound redrawLines :=
  .bind drawBool_sound fun _ => .bind drawBool_sound fun _ => .modify fun _ h => h.withLines _ _

theorem waitReady_sound : Sound waitReady :=
  .bind .get fun _ => .ite
    (.bind (.modify fun _ h => h) fun _ => .bind redrawLines_sound fun _ => .throw _) (.pure _)

theorem escTests_sound : Sound (escTests b) :=
  .bind .get fun _ => .check raise_sound fun _ => .ite raise_sound (.pure _)

theorem drawBytes_sound : Sound (drawBytes n) := by
  induction n with
  | zero => exact .pure _
  | succ n ih => exact .bind draw_sound fun _ => .bind ih fun _ => .pure _

theorem recordPointers_sound {operand : Option (Half × Word)} : Sound (recordPointers x operand) :=
  .modify fun _ h => h

theorem passOn_sound : Sound passOn := .bind .get fun _ => .ite redrawLines_sound (.pure _)

@[simp] theorem escReg_sound : Sound (escReg b x) :=
  .bind escTests_sound fun _ => .check waitReady_sound fun _ => .bind recordPointers_sound fun _ => passOn_sound

theorem putResult_sound {pas : List Word} {bs : List Byte} : Sound (putResult b n pas bs) := by
  intro s
  by_cases hlate : (b && s.npxBusy) = true
  · rw [putResult, bind_ok (get_apply s), if_pos hlate]
    exact id
  · rw [putResult, bind_ok (get_apply s), if_neg hlate]
    exact physWriteList_sound s

theorem escMem_sound {kind : Config.EscOperand} : Sound (escMem b x m kind) :=
  .bind escTests_sound fun _ => .check waitReady_sound fun _ => .bind .get fun s => by
    cases operandSize s.sizes.op32 kind with
    | none => exact .bind recordPointers_sound fun _ => passOn_sound
    | some nst =>
      exact .bind memAddrs_sound fun _ => .ite
        (.bind drawBytes_sound fun _ => .bind recordPointers_sound fun _ => .bind passOn_sound fun _ =>
          putResult_sound)
        (.bind physReadList_sound fun _ => .bind recordPointers_sound fun _ => passOn_sound)

@[simp] theorem escMemOp_sound {y ext : BitVec 3} {kind : Config.EscOperand} : Sound (escMemOp b y ext m kind) :=
  escMem_sound

@[simp] theorem waitInsn_sound : Sound waitInsn :=
  .bind .get fun _ => .check raise_sound fun _ => .check raise_sound fun _ => waitReady_sound

@[simp] theorem setPm_sound : Sound setPm := .bind .get fun _ => .ite raise_sound (.pure _)

@[simp] theorem storeStatusAx_sound : Sound storeStatusAx :=
  .bind escReg_sound fun _ => .bind draw_sound fun _ => setReg_sound

/-! ### Ports and strings -/

theorem mapAllows_sound : Sound (mapAllows n k) :=
  .bind .get fun _ => .ite (.pure _) <| .bind linRead_sound fun _ => .ite (.pure _) <| .ite (.pure _) <|
    .bind linRead_sound fun _ => .pure _

theorem ioCheck_sound : Sound (ioCheck n k) :=
  have past := .ite refuse_sound (.pure _)
  .bind .get fun _ => .ite (.bind mapAllows_sound fun _ => .check raiseGP0_sound fun _ => past) past

theorem ioRead_sound : Sound (ioRead w) := .bind draw_sound fun _ => .pure _

theorem ioWrite_sound : Sound (ioWrite p w v) := .modify fun _ h => h

@[simp] theorem portIn_sound : Sound (portIn w p) :=
  .bind ioCheck_sound fun _ => .bind ioRead_sound fun _ => setReg_sound

@[simp] theorem portOut_sound : Sound (portOut w p) :=
  .bind ioCheck_sound fun _ => .bind .get fun _ => ioWrite_sound

theorem stepIndex_sound : Sound (stepIndex w r) := .bind .get fun _ => setReg_sound

theorem sourceElement_sound : Sound (sourceElement w) := .bind .get fun _ => memReadW_sound

theorem destElement_sound : Sound (destElement w) := .bind .get fun _ => memReadW_sound

theorem putDest_sound : Sound (putDest w v) := .bind .get fun _ => memWriteW_sound

@[simp] theorem moveElement_sound : Sound (moveElement w) :=
  .bind sourceElement_sound fun _ => .bind putDest_sound fun _ => .bind stepIndex_sound fun _ => stepIndex_sound

@[simp] theorem compareElement_sound : Sound (compareElement w) :=
  .bind sourceElement_sound fun _ => .bind destElement_sound fun _ => .bind alu_sound fun _ =>
    .bind stepIndex_sound fun _ => stepIndex_sound

@[simp] theorem scanElement_sound : Sound (scanElement w) :=
  .bind destElement_sound fun _ => .bind .get fun _ => .bind alu_sound fun _ => stepIndex_sound

@[simp] theorem loadElement_sound : Sound (loadElement w) :=
  .bind sourceElement_sound fun _ => .bind setReg_sound fun _ => stepIndex_sound

@[simp] theorem storeElement_sound : Sound (storeElement w) :=
  .bind .get fun _ => .bind putDest_sound fun _ => stepIndex_sound

@[simp] theorem inputElement_sound : Sound (inputElement w) :=
  .bind .get fun _ => .bind ioCheck_sound fun _ => .bind memAddrs_sound fun _ => .bind ioRead_sound fun _ =>
    .bind physWriteList_sound fun _ => stepIndex_sound

@[simp] theorem outputElement_sound : Sound (outputElement w) :=
  .bind .get fun _ => .bind ioCheck_sound fun _ => .bind sourceElement_sound fun _ => .bind ioWrite_sound fun _ =>
    stepIndex_sound

/-- A repetition is one of the string instruction it is given, and has no memory bits of its own to keep. -/
theorem repeated_sound {i : Instr} {done : State → Bool} {element : M Unit} (hi : isString i = true)
    (he : Sound element) : Sound (repeated i done element) :=
  .bind .get fun _ => .ite (.bind he fun _ => advance_sound) <| .ite advance_sound <|
    .bind he fun _ => .bind setReg_sound fun _ => .bind .get fun _ => .ite advance_sound <|
      .bind keepRF_sound fun _ => .modify fun _ h => h.withRepeating (by rintro _ ⟨⟩; exact ⟨hi, rfl⟩)

/-! ### System instructions -/

theorem needCpl0_sound : Sound needCpl0 := .bind .get fun _ => .ite raiseGP0_sound (.pure _)

theorem needProtected_sound : Sound needProtected := .bind .get fun _ => .ite raiseUD_sound (.pure _)

theorem readTable_sound : Sound (readTable m) :=
  .bind needCpl0_sound fun _ => .bind .get fun _ => .bind memRead_sound fun _ => .bind memRead_sound fun _ => .pure _

@[simp] theorem writeTable_sound {t : TableReg} : Sound (writeTable m t) :=
  .bind .get fun _ => .bind memWrite_sound fun _ => memWrite_sound

@[simp] theorem loadGdtr_sound : Sound (loadGdtr m) := .bind readTable_sound fun _ => .modify fun _ h => h

@[simp] theorem loadIdtr_sound : Sound (loadIdtr m) := .bind readTable_sound fun _ => .modify fun _ h => h

@[simp] theorem loadLdtr_sound : Sound (loadLdtr rm) :=
  .bind needProtected_sound fun _ => .bind needCpl0_sound fun _ => .bind readRM_sound fun _ =>
    .ite (.modify fun _ h => h) <| .check raiseSel_sound fun _ => .bind fetchDesc_sound fun (_, _) =>
      .check raiseSel_sound fun _ => .check raiseSel_sound fun _ => .modify fun _ h => h

@[simp] theorem loadTr_sound : Sound (loadTr rm) :=
  .bind needProtected_sound fun _ => .bind needCpl0_sound fun _ => .bind readRM_sound fun _ =>
    .check raiseGP0_sound fun _ => .check raiseSel_sound fun _ => .bind fetchDesc_sound fun (_, _) =>
      .check raiseSel_sound fun _ => .check raiseSel_sound fun _ => .bind putBusy_sound fun _ => .modify fun _ h => h

@[simp] theorem storeSystemSel_sound : Sound (storeSystemSel rm sel) :=
  .bind needProtected_sound fun _ => storeHalf_sound

/-- PG without PE is refused (44 R631). -/
theorem writeCr0_sound {c : Cr0} : Sound (writeCr0 c) :=
  .ite_of (fun _ => .bind_of (P := fun _ => False) raiseGP0_sound nofun nofun) fun hc =>
    .modify fun _ h => h.withCr0 (by simpa using hc)

@[simp] theorem loadMsw_sound : Sound (loadMsw rm) :=
  .bind needCpl0_sound fun _ => .bind readRM_sound fun _ => .bind .get fun _ => writeCr0_sound

@[simp] theorem clearTS_sound : Sound clearTS :=
  .bind needCpl0_sound fun _ => .modify fun _ h => ⟨h.wf, h.cr3, h.paging, h.kept, h.repeating⟩

@[simp] theorem readCr_sound {c : CrNo} : Sound (readCr r c) :=
  .bind needCpl0_sound fun _ => .bind .get fun _ => .bind setReg_sound fun _ => undefinedFlags_sound

@[simp] theorem writeCr_sound {c : CrNo} : Sound (writeCr c v) :=
  .bind needCpl0_sound fun _ => by
    cases c with
    | cr0 => exact .bind writeCr0_sound fun _ => undefinedFlags_sound
    | cr2 => exact .bind (.modify fun _ h => h) fun _ => undefinedFlags_sound
    | cr3 => exact .bind (.modify fun _ h => h.withCr3 (pageAddr_low v)) fun _ => undefinedFlags_sound

theorem needNoGD_sound : Sound needNoGD := .bind .get fun _ => .ite raiseDB_sound (.pure _)

theorem readReserved_sound : Sound (readReserved v o) := .bind draw_sound fun _ => .pure _

@[simp] theorem readDr_sound {d : DrNo} : Sound (readDr r d) :=
  .bind needCpl0_sound fun _ => .bind needNoGD_sound fun _ => .bind .get fun _ => by
    cases d with
    | dr0 | dr1 | dr2 | dr3 => exact .bind (.pure _) fun _ => .bind setReg_sound fun _ => undefinedFlags_sound
    | dr4 | dr5 => exact .bind refuse_sound fun _ => .bind setReg_sound fun _ => undefinedFlags_sound
    | dr6 | dr7 => exact .bind readReserved_sound fun _ => .bind setReg_sound fun _ => undefinedFlags_sound

@[simp] theorem writeDr_sound {d : DrNo} : Sound (writeDr d v) :=
  .bind needCpl0_sound fun _ => .bind needNoGD_sound fun _ => by
    cases d with
    | dr4 | dr5 => exact .bind refuse_sound fun _ => undefinedFlags_sound
    | _ => exact .bind (.modify fun _ h => h) fun _ => undefinedFlags_sound

@[simp] theorem testRegister_sound : Sound testRegister := .bind needCpl0_sound fun _ => refuse_sound

theorem probe_sound : Sound (probe sel) :=
  .ite (.pure _) <| .bind .get fun s => by
    cases s.descAddr sel with
    | none => exact .pure _
    | some la => exact .bind readDesc_sound fun _ => .pure _

theorem probeRM_sound {ok : Desc → Bool} : Sound (probeRM ok rm) :=
  .bind needProtected_sound fun _ => .bind readRM_sound fun _ => .bind probe_sound fun _ => .bind .get fun _ =>
    .bind modifyFlags_sound fun _ => .pure _

@[simp] theorem loadRights_sound : Sound (loadRights r rm) :=
  .bind probeRM_sound fun
    | none => .pure _
    | some _ => .bind .get fun _ => setReg_sound

@[simp] theorem loadLimit_sound : Sound (loadLimit r rm) :=
  .bind probeRM_sound fun
    | none => .pure _
    | some _ => .bind .get fun _ => setReg_sound

@[simp] theorem verify_sound {ok : Desc → Bool} : Sound (verify ok rm) := .bind probeRM_sound fun _ => .pure _

@[simp] theorem adjustRpl_sound {rpl : BitVec 2} : Sound (adjustRpl rm rpl) :=
  .bind needProtected_sound fun _ => .bind modifyRM_sound fun (_, _) => .bind modifyFlags_sound fun _ =>
    .ite putPlace_sound (.pure _)

@[simp] theorem halt_sound : Sound halt := .bind needCpl0_sound fun _ => .modify fun _ h => h

end

end Sys2Proof.Machine
end

section
/-! PROOF. Every step keeps the invariant: how an event and an instruction end, each instruction, the fetch, the
boundary between two instructions. -/

namespace Sys2Proof.Machine

/-- An answer whose state, if it has one, meets the invariant. -/
def EndsInv : Answer → Prop
  | .next t => Inv t
  | .fault _ => True
  | .refused _ => True

variable {s t : State} {e : Exc} {ev : Event} {i : Instr} {body : M Unit}

/-! ### The states instructions and events end in -/

theorem keepBits_wf {map : List PhysRegion} {m ks : List Host.Cell} (hm : Memory.wf m = true)
    (hk : ∀ c ∈ ks, c.1 < 2 ^ 32) : Memory.wf (keepBits map m ks) = true := by
  induction ks generalizing m with
  | nil => exact hm
  | cons c ks ih =>
    obtain ⟨hc, hks⟩ := List.forall_mem_cons.mp hk
    refine ih ?_ hks
    split
    · exact Memory.write_wf _ hm hc
    · exact hm

/-- No repetition is in progress in the state a fault leaves, whose memory has the bits the processor had set. -/
theorem State.Mid.rollback (hs : s.Mid) (ht : t.Mid) : Inv (rollback s t) :=
  inv_iff.mpr ⟨(hs.withMem (keepBits_wf hs.wf ht.kept)).idle.withInsn (i := Insn.start) rfl, rfl⟩

theorem State.Mid.between (h : s.Mid) : Inv s.between := inv_iff.mpr ⟨h.idle.withInsn (i := Insn.start) rfl, rfl⟩

/-- An instruction that completes may leave a repetition in progress. -/
theorem State.Mid.complete (h : t.Mid) : Inv (complete s t) := by
  refine inv_iff.mpr ⟨?_, complete_insn t s⟩
  refine State.Mid.coprocessed (s := { t with flags := _, pendingDb := _, insn := Insn.start }) ?_
  exact h.withInsn rfl

/-! ### Taking an event -/

theorem Inv.record (h : Inv s) (e : Exc) : Inv (e.record s) := h

theorem Inv.setAside (h : Inv s) (ev : Event) : Inv (s.setAside ev) := by
  unfold State.setAside
  split
  · exact h
  · exact h
  · split <;> exact h
  · exact h

/-- An attempt at delivery ends in a state that meets the invariant, or leaves one to the next attempt. -/
def Delivery.MeetsInv : Delivery → Prop
  | .done o => EndsInv o
  | .more _ t => Inv t

theorem Inv.follow (h : Inv s) (next : Option Event) : (s.follow next).MeetsInv := by
  cases next <;> exact h

theorem attempt_inv (h : Inv s) : (attempt ev s).MeetsInv := by
  have hd := deliverOnce_sound (ev := ev) { s with insn := { Insn.start with ext := ev.kind != .software } }
  have hs := h.mid.withInsn (i := { Insn.start with ext := ev.kind != .software }) rfl
  unfold attempt
  split <;> rename_i heq <;> rw [heq] at hd <;> have ht := hd hs
  · exact ht.between
  · exact (((h.mid.rollback ht).setAside ev).record _).follow _
  · exact (ht.between.record _).follow _
  · exact h.mid.rollback ht
  · exact ht.between
  · trivial

theorem takeEvent_inv (k : Nat) (h : Inv s) : EndsInv (takeEvent k ev s) := by
  induction k generalizing ev s with
  | zero => exact h
  | succ k ih =>
    have ha := attempt_inv (ev := ev) h
    rw [takeEvent]
    cases hd : attempt ev s <;> rw [hd] at ha
    · exact ha
    · exact ih ha

theorem takeException_inv (h : Inv s) : EndsInv (takeException e s) := takeEvent_inv _ (h.record e)

/-! ### Running an instruction -/

/-- Whatever ends an instruction, the state it leaves meets the invariant. -/
theorem settle_inv {x : M Unit} (hx : Sound x) (hs : s.Mid) : EndsInv (settle s (x s)) := by
  have h := hx s
  unfold settle
  split <;> rename_i heq <;> rw [heq] at h <;> have ht := h hs
  · exact ht.complete
  · exact takeException_inv (hs.rollback ht)
  · exact takeException_inv ht.between
  · exact hs.rollback ht
  · exact ht.between
  · trivial

theorem instruction_inv {lockable string : Bool} (hb : Sound body) (hs : s.Mid) :
    EndsInv (instruction lockable string body s) := settle_inv (.bind checkPrefixes_sound fun _ => hb) hs

theorem lockInsn_inv {mem : Bool} (hb : Sound body) (hs : s.Mid) : EndsInv (lockInsn mem body s) :=
  instruction_inv (.bind hb fun _ => advance_sound) hs

theorem stringInsn_inv {done : State → Bool} {element : M Unit} (hi : isString i = true) (he : Sound element)
    (hs : s.Mid) : EndsInv (stringInsn (repeated i done element) s) := instruction_inv (repeated_sound hi he) hs

/-- Every instruction but the bytes `isPrefix` names ends in a state that meets the invariant. -/
theorem exec_inv (hi : isPrefix i = false) (hs : s.Mid) : EndsInv (exec i s) := by
  cases i
  case opSizePrefix | addrSizePrefix | lockPrefix | repPrefix | repnePrefix | esPrefix | csPrefix | ssPrefix |
      dsPrefix | fsPrefix | gsPrefix => cases hi
  case movsb | movsv | cmpsb | cmpsv | stosb | stosv | lodsb | lodsv | scasb | scasv | insb | insv | outsb | outsv =>
    exact stringInsn_inv rfl (by simp) hs
  case jmpJb | jmpJv | jmpEv | jccJb | jccJv | jcxzJb | loopJb | loopeJb | loopneJb | callJv | callEv | ret | retIw |
      intIb | int3 | into | iret | jmpFarAp | callFarAp | retf | retfIw =>
    exact instruction_inv (by simp) hs
  case jmpFarMp | callFarMp => exact instruction_inv (farIndirect_sound (by simp)) hs
  case esc op ext rm => cases rm <;> exact lockInsn_inv (by simp) hs
  all_goals exact lockInsn_inv (by simp) hs

/-! ### The fetch of an instruction -/

/-- What a fetch leaves: the invariant inside a step, and an item that is an instruction to run. -/
def Fetched.Fit : Fetched → Prop
  | .item i t => isPrefix i = false ∧ t.Mid
  | .stop _ t => t.Mid

theorem fetchBytes_mid {n off : Nat} (h : s.Mid) : (fetchBytes n off s).2.2.Mid := by
  induction n generalizing off s with
  | zero => exact h
  | succ n ih =>
    have hb := fetchByte_sound (n := off) s
    rw [fetchBytes]
    cases hf : fetchByte off s <;> rw [hf] at hb
    · exact ih (hb h)
    · exact hb h

theorem afterFetch_mid (h : s.Mid) (n : Nat) : (afterFetch n s).Mid := fetchBytes_mid (s := s) h

/-- The state a fetch leaves, of an item or not. -/
def Fetched.state : Fetched → State
  | .item _ t => t
  | .stop _ t => t

theorem fetchItem_mid (h : s.Mid) : (fetchItem s).state.Mid := by
  unfold fetchItem
  dsimp only
  split
  · exact afterFetch_mid h _
  · exact afterFetch_mid h _
  · exact fetchBytes_mid h

/-- The bytes `isPrefix` names note themselves and change nothing else. -/
theorem exec_prefix_mid (hi : isPrefix i = true) (h : s.Mid) (he : exec i s = .next t) : t.Mid := by
  cases i
  case opSizePrefix | addrSizePrefix | lockPrefix | repPrefix | repnePrefix | esPrefix | csPrefix | ssPrefix |
      dsPrefix | fsPrefix | gsPrefix =>
    cases he
    exact h
  all_goals cases hi

theorem fetchInsn_fit (k : Nat) (h : s.Mid) : (fetchInsn k s).Fit := by
  induction k generalizing s with
  | zero => exact h
  | succ k ih =>
    have hf := fetchItem_mid h
    rw [fetchInsn]
    cases hi : fetchItem s with
    | stop e t =>
      rw [hi] at hf
      exact hf
    | item i t =>
      rw [hi] at hf
      by_cases hp : isPrefix i = true
      · simp only [hp, if_true]
        cases he : exec i t with
        | next u => exact ih (exec_prefix_mid hp hf he)
        | fault _ => exact hf
        | refused _ => exact hf
      · simp only [hp]
        exact ⟨by simpa using hp, hf⟩

theorem chooseMode_mid (h : s.Mid) : (chooseMode s).Mid := by
  unfold chooseMode
  dsimp only
  split <;> exact h

theorem isPrefix_of_isString (h : isString i = true) : isPrefix i = false := by
  cases i
  case movsb | movsv | cmpsb | cmpsv | stosb | stosv | lodsb | lodsv | scasb | scasv | insb | insv | outsb | outsv =>
    rfl
  all_goals cases h

theorem runInstruction_inv (h : Inv s) : EndsInv (runInstruction s) := by
  unfold runInstruction
  split
  next i c hr =>
    obtain ⟨hi, hc⟩ := h.mid.repeating (i, c) hr
    exact exec_inv (isPrefix_of_isString hi) (h.mid.withInsn hc)
  next =>
    have hf := fetchInsn_fit (Config.maxInsnLen + 1) (chooseMode_mid (h.mid.withInsn (i := Insn.start) rfl))
    unfold State.nextInsn
    split <;> rename_i heq <;> rw [heq] at hf
    · exact settle_inv (.throw _) hf
    · exact exec_inv hf.1 hf.2

/-! ### The boundary between two instructions -/

theorem Offer.take_inv (h : Inv s) (o : Offer) : EndsInv (o.take s) := by
  cases o with
  | codeBreak => exact takeException_inv h
  | trap | nmi | intr _ => exact takeEvent_inv _ h

theorem runningBoundary_inv (h : Inv s) : EndsInv (runningBoundary s) := by
  unfold runningBoundary
  split
  · exact runInstruction_inv h
  · dsimp only
    split
    · exact runInstruction_inv h
    · exact Offer.take_inv (s := { s with draws := s.ahead.2 }) h _

theorem Inv.coprocessed (h : Inv s) : Inv s.coprocessed := by
  refine inv_iff.mpr ⟨h.mid.coprocessed, ?_⟩
  obtain ⟨m, b, tr, l, k, heq⟩ := s.coprocessed_eq
  rw [heq]
  exact (inv_iff.mp h).2

theorem haltedBoundary_inv (h : Inv s) : EndsInv (haltedBoundary s) := by
  unfold haltedBoundary haltedIdle
  split
  · split
    · exact h.coprocessed
    · trivial
  · exact Offer.take_inv h _

/-- RESET and the NMI that ends a shutdown clear PG with PE. -/
theorem State.Mid.withoutPaging (h : s.Mid) {c : Cr0} (hc : c.PG = false) : { s with cr0 := c }.Mid :=
  ⟨h.wf, h.cr3, by simp [hc], h.kept, h.repeating⟩

theorem Inv.restarted (h : Inv s) : Inv s.restarted := by
  obtain ⟨hm, hi⟩ := inv_iff.mp h
  exact inv_iff.mpr ⟨hm.withoutPaging rfl, hi⟩

theorem afterReset_inv (h : Memory.wf s.mem = true) : Inv s.afterReset := by
  refine inv_iff.mpr ⟨⟨h, ?_, ?_, ?_, ?_⟩, rfl⟩
  all_goals simp [State.afterReset, State.reset, Insn.start]

theorem cycle_inv (h : Inv s) : EndsInv (cycle s) := by
  unfold cycle
  split
  · exact afterReset_inv h.mid.wf
  · split
    · exact runningBoundary_inv h
    · exact haltedBoundary_inv h
    · split
      · exact takeEvent_inv _ h.restarted
      · trivial

end Sys2Proof.Machine
end

section
/-! PROOF. The statements about RESET and the invariant. -/

namespace Sys2Proof.Claims

open Sys2Proof.Machine

/-- Settles O54: what RESET leaves is a case of what it leaves of a running machine, whose memory is in canonical
form. -/
theorem resetInvariant : Obligations.ResetInvariant := afterReset_inv (s := State.reset) reset_mem_wf

/-- Settles O55, by what each kind of step ends in. -/
theorem stepKeepsInvariant : Obligations.StepKeepsInvariant := by
  intro s t hs hstep
  have h := cycle_inv hs
  rw [show cycle s = .next t from hstep] at h
  exact h

end Sys2Proof.Claims
end

section
/-! PROOF. EFLAGS and CR0 as words, bit by bit; the parts of the general registers; the statements about them and about
RESET. -/

namespace Sys2Proof.Machine

/-- Two words with the same bits. -/
theorem word_ext {v w : Word} (h : ∀ i < 32, bit v i = bit w i) : v = w := BitVec.eq_of_getLsbD_eq h

/-! ### EFLAGS -/

/-- Bits 0 to 17 of EFLAGS (10 R36). -/
def Flags.bits (f : Flags) : List Bool :=
  [f.CF, true, f.PF, false, f.AF, false, f.ZF, f.SF, f.TF, f.IF, f.DF, f.OF, f.IOPL.getLsbD 0, f.IOPL.getLsbD 1, f.NT,
   false, f.RF, f.VM]

theorem Flags.bit_toWord (f : Flags) {i : Nat} (hi : i < 32) : bit f.toWord i = f.bits.getD i false := by
  unfold bit Flags.toWord
  show @BitVec.getLsbD (14 + 1 + 1 + 1 + 1 + 2 + 1 + 1 + 1 + 1 + 1 + 1 + 1 + 1 + 1 + 1 + 1 + 1) _ i = _
  simp only [BitVec.getLsbD_append, Flags.bits]
  interval_cases i <;> simp

theorem Flags.iopl_toWord (f : Flags) : f.toWord.extractLsb' 12 2 = f.IOPL := by
  refine BitVec.eq_of_getLsbD_eq fun i hi => ?_
  have h := f.bit_toWord (i := 12 + i) (by omega)
  rw [BitVec.getLsbD_extractLsb', ← bit, h]
  interval_cases i <;> simp [Flags.bits]

theorem Flags.ofWord_toWord (f : Flags) : Flags.ofWord f.toWord = f := by
  simp only [Flags.ofWord, f.iopl_toWord, f.bit_toWord, Nat.reduceLT]
  rfl

/-- Bit 1 is set, the other constant bits are clear (10 R42; log 5). -/
theorem Flags.toWord_constant (f : Flags) : f.toWord &&& 0xFFFC802A#32 = 2#32 := by
  refine word_ext fun i hi => ?_
  rw [bit, BitVec.getLsbD_and, ← bit, f.bit_toWord hi]
  interval_cases i <;> simp [Flags.bits, bit]

/-! ### CR0 -/

/-- Bits 0 to 4 of CR0, bit 31, and the reserved bits between (10 R57). -/
theorem Cr0.bit_toWord (c : Cr0) {i : Nat} (hi : i < 32) : bit c.toWord i =
    [c.PE, c.MP, c.EM, c.TS, c.ET].getD i (if i = 31 then c.PG else c.reserved.getLsbD (i - 5)) := by
  unfold bit Cr0.toWord
  show @BitVec.getLsbD (1 + 26 + 1 + 1 + 1 + 1 + 1) _ i = _
  simp only [BitVec.getLsbD_append]
  interval_cases i <;> simp

theorem Cr0.reserved_toWord (c : Cr0) : c.toWord.extractLsb' 5 26 = c.reserved := by
  refine BitVec.eq_of_getLsbD_eq fun i hi => ?_
  have h := c.bit_toWord (i := 5 + i) (by omega)
  rw [BitVec.getLsbD_extractLsb', ← bit, h]
  interval_cases i <;> simp

theorem Cr0.ofWord_toWord (c : Cr0) : Cr0.ofWord c.toWord = c := by
  simp only [Cr0.ofWord, c.reserved_toWord, c.bit_toWord, Nat.reduceLT]
  rfl

theorem Cr0.toWord_ofWord (v : Word) : (Cr0.ofWord v).toWord = v := by
  refine word_ext fun i hi => ?_
  rw [Cr0.bit_toWord _ hi]
  interval_cases i <;> simp [Cr0.ofWord, bit]

/-! ### The general registers -/

theorem Regs.get_set (r : Regs) (n m : RegNo) (v : Word) : (r.set n v).get m = if m = n then v else r.get m := by
  cases n <;> cases m <;> rfl

/-- A register after a change of a register. -/
theorem Regs.get_update (r : Regs) (n m : RegNo) (g : Word → Word) :
    (r.set n (g (r.get n))).get m = if m = n then g (r.get m) else r.get m := by
  rw [Regs.get_set]
  by_cases h : m = n <;> simp only [h, if_true, if_false]

/-- The 32-bit value of a register after a byte of it is written. -/
def putByte (high : Bool) (x v : Word) : Word :=
  if high then (x &&& 0xFFFF00FF#32) ||| ((v &&& 0xFF#32) <<< 8) else (x &&& 0xFFFFFF00#32) ||| (v &&& 0xFF#32)

theorem Regs.write_w8 (r : Regs) (n : RegNo) (v : Word) :
    r.write .w8 n v = r.set (byteHome n).1 (putByte (byteHome n).2 (r.get (byteHome n).1) v) := by
  cases n <;> rfl

/-- A 16-bit write keeps the upper half (10 R31). -/
theorem putHalf_eq (x v : Word) :
    (x &&& 0xFFFF0000#32) ||| (v &&& 0xFFFF#32) = x.extractLsb' 16 16 ++ v.extractLsb' 0 16 := by
  refine word_ext fun i hi => ?_
  show _ = @BitVec.getLsbD (16 + 16) _ i
  rw [BitVec.getLsbD_append]
  interval_cases i <;> simp [bit]

/-- A write of a low byte changes bits 7 to 0, one of a high byte bits 15 to 8 (10 R31). -/
theorem putByte_eq (high : Bool) (x v : Word) :
    putByte high x v =
      if high then x.extractLsb' 16 16 ++ v.extractLsb' 0 8 ++ x.extractLsb' 0 8
      else x.extractLsb' 8 24 ++ v.extractLsb' 0 8 := by
  refine word_ext fun i hi => ?_
  cases high with
  | false =>
    rw [if_neg Bool.false_ne_true]
    show _ = @BitVec.getLsbD (24 + 8) _ i
    rw [BitVec.getLsbD_append]
    interval_cases i <;> simp [putByte, bit]
  | true =>
    rw [if_pos rfl]
    show _ = @BitVec.getLsbD (16 + 8 + 8) _ i
    rw [BitVec.getLsbD_append, BitVec.getLsbD_append]
    interval_cases i <;> simp [putByte, bit]

/-- A byte reads back as it was written. -/
theorem getByte_putByte (high : Bool) (x v : Word) :
    (if high then (putByte high x v >>> 8) &&& 0xFF#32 else putByte high x v &&& 0xFF#32) = v &&& 0xFF#32 := by
  refine word_ext fun i hi => ?_
  cases high <;> interval_cases i <;> simp [putByte, bit]

theorem Regs.read_w8 (r : Regs) (n : RegNo) :
    r.read .w8 n = if (byteHome n).2 then (r.get (byteHome n).1 >>> 8) &&& 0xFF#32
      else r.get (byteHome n).1 &&& 0xFF#32 := rfl

/-- A register reads back as it was written, at each width. -/
theorem Regs.read_write (r : Regs) (w : Width) (n : RegNo) (v : Word) : (r.write w n v).read w n = w.trunc v := by
  cases w with
  | w8 =>
    rw [Regs.read_w8, Regs.write_w8, Regs.get_set, if_pos rfl]
    exact getByte_putByte _ _ _
  | w16 =>
    show (r.set n _).get n &&& 0xFFFF#32 = v &&& 0xFFFF#32
    rw [Regs.get_set, if_pos rfl, BitVec.and_or_distrib_right, BitVec.and_assoc, BitVec.and_assoc]
    simp
  | w32 => exact (Regs.get_set _ _ _ _).trans (if_pos rfl)

theorem toNat_and_lt {x m : Word} {k : Nat} (hm : m.toNat < k) : (x &&& m).toNat < k := by
  rw [BitVec.toNat_and]
  exact Nat.lt_of_le_of_lt Nat.and_le_right hm

theorem Regs.read_lt (r : Regs) (w : Width) (n : RegNo) : (r.read w n).toNat < 2 ^ w.bits := by
  cases w with
  | w8 =>
    rw [Regs.read_w8]
    split <;> exact toNat_and_lt (by decide)
  | w16 => exact toNat_and_lt (by decide)
  | w32 => exact (r.get n).isLt

end Sys2Proof.Machine

namespace Sys2Proof.Claims

open Sys2Proof.Machine

/-- Settles O20, by the bits of EFLAGS and of CR0 and by what a write does to a register. -/
theorem registerLayouts : Obligations.RegisterLayouts := by
  refine ⟨fun f => ?eflags, fun r n m v => ?regs, fun c v => ?cr0⟩
  case eflags =>
    simp only [f.ofWord_toWord, f.toWord_constant, f.iopl_toWord, f.bit_toWord, Nat.reduceLT]
    simp [Flags.bits]
  case regs =>
    refine ⟨Regs.get_set _ _ _ _, ?_, ?_, fun w => r.read_write w n v, fun w => r.read_lt w n, rfl⟩
    · rw [← putHalf_eq]
      exact r.get_update n m fun x => (x &&& 0xFFFF0000#32) ||| (v &&& 0xFFFF#32)
    · rw [Regs.write_w8, ← putByte_eq]
      exact r.get_update _ m fun x => putByte (byteHome n).2 x v
  case cr0 =>
    simp only [c.ofWord_toWord, Cr0.toWord_ofWord, c.reserved_toWord, c.bit_toWord, Nat.reduceLT]
    simp

/-- Settles O53: the values are those of the reset state, and RESET comes before anything else a step does. -/
theorem resetValues : Obligations.ResetValues := by
  refine ⟨rfl, by decide, rfl, rfl, rfl, rfl, rfl, rfl, rfl, rfl, rfl, rfl, by decide, by decide, rfl, rfl,
    fun s hreset => ?_⟩
  rw [step, cycle, if_pos hreset]
  rfl

end Sys2Proof.Claims
end

section
/-! PROOF. What the operations on memory and descriptors answer, case by case, and what an access leaves as it was. -/

namespace Sys2Proof.Machine

open Sys2Proof.Claims

variable {α : Type} {s u : State} {off : Word} {n : Nat} {sel : Half} {vec : Byte}

/-! ### Exceptions -/

theorem raiseSel_eq (vec : Byte) (sel : Half) (s : State) :
    (raiseSel vec sel : M α) s = .error (.exc (selExc s vec sel)) s := rfl

/-- #XX(0), for whichever vector. -/
theorem raiseCode_zero (vec : Byte) (s : State) :
    (raiseCode vec 0#16 : M α) s = .error (.exc { gpZero s with vector := vec }) s := by
  simp [gpZero]

theorem raiseGP0_eq (s : State) : (raiseGP0 : M α) s = .error (.exc (gpZero s)) s := raiseCode_zero vecGP s

/-! ### What an access leaves -/

section
variable (h : AccessKeeps s u)
include h

theorem AccessKeeps.extBit : extBit u = extBit s := by rw [h.1]; rfl
theorem AccessKeeps.selExc : selExc u vec sel = selExc s vec sel := by rw [Claims.selExc, h.extBit]; rfl
theorem AccessKeeps.gpZero : gpZero u = gpZero s := by rw [Claims.gpZero, h.extBit]; rfl
theorem AccessKeeps.cpl : u.cpl = s.cpl := by rw [h.1]; rfl
theorem AccessKeeps.descAddr : u.descAddr sel = s.descAddr sel := by rw [h.1]; rfl
theorem AccessKeeps.ldtr : u.ldtr = s.ldtr := by rw [h.1]

end

/-! ### More accesses that leave it so -/

theorem readDesc_keeps (la : Word) : Preserves AccessKeeps (readDesc la) :=
  .bind .trans (linRead_keeps _ _) fun _ => .pure .refl _

theorem linSetBits_keeps (la : Word) (bits : Byte) : Preserves AccessKeeps (linSetBits la bits) :=
  .bind .trans (linRead_keeps _ _) fun _ =>
    .ite (.pure .refl _) (.bind .trans (translate_keeps _ _ _) fun _ => physSetBits_keeps _ _)

theorem markAccessed_keeps (la : Word) (d : Desc) : Preserves AccessKeeps (markAccessed la d) :=
  .ite (.pure .refl _) (linSetBits_keeps _ _)

theorem peek_keeps (n k : Nat) : Preserves AccessKeeps (peek n k) :=
  .bind .trans (.get .refl) fun _ => .bind .trans (memRead_keeps _ _ _) fun _ => .pure .refl _

/-! ### Segment checks (20 R160 to R166) -/

/-- The checks on an access as a statement. -/
theorem allows_iff (r : SegReg) (off : Word) (n : Nat) (rd wr : Bool) :
    r.allows off n rd wr = true ↔ Allowed r off n rd wr := by
  have implies (a b : Bool) : (!a || b) = true ↔ (a = true → b = true) := by cases a <;> cases b <;> decide
  simp only [SegReg.allows, Allowed, Bool.and_eq_true, implies, and_assoc, SegReg.inLimit]
  by_cases hdown : r.expandDown = true ∧ r.executable = false
  · simp [hdown]
  · simp only [Bool.not_eq_true', hdown, if_false, decide_eq_true_eq]

theorem raiseSeg_eq (sg : SegNo) (s : State) :
    (raiseSeg sg : M α) s = .error (.exc { gpZero s with vector := if sg = .ss then 12#8 else 13#8 }) s := by
  rw [raiseSeg, ite_apply, raiseCode_zero, raiseCode_zero]
  by_cases h : sg = .ss <;> simp [h, vecSS, vecGP]

/-! ### Consecutive addresses -/

theorem addrsFrom_eq (pa : Word) (n : Nat) :
    addrsFrom pa n = (List.range n).map fun k => pa + BitVec.ofNat 32 k := by
  induction n generalizing pa with
  | zero => rfl
  | succ n ih =>
    have hstep (k : Nat) : pa + 1#32 + BitVec.ofNat 32 k = pa + BitVec.ofNat 32 (k + 1) := by
      rw [BitVec.add_assoc, ← BitVec.ofNat_add, Nat.add_comm]
    simp [addrsFrom, ih, List.range_succ_eq_map, hstep]

theorem addrsFrom_append (pa : Word) (m n : Nat) :
    addrsFrom pa m ++ addrsFrom (pa + BitVec.ofNat 32 m) n = addrsFrom pa (m + n) := by
  simp [addrsFrom_eq, List.range_add, BitVec.add_assoc, BitVec.ofNat_add]

/-- Where linear addresses are physical, an operand lies at consecutive addresses, also across a page boundary. -/
theorem physAddrs_plain_eq (h : Plain s) (la : Word) (n : Nat) (wr user : Bool) :
    physAddrs la n wr user s = .ok (addrsFrom la n) s := by
  simp only [physAddrs, bind_apply, translate_plain h, ite_apply, pure_apply, addrsFrom_append]
  split
  · rfl
  · rw [Nat.add_sub_cancel' (by omega)]

theorem memAddrs_denied {sg : SegNo} {rd wr : Bool} (h : ¬Allowed (s.seg sg) off n rd wr) :
    memAddrs sg off n rd wr s = .error (.exc { gpZero s with vector := if sg = .ss then 12#8 else 13#8 }) s := by
  rw [← allows_iff] at h
  simp [memAddrs, regAddrs, segAddr, h, raiseSeg_eq]

theorem memAddrs_plain_eq (hp : Plain s) {sg : SegNo} {rd wr : Bool} (h : Allowed (s.seg sg) off n rd wr) :
    memAddrs sg off n rd wr s = .ok (addrsFrom ((s.seg sg).base + off) n) s := by
  rw [← allows_iff] at h
  simp [memAddrs, regAddrs, segAddr, h, physAddrs_plain_eq hp, watch_plain hp]

end Sys2Proof.Machine

namespace Sys2Proof.Claims

open Sys2Proof.Machine

/-- Settles O47: the check comes first, and over plain memory nothing else can happen. -/
theorem segmentChecks : Obligations.SegmentChecks := by
  intro s sg off n rd wr
  refine ⟨memAddrs_denied, fun ha hp => ?_⟩
  rw [memAddrs_plain_eq hp ha, addrsFrom_eq]

end Sys2Proof.Claims
end

section
/-! PROOF. Byte strings, stores and loads over plain memory, and the statement that a load reads what a store wrote. -/

namespace Sys2Proof.Machine

open Sys2Proof.Claims

variable {s t u : State} {off : Word} {n v : Nat} {sg : SegNo} {pas : List Word} {bs : List Byte}

/-! ### Byte strings (20 R135) -/

theorem ofBytes_toBytes (n v : Nat) : ofBytes (toBytes n v) = v % 256 ^ n := by
  induction n generalizing v with
  | zero => simp [toBytes, ofBytes, Nat.mod_one]
  | succ n ih =>
    rw [toBytes, ofBytes, ih, Nat.pow_succ', Nat.mod_mul, BitVec.toNat_ofNat]

theorem getElem?_toBytes {k : Nat} (hk : k < n) : (toBytes n v)[k]? = some (BitVec.ofNat 8 (v / 256 ^ k)) := by
  induction k generalizing n v with
  | zero =>
    obtain ⟨n, rfl⟩ := Nat.exists_eq_add_of_lt hk
    simp [toBytes]
  | succ k ih =>
    obtain ⟨n, rfl⟩ := Nat.exists_eq_add_of_lt hk
    have hrest := ih (n := k + 1 + n) (v := v / 256) (by omega)
    rw [toBytes, List.getElem?_cons_succ, hrest, Nat.div_div_eq_div_mul, Nat.pow_succ']

/-! ### What a store leaves -/

section
variable (h : Stores u pas bs t)
include h

theorem Stores.plain (hp : Plain u) : Plain t := by
  rw [h.1]
  exact hp

theorem Stores.seg : t.seg sg = u.seg sg := by
  rw [h.1]
  rfl

/-- RAM reads back what was stored. -/
theorem Stores.read_back (hm : u.physMap = []) (hl : pas.length = bs.length) :
    (pas.map fun p => Memory.read t.mem p.toNat) = bs := by
  obtain ⟨-, hread, -, -⟩ := h
  have heach : ∀ p ∈ pas.zip bs, Memory.read t.mem p.1.toNat = p.2 := fun p hp => hread p hp (by rw [hm]; rfl)
  calc pas.map (fun p => Memory.read t.mem p.toNat)
      = (pas.zip bs).map (fun p => Memory.read t.mem p.1.toNat) := by
        have hfst := List.map_fst_zip (l₁ := pas) (l₂ := bs) (by omega)
        exact (congrArg _ hfst).symm.trans List.map_map
    _ = (pas.zip bs).map Prod.snd := List.map_congr_left heach
    _ = bs := List.map_snd_zip (by omega)

end

/-! ### Accesses over plain memory -/

theorem physReadList_plain (hm : s.physMap = []) (pas : List Word) :
    physReadList pas s = .ok (pas.map fun p => Memory.read s.mem p.toNat) s :=
  physReadList_ram fun p _ => by rw [hm]; rfl

/-- A load over plain memory: the little-endian number of consecutive bytes. -/
theorem memRead_plain (hp : Plain s) (ha : Allowed (s.seg sg) off n true false) :
    memRead sg off n s =
      .ok (ofBytes ((addrsFrom ((s.seg sg).base + off) n).map fun p => Memory.read s.mem p.toNat)) s := by
  obtain ⟨-, -, hmap, -⟩ := id hp
  simp [memRead, memAddrs_plain_eq hp ha, physReadList_plain hmap]

/-- A store over plain memory changes consecutive bytes. -/
theorem memWrite_plain (hn : n ≤ 4096) (hp : Plain s) (hm : Memory.wf s.mem = true)
    (ha : Allowed (s.seg sg) off n false true) (v : Nat) :
    ∃ t, memWrite sg off n v s = .ok () t ∧ Stores s (addrsFrom ((s.seg sg).base + off) n) (toBytes n v) t ∧
      Memory.wf t.mem = true := by
  have haddrs := memAddrs_plain_eq hp ha
  obtain ⟨t, ht, hs⟩ := memWrite_ok (v := v) hn haddrs hm
  refine ⟨t, ht, hs, ?_⟩
  rw [memWrite, bind_ok haddrs] at ht
  exact (physWriteList_keepsWf _ _ _).ok ht hm

end Sys2Proof.Machine

namespace Sys2Proof.Claims

open Sys2Proof.Machine

section
variable {r : SegReg} {off : Word} {n : Nat}

theorem Allowed.read (h : Allowed r off n true true) : Allowed r off n true false := by
  obtain ⟨husable, -, hreadable, hlimit⟩ := h
  exact ⟨husable, nofun, hreadable, hlimit⟩

theorem Allowed.write (h : Allowed r off n true true) : Allowed r off n false true := by
  obtain ⟨husable, hwriteable, -, hlimit⟩ := h
  exact ⟨husable, hwriteable, nofun, hlimit⟩

end

/-- Settles O48: RAM reads back the bytes stored, and a number is the one its bytes make. -/
theorem storeThenLoad : Obligations.StoreThenLoad := by
  intro s sg off n v hn hp hm ha
  obtain ⟨t, ht, hs, hwf⟩ := memWrite_plain hn hp hm ha.write v
  obtain ⟨-, -, hmap, -⟩ := id hp
  have hback := hs.read_back hmap (by rw [addrsFrom_length, toBytes_length])
  have hload := memRead_plain (hs.plain hp) (n := n) (sg := sg) (hs.seg.symm ▸ ha.read)
  rw [hs.seg, hback, ofBytes_toBytes] at hload
  refine ⟨t, ht, hload, hwf, fun k hk => ?_⟩
  have hbyte := congrArg (·[k]?) hback
  simpa [addrsFrom_eq, getElem?_toBytes hk, hk] using hbyte

end Sys2Proof.Claims
end

section
/-! PROOF. The page walk over RAM, the bits it sets, and what translation makes of it. -/

namespace Sys2Proof.Machine

open Sys2Proof.Claims

variable {s t u : State} {la pa pde pte pdeAddr pteAddr : Word} {bits : Byte} {wr user : Bool} {w : Walk}

/-! ### Words of the page tables -/

theorem toNat_append_eq {m n : Nat} (x : BitVec m) (y : BitVec n) :
    (x ++ y).toNat = x.toNat * 2 ^ n + y.toNat := by
  rw [BitVec.toNat_append, ← Nat.shiftLeft_add_eq_or_of_lt y.isLt, Nat.shiftLeft_eq]

/-- The address of an entry of a page table is a multiple of 4. -/
theorem entryAddr_aligned (table index : Word) :
    ((table &&& 0xFFFFF000#32) ||| (index <<< 2)).toNat % 4 = 0 := by
  have hlow : ((table &&& 0xFFFFF000#32) ||| (index <<< 2)) &&& 3#32 = 0#32 := by
    refine word_ext fun i hi => ?_
    interval_cases i <;> simp [bit]
  have hnat := congrArg BitVec.toNat hlow
  rwa [BitVec.toNat_and, show (3#32).toNat = 2 ^ 2 - 1 from rfl, Nat.and_two_pow_sub_one_eq_mod] at hnat

/-- The processor reads a dword of RAM as `memWord` has it. -/
theorem physRead32_ram (hm : s.physMap = []) (ha : pa.toNat % 4 = 0) :
    physRead32 pa s = .ok (memWord s.mem pa.toNat) s := by
  have hlt := pa.isLt
  have hnext (k : Nat) (hk : k < 4) : (pa + BitVec.ofNat 32 k).toNat = pa.toNat + k := by
    rw [BitVec.toNat_add, BitVec.toNat_ofNat]
    omega
  simp only [physRead32, bind_apply, physReadList_plain hm, List.map_cons, List.map_nil, pure_apply,
    hnext 1 (by omega), hnext 2 (by omega), hnext 3 (by omega)]
  congr 1
  apply BitVec.eq_of_toNat_eq
  simp only [memWord, ofBytes, toNat_append_eq, BitVec.toNat_ofNat]
  omega

theorem bit_memWord (m : List Host.Cell) (a : Nat) {i : Nat} (hi : i < 8) :
    bit (memWord m a) i = (Memory.read m a).getLsbD i := by
  unfold bit memWord
  show @BitVec.getLsbD ((8 + 8) + (8 + 8)) _ i = _
  rw [BitVec.getLsbD_append, if_pos (by omega), BitVec.getLsbD_append, if_pos hi]

/-! ### Setting bits (20 R229) -/

/-- Setting bits that are set changes nothing. -/
theorem or_eq_left {b : Byte} (h : b &&& bits = bits) : b ||| bits = b := by
  refine BitVec.eq_of_getLsbD_eq fun i _ => ?_
  have hi := congrArg (·.getLsbD i) h
  simp only [BitVec.getLsbD_and, BitVec.getLsbD_or] at hi ⊢
  rw [← hi]
  cases b.getLsbD i <;> rfl

/-- In RAM the bits are set, and no other bit of memory changes. -/
theorem physSetBits_ram (hm : s.physMap = []) (hwf : Memory.wf s.mem = true) (pa : Word) (bits : Byte) :
    ∃ t, physSetBits pa bits s = .ok () t ∧
      ∀ a, Memory.read t.mem a = Memory.read s.mem a ||| (if a = pa.toNat then bits else 0#8) := by
  have hram : physKind s.physMap pa.toNat = none := by rw [hm]; rfl
  simp only [physSetBits, bind_apply, physRead_ram hram, ite_apply, pure_apply, physWrite_ok, hram, modify_apply]
  split
  · rename_i hset
    have hset : Memory.read s.mem pa.toNat &&& bits = bits := by simpa using hset
    refine ⟨s, rfl, fun a => ?_⟩
    split
    · rename_i ha
      rw [ha, or_eq_left hset]
    · rw [BitVec.or_zero]
  · refine ⟨_, rfl, fun a => ?_⟩
    split
    · rename_i ha
      rw [ha]
      exact Memory.read_write_same _ hwf
    · rename_i ha
      rw [BitVec.or_zero]
      exact Memory.read_write_ne _ ha

/-- Bit 6, Dirty, after it has been set. -/
theorem dirty_of_physSetBits (hm : s.physMap = []) (hwf : Memory.wf s.mem = true) (hbits : bits.getLsbD 6 = true)
    (h : physSetBits pa bits s = .ok () t) : bit (memWord t.mem pa.toNat) 6 = true := by
  obtain ⟨t', ht, hread⟩ := physSetBits_ram hm hwf pa bits
  rw [h] at ht
  cases ht
  rw [bit_memWord _ _ (by omega), hread, if_pos rfl, BitVec.getLsbD_or, hbits, Bool.or_true]

/-! ### The walk (20 R193) -/

/-- The entries the walk for `la` looks at, and their addresses; memory is RAM. -/
structure PageEntries (s : State) (la pdeAddr pde pteAddr pte : Word) : Prop where
  ram : s.physMap = []
  pdeAddr_eq : (s.cr3Now &&& 0xFFFFF000#32) ||| ((la >>> 22) <<< 2) = pdeAddr
  pde_eq : memWord s.mem pdeAddr.toNat = pde
  pteAddr_eq : (pde &&& 0xFFFFF000#32) ||| (((la >>> 12) &&& 0x3FF#32) <<< 2) = pteAddr
  pte_eq : memWord s.mem pteAddr.toNat = pte

section
variable (h : PageEntries s la pdeAddr pde pteAddr pte)
include h

theorem PageEntries.readPde : physRead32 pdeAddr s = .ok pde s := by
  rw [← h.pde_eq, ← h.pdeAddr_eq]
  exact physRead32_ram h.ram (entryAddr_aligned _ _)

theorem PageEntries.readPte : physRead32 pteAddr s = .ok pte s := by
  rw [← h.pte_eq, ← h.pteAddr_eq]
  exact physRead32_ram h.ram (entryAddr_aligned _ _)

theorem PageEntries.walk_noPde (h0 : bit pde 0 = false) : walk la wr user s = .ok .absent s := by
  simp [walk, h.pdeAddr_eq, h.readPde, h0]

theorem PageEntries.walk_noPte (h0 : bit pde 0 = true) (h1 : bit pte 0 = false) :
    walk la wr user s = .ok .absent s := by
  simp [walk, h.pdeAddr_eq, h.readPde, h0, h.pteAddr_eq, h.readPte, h1]

theorem PageEntries.walk_denied (h0 : bit pde 0 = true) (h1 : bit pte 0 = true)
    (hd : pageDenied (bit pde 2 && bit pte 2) (bit pde 1 && bit pte 1) wr user = true) :
    walk la wr user s = .ok (.denied pteAddr) s := by
  simp [walk, h.pdeAddr_eq, h.readPde, h0, h.pteAddr_eq, h.readPte, h1, hd]

theorem PageEntries.walk_found (h0 : bit pde 0 = true) (h1 : bit pte 0 = true)
    (hd : pageDenied (bit pde 2 && bit pte 2) (bit pde 1 && bit pte 1) wr user = false) :
    walk la wr user s = .ok (.ok pdeAddr pteAddr pde pte) s := by
  simp [walk, h.pdeAddr_eq, h.readPde, h0, h.pteAddr_eq, h.readPte, h1, hd]

end

/-! ### Translation with nothing cached -/

theorem translate_unpaged (hpg : s.pgNow = false) (htlb : s.tlbNow = []) : translate la wr user s = .ok la s := by
  simp [translate, hpg, htlb, chooseEntry]

section
variable (hpg : s.pgNow = true) (htlb : s.tlbNow = [])
include hpg htlb

theorem translate_absent (hw : walk la wr user s = .ok .absent s) :
    translate la wr user s = raisePF la false wr user s := by
  simp [translate, hpg, hw, htlb, candidates, chooseEntry]

theorem translate_denied (hw : walk la wr user s = .ok (.denied pteAddr) s) :
    translate la wr user s = raisePF la true wr user s := by
  simp [translate, hpg, hw, htlb, candidates, chooseEntry]

/-- Accessed is set in both entries and Dirty in the PTE for a write; the address lies in the page frame. -/
theorem translate_found (hm : s.physMap = []) (hwf : Memory.wf s.mem = true)
    (hw : walk la wr user s = .ok (.ok pdeAddr pteAddr pde pte) s) :
    ∃ u, translate la wr user s = .ok (inFrame (pte.extractLsb' 12 20) la) u ∧
      ∀ a, Memory.read u.mem a = Memory.read s.mem a |||
        (if a = pdeAddr.toNat then 0x20#8 else 0#8) |||
        (if a = pteAddr.toNat then (if wr then 0x60#8 else 0x20#8) else 0#8) := by
  obtain ⟨t, ht, hread⟩ := physSetBits_ram hm hwf pdeAddr 0x20#8
  have hk := (physSetBits_keeps _ _).ok ht
  obtain ⟨u, hu, hread'⟩ := physSetBits_ram (hk.physMap.trans hm) (hk.wf hwf) pteAddr (if wr then 0x60#8 else 0x20#8)
  refine ⟨u.cached (walkEntry la pde pte wr), ?_, fun a => ?_⟩
  · simp [translate, hpg, hw, htlb, candidates, chooseEntry, ht, hu, walkEntry]
  · rw [State.cached_mem, hread', hread]

end

/-! ### Dirty, whatever is cached (92 D33) -/

/-- The PTE whose Dirty bit a write through this result of the walk sets. -/
inductive Walk.HasPte (pteAddr : Word) : Walk → Prop
  | denied : HasPte pteAddr (.denied pteAddr)
  | ok (pdeAddr pde pte : Word) : HasPte pteAddr (.ok pdeAddr pteAddr pde pte)

theorem PageEntries.walk_hasPte (h : PageEntries s la pdeAddr pde pteAddr pte) (h0 : bit pde 0 = true)
    (h1 : bit pte 0 = true) : ∃ w, walk la wr user s = .ok w s ∧ w.HasPte pteAddr := by
  cases hd : pageDenied (bit pde 2 && bit pte 2) (bit pde 1 && bit pte 1) wr user with
  | true => exact ⟨_, h.walk_denied h0 h1 hd, .denied⟩
  | false => exact ⟨_, h.walk_found h0 h1 hd, .ok ..⟩

/-- A write that is translated sets Dirty, through a cached entry as by a walk. -/
theorem dirty_of_translate (hpg : s.pgNow = true) (hm : s.physMap = []) (hwf : Memory.wf s.mem = true)
    (hw : walk la true user s = .ok w s) (hp : w.HasPte pteAddr) (h : translate la true user s = .ok pa u) :
    bit (memWord u.mem pteAddr.toNat) 6 = true := by
  simp only [translate] at h
  obtain ⟨_, _, hget, h⟩ := bind_eq_ok h
  cases hget
  rw [if_pos hpg] at h
  obtain ⟨_, _, hwalk, h⟩ := bind_eq_ok h
  rw [hw] at hwalk
  cases hwalk
  obtain ⟨o, t, ho, h⟩ := bind_eq_ok h
  have hk := (chooseEntry_keeps _).ok ho
  have hm := hk.physMap.trans hm
  have hwf := hk.wf hwf
  cases o with
  | some e =>
    cases hd : pageDenied e.user e.writeable true user with
    | true =>
      simp only [hd, if_true] at h
      obtain ⟨_, _, hraise, -⟩ := bind_eq_ok h
      cases hraise
    | false =>
      simp only [hd, Bool.false_eq_true, if_false] at h
      obtain ⟨_, v, hmark, h⟩ := bind_eq_ok h
      cases h
      cases hp <;> exact dirty_of_physSetBits hm hwf (bits := 0x40#8) rfl hmark
  | none =>
    cases hp with
    | denied => cases h
    | ok pdeAddr pde pte =>
      obtain ⟨_, v, hacc, h⟩ := bind_eq_ok h
      obtain ⟨_, v', hset, h⟩ := bind_eq_ok h
      obtain ⟨_, _, hcache, h⟩ := bind_eq_ok h
      cases hcache
      cases h
      have hk := (physSetBits_keeps _ _).ok hacc
      rw [State.cached_mem]
      exact dirty_of_physSetBits (hk.physMap.trans hm) (hk.wf hwf) (bits := 0x60#8) rfl hset

/-- A page frame and an offset within the page. -/
theorem inFrame_eq (pte la : Word) :
    inFrame (pte.extractLsb' 12 20) la = (pte &&& 0xFFFFF000#32) ||| (la &&& 0xFFF#32) := by
  refine word_ext fun i hi => ?_
  show @BitVec.getLsbD (20 + 12) _ i = _
  rw [inFrame, BitVec.getLsbD_append]
  interval_cases i <;> simp [bit]

end Sys2Proof.Machine

namespace Sys2Proof.Claims

open Sys2Proof.Machine

/-- Settles O49, by what the walk finds; that Dirty is set whatever is cached needs the walk's result only. -/
theorem pagedTranslation : Obligations.PagedTranslation := by
  refine ⟨fun s la wr user hpg htlb => translate_unpaged hpg htlb, fun s la wr user hpg hm hwf => ?_⟩
  intro pdeAddr pde pteAddr pte denied code pf
  have he : PageEntries s la pdeAddr pde pteAddr pte := ⟨hm, rfl, rfl, rfl, rfl⟩
  refine ⟨fun htlb h0 => ?_, fun htlb h0 h1 => ?_, fun htlb h0 h1 hd => ?_, fun htlb h0 h1 hd => ?_,
    fun pa u h0 h1 hwr htr => ?_⟩
  · exact translate_absent hpg htlb (he.walk_noPde h0)
  · exact translate_absent hpg htlb (he.walk_noPte h0 h1)
  · exact translate_denied hpg htlb (he.walk_denied h0 h1 hd)
  · obtain ⟨u, hu, hmem⟩ := translate_found hpg htlb hm hwf (he.walk_found h0 h1 hd)
    exact ⟨u, inFrame_eq pte la ▸ hu, (translate_keeps _ _ _).ok hu, hmem⟩
  · subst hwr
    obtain ⟨w, hw, hp⟩ := he.walk_hasPte h0 h1
    exact dirty_of_translate hpg hm hwf hw hp htr

end Sys2Proof.Claims
end

section
/-! PROOF. Descriptors: the checks on them, the loading of segment registers, the bytes marked in memory. -/

namespace Sys2Proof.Machine

open Sys2Proof.Claims

variable {s t u v : State} {la p q : Word} {sel : Half} {d : Desc} {bad : Byte} {level : BitVec 2} {n : SegNo}

/-! ### Selectors (20 R140, R141) -/

theorem selNull_iff : selNull sel = true ↔ sel.toNat < 4 := by
  have hmask : (sel &&& 0xFFFC#16).toNat = sel.toNat / 4 * 4 := by
    have hsplit : sel &&& 0xFFFC#16 = (sel >>> 2) <<< 2 := by
      refine BitVec.eq_of_getLsbD_eq fun i hi => ?_
      interval_cases i <;> simp
    have hlt := sel.isLt
    rw [hsplit, BitVec.toNat_shiftLeft, BitVec.toNat_ushiftRight, Nat.shiftLeft_eq, Nat.shiftRight_eq_div_pow]
    omega
  rw [selNull, beq_iff_eq, ← BitVec.toNat_inj, hmask, BitVec.toNat_ofNat]
  omega

theorem selNull_eq_false (h : 4 ≤ sel.toNat) : selNull sel = false := by
  rw [← Bool.not_eq_true, selNull_iff]
  omega

/-- The descriptor of a selector outside its table. -/
theorem fetchDesc_none (h : s.descAddr sel = none) :
    fetchDesc bad sel s = .error (.exc (selExc s bad sel)) s := by
  simp [fetchDesc, h, raiseSel_eq, -raiseSel_apply]

theorem fetchDesc_some (ha : s.descAddr sel = some la) (hd : readDesc la s = .ok d u) :
    fetchDesc bad sel s = .ok (la, d) u := by
  simp [fetchDesc, ha, hd]

/-! ### Checks on a descriptor -/

/-- A check whose failure raises an exception, in terms of what it demands. -/
theorem check_raiseSel {β : Type} {c good : Prop} [Decidable c] [Decidable good] {k : PUnit → M β} (h : c ↔ ¬good) :
    (if c then raiseSel bad sel >>= k else k ⟨⟩) s =
      if good then k ⟨⟩ s else .error (.exc (selExc s bad sel)) s := by
  by_cases hg : good
  · rw [if_neg (by simp [h, hg]), if_pos hg]
  · rw [if_pos (h.mpr hg), if_neg hg, bind_error (raiseSel_eq _ _ _)]

theorem not_present_iff : (!d.present) = true ↔ ¬d.present = true := by simp

section
variable (ha : s.descAddr sel = some la) (hd : readDesc la s = .ok d u)
include ha hd

/-- A stack segment for privilege level `level` (20 R157). -/
theorem stackDesc_eq : stackDesc bad sel level s =
    if selRpl sel = level ∧ d.writeable = true ∧ d.dpl = level then
      if d.present = true then .ok (la, d) u else .error (.exc (selExc s vecSS sel)) u
    else .error (.exc (selExc s bad sel)) u := by
  have hk := (readDesc_keeps la).ok hd
  have hcheck : (selRpl sel != level || !d.writeable || d.dpl != level) = true ↔
      ¬(selRpl sel = level ∧ d.writeable = true ∧ d.dpl = level) := by
    simp only [Bool.or_eq_true, bne_iff_ne, Bool.not_eq_true', ← Bool.not_eq_true, ← not_and_or, and_assoc, Ne]
  rw [stackDesc, bind_ok (fetchDesc_some ha hd)]
  simp only [check_raiseSel hcheck, check_raiseSel not_present_iff, hk.selExc, pure_apply]

/-- A data segment or readable code segment (20 R156). -/
theorem loadDataSeg_eq (hn : 4 ≤ sel.toNat) : loadDataSeg bad n sel s =
    if d.readable = true then
      if d.conforming = false → selRpl sel ≤ d.dpl ∧ s.cpl ≤ d.dpl then
        if d.present = true then (do markAccessed la d; putSeg n (d.toReg sel d.dpl)) u
        else .error (.exc (selExc s vecNP sel)) u
      else .error (.exc (selExc s bad sel)) u
    else .error (.exc (selExc s bad sel)) u := by
  have hk := (readDesc_keeps la).ok hd
  have hread : (!d.readable) = true ↔ ¬d.readable = true := by simp
  have hpriv : (!d.conforming && (decide (d.dpl < selRpl sel) || decide (d.dpl < s.cpl))) = true ↔
      ¬(d.conforming = false → selRpl sel ≤ d.dpl ∧ s.cpl ≤ d.dpl) := by
    simp only [Bool.and_eq_true, Bool.not_eq_true', Bool.or_eq_true, decide_eq_true_eq, not_forall, exists_prop,
      not_and_or, BitVec.not_le]
  rw [loadDataSeg, selNull_eq_false hn, if_neg Bool.false_ne_true, bind_ok (fetchDesc_some ha hd)]
  simp only [check_raiseSel hread, bind_ok (get_apply u), hk.cpl, check_raiseSel hpriv,
    check_raiseSel not_present_iff, hk.selExc]

/-- The code segment a far return goes to (42 R530). -/
theorem returnDesc_eq (hn : 4 ≤ sel.toNat) (hr : s.cpl ≤ selRpl sel) : returnDesc sel s =
    if d.isCode = true ∧ (if d.conforming = true then d.dpl ≤ selRpl sel else d.dpl = selRpl sel) then
      if d.present = true then .ok (la, d) u else .error (.exc (selExc s vecNP sel)) u
    else .error (.exc (selExc s vecGP sel)) u := by
  have hk := (readDesc_keeps la).ok hd
  have hrpl : selRpl sel < s.cpl ↔ ¬s.cpl ≤ selRpl sel := BitVec.not_le.symm
  have hcheck : (!d.isCode || (if d.conforming then decide (selRpl sel < d.dpl) else d.dpl != selRpl sel)) = true ↔
      ¬(d.isCode = true ∧ if d.conforming = true then d.dpl ≤ selRpl sel else d.dpl = selRpl sel) := by
    cases d.isCode <;> cases d.conforming <;> simp
  rw [returnDesc, bind_ok (get_apply s), selNull_eq_false hn, if_neg Bool.false_ne_true]
  simp only [check_raiseSel hrpl, hr, if_true, bind_ok (fetchDesc_some ha hd), check_raiseSel hcheck,
    check_raiseSel not_present_iff, hk.selExc, pure_apply]

end

/-! ### Segment registers -/

theorem loadSeg_ss (hp : s.protMode = true) : loadSeg .ss sel s = loadStackSeg sel s := by
  simp [loadSeg, hp]

theorem loadSeg_data (hp : s.protMode = true) (hn : n ≠ .ss) : loadSeg n sel s = loadDataSeg vecGP n sel s := by
  simp [loadSeg, hp, hn]

theorem loadDataSeg_null (hz : sel.toNat < 4) : loadDataSeg bad n sel s =
    .ok () { s with segs := s.segs.set n { s.seg n with selector := sel, usable := false } } := by
  rw [loadDataSeg, if_pos (selNull_iff.mpr hz)]
  rfl

theorem loadDataSeg_none (hz : 4 ≤ sel.toNat) (ha : s.descAddr sel = none) :
    loadDataSeg bad n sel s = .error (.exc (selExc s bad sel)) s := by
  rw [loadDataSeg, selNull_eq_false hz, if_neg Bool.false_ne_true, bind_error (fetchDesc_none ha)]

theorem loadStackSeg_null (hz : sel.toNat < 4) : loadStackSeg sel s = .error (.exc (gpZero s)) s := by
  rw [loadStackSeg, if_pos (selNull_iff.mpr hz), bind_error (raiseGP0_eq s)]

theorem loadStackSeg_eq (hz : 4 ≤ sel.toNat) :
    loadStackSeg sel s = (stackDesc vecGP sel s.cpl >>= fun x => putStackSeg sel x.1 x.2) s := by
  rw [loadStackSeg, selNull_eq_false hz, if_neg Bool.false_ne_true]
  rfl

theorem stackDesc_none (ha : s.descAddr sel = none) :
    stackDesc bad sel level s = .error (.exc (selExc s bad sel)) s := bind_error (fetchDesc_none ha)

/-- A segment register takes its descriptor once that is marked accessed. -/
theorem putSeg_marked {r : SegReg} (h : markAccessed la d u = .ok () v) :
    (do markAccessed la d; putSeg n r) u = .ok () { v with segs := v.segs.set n r } := bind_ok h

/-! ### Bytes of a descriptor changed in memory (20 R229, 42 R543) -/

theorem and_one_eq_iff (b : Byte) : b &&& 1#8 = 1#8 ↔ b.getLsbD 0 = true := by
  refine ⟨fun h => by simpa using congrArg (·.getLsbD 0) h, fun h => BitVec.eq_of_getLsbD_eq fun i hi => ?_⟩
  interval_cases i <;> simp [-BitVec.getLsbD_eq_getElem, h]

theorem physAddrs_one {wr user : Bool} (h : translate la wr user s = .ok p u) :
    physAddrs la 1 wr user s = .ok [p] u := by
  have hroom : 1 ≤ 4096 - la.toNat % 4096 := by omega
  simp [physAddrs, h, hroom, addrsFrom]

section
variable (hm : s.physMap = []) (hr : translate la false false s = .ok p u)
include hm hr

theorem linRead_byte : linRead la 1 s = .ok (Memory.read u.mem p.toNat).toNat u := by
  have hm := ((translate_keeps _ _ _).ok hr).physMap.trans hm
  simp [linRead, physAddrs_one hr, physReadList_plain hm, ofBytes]

theorem linSetBits_set {bits : Byte} (hb : Memory.read u.mem p.toNat &&& bits = bits) :
    linSetBits la bits s = .ok () u := by
  simp [linSetBits, linRead_byte hm hr, hb]

variable (hw : translate la true false u = .ok q v)
include hw

/-- Bits that are not set yet are set at the address the write is translated to. -/
theorem linSetBits_clear {bits : Byte} (hwf : Memory.wf s.mem = true)
    (hb : Memory.read u.mem p.toNat &&& bits ≠ bits) : ∃ t, linSetBits la bits s = .ok () t ∧
      ∀ a, Memory.read t.mem a = Memory.read v.mem a ||| (if a = q.toNat then bits else 0#8) := by
  have hk := ((translate_keeps _ _ _).ok hr).trans ((translate_keeps _ _ _).ok hw)
  obtain ⟨t, ht, hread⟩ := physSetBits_ram (hk.physMap.trans hm) (hk.wf hwf) q bits
  exact ⟨t, by simp [linSetBits, linRead_byte hm hr, hb, hw, ht], hread⟩

end

/-- The Busy bit is written with the rest of its byte. -/
theorem putBusy_stores (busy : Bool) (hm : s.physMap = []) (hwf : Memory.wf s.mem = true)
    (hr : translate (la + 5#32) false false s = .ok p u) (hw : translate (la + 5#32) true false u = .ok q v) :
    ∃ t, putBusy la busy s = .ok () t ∧
      Stores v [q] [if busy then Memory.read u.mem p.toNat ||| 2#8 else Memory.read u.mem p.toNat &&& 0xFD#8] t := by
  have hk := ((translate_keeps _ _ _).ok hr).trans ((translate_keeps _ _ _).ok hw)
  obtain ⟨t, ht, hs⟩ := physWriteList_stores (pas := [q])
    (bs := [if busy then Memory.read u.mem p.toNat ||| 2#8 else Memory.read u.mem p.toNat &&& 0xFD#8])
    (hk.wf hwf) (List.nodup_singleton q) rfl
  refine ⟨t, ?_, hs⟩
  simpa [putBusy, linRead_byte hm hr, linWrite, physAddrs_one hw, toBytes] using ht

end Sys2Proof.Machine

namespace Sys2Proof.Claims

open Sys2Proof.Machine

/-- Settles O26: the two kinds of segment register by their own checks; the bytes marked lie where the write of byte 5
of the descriptor is translated to. -/
theorem protectedSegmentLoad : Obligations.ProtectedSegmentLoad := by
  refine ⟨fun s u u' n sel la d hp _ => ?load, fun s u v la p q d busy hm hwf hr hw => ?mark⟩
  case load =>
    intro good
    have marked {w : State} (hd : readDesc la s = .ok d u) (h : markAccessed la d u = .ok () w) : AccessKeeps s w :=
      ((readDesc_keeps _).ok hd).trans ((markAccessed_keeps _ _).ok h)
    refine ⟨fun hz hn => (loadSeg_data hp hn).trans (loadDataSeg_null hz),
      fun hz => (loadSeg_ss hp).trans (loadStackSeg_null hz), fun hz ha => ?_, fun hz ha hd => ?_⟩
    · by_cases hn : n = .ss
      · rw [hn, loadSeg_ss hp, loadStackSeg_eq hz]
        exact bind_error (stackDesc_none ha)
      · rw [loadSeg_data hp hn]
        exact loadDataSeg_none hz ha
    · refine ⟨(readDesc_keeps _).ok hd, ?_⟩
      by_cases hn : n = .ss
      · subst hn
        have hgood : good ↔ selRpl sel = s.cpl ∧ d.writeable = true ∧ d.dpl = s.cpl := by
          simp only [good, if_true, selRpl]
          tauto
        rw [loadSeg_ss hp, loadStackSeg_eq hz, hgood]
        refine ⟨fun hbad => ?_, fun hok habs => ?_, fun hok hpres hmark => ⟨?_, marked hd hmark⟩⟩
        · exact bind_error ((stackDesc_eq ha hd).trans (if_neg hbad))
        · refine bind_error ((stackDesc_eq ha hd).trans ?_)
          simp [hok, habs, vecSS]
        · rw [bind_ok ((stackDesc_eq ha hd).trans ((if_pos hok).trans (if_pos hpres)))]
          exact putSeg_marked hmark
      · have hgood : good ↔ d.readable = true ∧ (d.conforming = false → selRpl sel ≤ d.dpl ∧ s.cpl ≤ d.dpl) := by
          simp only [good, hn, if_false, selRpl]
        rw [loadSeg_data hp hn, loadDataSeg_eq ha hd hz, hgood]
        refine ⟨fun hbad => ?_, fun ⟨hread, hpriv⟩ habs => ?_, fun ⟨hread, hpriv⟩ hpres hmark => ⟨?_, marked hd hmark⟩⟩
        · by_cases hread : d.readable = true
          · rw [if_pos hread, if_neg fun hpriv => hbad ⟨hread, hpriv⟩]
            rfl
          · rw [if_neg hread]
            rfl
        · rw [if_pos hread, if_pos hpriv, habs, if_neg Bool.false_ne_true, if_neg hn]
          rfl
        · rw [if_pos hread, if_pos hpriv, if_pos hpres]
          exact putSeg_marked hmark
  case mark =>
    intro b
    have hk := ((translate_keeps _ _ _).ok hr).trans ((translate_keeps _ _ _).ok hw)
    have hmark (h : bit d.hi 8 = false) : markAccessed la d s = linSetBits (la + 5#32) 1#8 s := by
      simp [markAccessed, h]
    refine ⟨hk, fun h => by simp [markAccessed, h], fun h hset => ?_, fun h hclear => ?_,
      putBusy_stores busy hm hwf hr hw⟩
    · rw [hmark h]
      exact linSetBits_set hm hr ((and_one_eq_iff b).mpr hset)
    · rw [hmark h]
      obtain ⟨t, ht, hread⟩ := linSetBits_clear hm hr hw hwf
        (mt (and_one_eq_iff b).mp (Bool.eq_false_iff.mp hclear))
      exact ⟨t, ht, (linSetBits_keeps _ _).ok ht, hread⟩

end Sys2Proof.Claims
end

section
/-! PROOF. The I/O permission check, IN and OUT. -/

namespace Sys2Proof.Machine

open Sys2Proof.Claims

variable {s u u' : State} {w : Width} {x p n base : Nat} {i : Instr} {port : Half}

/-! ### Values at a width -/

theorem Regs.write_trunc (g : Regs) (w : Width) (r : RegNo) (x : Word) : g.write w r (w.trunc x) = g.write w r x := by
  cases w <;> simp [Regs.write, Width.trunc, BitVec.and_assoc]

theorem Regs.trunc_read (g : Regs) (w : Width) (r : RegNo) : w.trunc (g.read w r) = g.read w r := by
  cases w with
  | w8 =>
    rw [Regs.read_w8]
    split <;> simp [Width.trunc, BitVec.and_assoc]
  | w16 => simp [Regs.read, Width.trunc, BitVec.and_assoc]
  | w32 => rfl

/-! ### The check (20 R210 to R215) -/

/-- The permission map is not asked: real mode, or CPL at most IOPL outside V86 mode. -/
def PortsFree (s : State) : Prop := s.peNow = false ∨ (s.flags.VM = false ∧ s.cpl ≤ s.flags.IOPL)

/-- What is left of the check once the map, if it is asked, allows the access. -/
def lastPort (p n : Nat) : M Unit := if p + n > 0x10000 then refuse .portPastEnd else pure ()

theorem lastPort_within (h : p + n ≤ 0x10000) : lastPort p n s = .ok () s := by
  rw [lastPort, if_neg (by omega)]
  rfl

theorem lastPort_past (h : 0x10000 < p + n) : lastPort p n s = .error (.refuse .portPastEnd) s := by
  rw [lastPort, if_pos h]
  rfl

theorem ioCheck_free (h : PortsFree s) : ioCheck p n s = lastPort p n s := by
  have hask : (s.peNow && (s.flags.VM || decide (s.flags.IOPL < s.cpl))) = false := by
    rcases h with h | ⟨hvm, hle⟩
    · rw [h, Bool.false_and]
    · rw [hvm, Bool.false_or, decide_eq_false (BitVec.not_lt.mpr hle), Bool.and_false]
  simp only [ioCheck, bind_ok (get_apply s), hask]
  rfl

/-- Where the map is asked, its answer comes before the end of the port space. -/
theorem ioCheck_map (h : ¬PortsFree s) {ok : Bool} (hm : mapAllows p n s = .ok ok u) :
    ioCheck p n s = if ok = true then lastPort p n u else .error (.exc (gpZero u)) u := by
  have hask : (s.peNow && (s.flags.VM || decide (s.flags.IOPL < s.cpl))) = true := by
    simp only [PortsFree, not_or, not_and_or, Bool.not_eq_false, BitVec.not_le] at h
    simpa using h
  simp only [ioCheck, bind_ok (get_apply s), hask, if_true, ite_apply]
  rw [bind_ok hm]
  cases ok with
  | false => exact bind_error (raiseGP0_eq u)
  | true => rfl

theorem mapAllows_noMap (h : s.tr.is386 = false ∨ s.tr.limit.toNat < 0x67) : mapAllows p n s = .ok false s := by
  have h : (!s.tr.is386 || decide (s.tr.limit.toNat < 0x67)) = true := by simpa using h
  simp only [mapAllows, bind_ok (get_apply s), h, if_true]
  rfl

section
variable (hk : s.tr.is386 = true) (hl : 0x67 ≤ s.tr.limit.toNat)
  (hb : linRead (s.tr.base + 0x66#32) 2 s = .ok base u)
include hk hl hb

theorem mapAllows_outside (h : base = 0xFFFF ∨ s.tr.limit.toNat < base + p / 8 + 1) :
    mapAllows p n s = .ok false u := by
  have hl : ¬s.tr.limit.toNat < 0x67 := by omega
  by_cases hne : base = 0xFFFF
  · simp [mapAllows, hk, hl, hb, hne]
  · have hout : s.tr.limit.toNat ≤ base + p / 8 := by omega
    simp [mapAllows, hk, hl, hb, hne, hout]

theorem mapAllows_bits (hne : base ≠ 0xFFFF) (hin : base + p / 8 + 1 ≤ s.tr.limit.toNat)
    (hx : linRead (s.tr.base + BitVec.ofNat 32 (base + p / 8)) 2 u = .ok x u') :
    mapAllows p n s = .ok (x / 2 ^ (p % 8) % 2 ^ n == 0) u' := by
  have hin : ¬s.tr.limit.toNat ≤ base + p / 8 := by omega
  have hl : ¬s.tr.limit.toNat < 0x67 := by omega
  simp [mapAllows, hk, hl, hb, hne, hin, hx]

end

theorem mapAllows_keeps (p n : Nat) : Preserves AccessKeeps (mapAllows p n) :=
  .bind .trans (.get .refl) fun _ => .ite (.pure .refl _) <| .bind .trans (linRead_keeps _ _) fun _ =>
    .ite (.pure .refl _) <| .ite (.pure .refl _) <| .bind .trans (linRead_keeps _ _) fun _ => .pure .refl _

theorem ioCheck_keeps (p n : Nat) : Preserves AccessKeeps (ioCheck p n) :=
  have stop {e : Stop} : Preserves AccessKeeps (throw e : M PUnit) := .throw .refl e
  have past : Preserves AccessKeeps (lastPort p n) := .ite stop (.pure .refl _)
  .bind .trans (.get .refl) fun _ =>
    .ite (.bind .trans (mapAllows_keeps p n) fun _ =>
      .ite (.bind .trans (.bind .trans (.get .refl) fun _ => .throw .refl _) fun _ => past) past) past

/-! ### IN and OUT (43 R571 to R574) -/

theorem portIn_ok (h : ioCheck port.toNat w.bytes s = .ok () u) :
    portIn w port s = .ok () (State.setReg { u with draws := u.draws + 1 } w .eax (Config.free 32 u.draws)) := by
  simp [portIn, h, ioRead, State.setReg, Regs.write_trunc]

theorem portOut_ok (h : ioCheck port.toNat w.bytes s = .ok () u) :
    portOut w port s = .ok () { u with trace := u.trace ++ [IoEvent.out port w.bytes (s.reg w .eax)] } := by
  rw [portOut, bind_ok h, ← ((ioCheck_keeps _ _).ok h).reg]
  simp [ioWrite, State.reg, Regs.trunc_read]

theorem exec_portIns (h : PortIns s i w port) : exec i s = plainInsn (portIn w port) s := by
  cases h <;> rfl

theorem exec_portOuts (h : PortOuts s i w port) : exec i s = plainInsn (portOut w port) s := by
  cases h <;> rfl

end Sys2Proof.Machine

namespace Sys2Proof.Claims

open Sys2Proof.Machine

/-- Settles O37: who is asked, then what the map answers, then the last port. -/
theorem portsComplete : Obligations.PortsComplete := by
  refine ⟨fun s u i w p hpre hc => ?insn, fun s u u' p n base x => ?check⟩
  case insn =>
    have hk := (ioCheck_keeps _ _).ok hc
    refine ⟨hk, fun hi => ?_, fun hi => ?_⟩
    · rw [exec_portIns hi]
      exact plainInsn_ok hpre (portIn_ok hc)
    · rw [exec_portOuts hi]
      exact plainInsn_ok hpre (portOut_ok hc)
  case check =>
    intro free a
    refine ⟨fun hf hle => (ioCheck_free hf).trans (lastPort_within hle),
      fun hf hlt => (ioCheck_free hf).trans (lastPort_past hlt),
      fun hf hno => ioCheck_map hf (mapAllows_noMap hno), fun hf hkind hlim hb => ?_⟩
    have hk := (linRead_keeps _ _).ok hb
    refine ⟨fun hout => ?_, fun hne hin hx => ?_⟩
    · rw [← hk.gpZero]
      exact ioCheck_map hf (mapAllows_outside hkind hlim hb hout)
    · have hmap : mapAllows p n s = .ok (x / 2 ^ (p % 8) % 2 ^ n == 0) u' := mapAllows_bits hkind hlim hb hne hin hx
      refine ⟨fun hset => ?_, fun hclear hle => ?_, fun hclear hlt => ?_⟩
      · rw [← hk.gpZero, ← ((linRead_keeps _ _).ok hx).gpZero, ioCheck_map hf hmap, beq_false_of_ne hset]
        rfl
      · rw [ioCheck_map hf hmap, hclear]
        exact lastPort_within hle
      · rw [ioCheck_map hf hmap, hclear]
        exact lastPort_past hlt

end Sys2Proof.Claims
end

section
/-! PROOF. Probes of selectors, ARPL, LLDT and LTR. -/

namespace Sys2Proof.Machine

open Sys2Proof.Claims

variable {s u u' u'' : State} {rm : RM} {v la : Word} {d : Desc} {sel : Half} {i : Instr}

theorem needProtected_ok (h : s.protMode = true) : needProtected s = .ok () s := by
  simp [needProtected, h]

theorem needCpl0_ok (h : s.cpl = 0#2) : needCpl0 s = .ok () s := by
  simp [needCpl0, h]

/-! ### Probes (44 R640 to R643) -/

theorem probe_none (h : sel.toNat < 4 ∨ s.descAddr sel = none) : probe sel s = .ok none s := by
  by_cases hn : selNull sel = true
  · rw [probe, if_pos hn]
    rfl
  · have ha : s.descAddr sel = none := h.resolve_left (selNull_iff.not.mp hn)
    rw [probe, if_neg hn, bind_ok (get_apply s), ha]
    rfl

theorem probe_some (hz : 4 ≤ sel.toNat) (ha : s.descAddr sel = some la) (hd : readDesc la s = .ok d u) :
    probe sel s = .ok (some d) u := by
  rw [probe, selNull_eq_false hz, if_neg Bool.false_ne_true, bind_ok (get_apply s), ha]
  exact bind_ok hd

/-- ZF tells whether the descriptor found is one to accept. -/
theorem probeRM_eq {ok : Desc → Bool} {found r : Option Desc} (hp : s.protMode = true)
    (hr : readRM .w16 rm s = .ok v u) (hf : probe (v.setWidth 16) u = .ok found u')
    (h : (found.filter fun d => ok d && d.visible (v.setWidth 16) u'.cpl) = r) :
    probeRM ok rm s = .ok r { u' with flags := { u'.flags with ZF := r.isSome } } := by
  rw [probeRM, bind_ok (needProtected_ok hp), bind_ok hr, bind_ok hf, ← h]
  rfl

/-- What the four instructions do with a descriptor they accept, and that they do nothing without one. -/
theorem exec_probes {ok : Desc → Bool} {f : Desc → State → State} (h : Probes s i rm ok f) :
    ∃ x : Option Desc → M Unit, exec i s = plainInsn (probeRM ok rm >>= x) s ∧ (∀ t, x none t = .ok () t) ∧
      ∀ d t, t.sizes = s.sizes → x (some d) t = .ok () (f d t) := by
  cases h with
  | lar reg =>
    refine ⟨_, rfl, fun t => rfl, fun d t ht => ?_⟩
    show (_ : EStateM.Result Stop State Unit) = .ok () (t.setReg s.opWidth reg _)
    simp only [bind_apply, get_apply, setReg_apply, State.opWidth, ht]
    cases s.sizes.op32 <;> rfl
  | lsl reg =>
    refine ⟨_, rfl, fun t => rfl, fun d t ht => ?_⟩
    show (_ : EStateM.Result Stop State Unit) = .ok () (t.setReg s.opWidth reg _)
    simp only [bind_apply, get_apply, setReg_apply, State.opWidth, ht]
  | verr | verw => exact ⟨fun _ => pure (), rfl, fun _ => rfl, fun _ _ _ => rfl⟩

/-! ### LLDT and LTR (44 R615, R617) -/

theorem selLocal_iff : selLocal sel = true ↔ ¬sel.getLsbD 2 = false := by simp [selLocal]

/-- The descriptor of a system segment must lie in the GDT. -/
theorem fetchGlobal_bad {k : Word × Desc → M Unit} (h : sel.getLsbD 2 = true ∨ s.descAddr sel = none) :
    (do if selLocal sel then raiseSel vecGP sel
        k (← fetchDesc vecGP sel)) s = .error (.exc (selExc s vecGP sel)) s := by
  rw [check_raiseSel selLocal_iff]
  split
  · rename_i hl
    exact bind_error (fetchDesc_none (h.resolve_left (by simp only [hl, Bool.false_eq_true, not_false_eq_true])))
  · rfl

theorem fetchGlobal_ok {k : Word × Desc → M Unit} (hl : sel.getLsbD 2 = false) (ha : s.descAddr sel = some la)
    (hd : readDesc la s = .ok d u) :
    (do if selLocal sel then raiseSel vecGP sel
        k (← fetchDesc vecGP sel)) s = k (la, d) u := by
  rw [check_raiseSel selLocal_iff, if_pos hl]
  exact bind_ok (fetchDesc_some ha hd)

section
variable (hp : s.protMode = true) (hc : s.cpl = 0#2) (hr : readRM .w16 rm s = .ok v u)
  (hsel : v.setWidth 16 = sel)
include hp hc hr hsel

theorem loadLdtr_null (hz : sel.toNat < 4) :
    loadLdtr rm s = .ok () { u with ldtr := { u.ldtr with selector := sel, valid := false } } := by
  rw [loadLdtr, bind_ok (needProtected_ok hp), bind_ok (needCpl0_ok hc), bind_ok hr, hsel,
    if_pos (selNull_iff.mpr hz)]
  rfl

theorem loadTr_null (hz : sel.toNat < 4) : loadTr rm s = .error (.exc (gpZero u)) u := by
  rw [loadTr, bind_ok (needProtected_ok hp), bind_ok (needCpl0_ok hc), bind_ok hr, hsel,
    if_pos (selNull_iff.mpr hz), bind_error (raiseGP0_eq u)]

variable (hz : 4 ≤ sel.toNat)
include hz

theorem loadLdtr_bad (h : sel.getLsbD 2 = true ∨ u.descAddr sel = none) :
    loadLdtr rm s = .error (.exc (selExc u vecGP sel)) u := by
  rw [loadLdtr, bind_ok (needProtected_ok hp), bind_ok (needCpl0_ok hc), bind_ok hr, hsel,
    selNull_eq_false hz, if_neg Bool.false_ne_true]
  exact fetchGlobal_bad h

theorem loadTr_bad (h : sel.getLsbD 2 = true ∨ u.descAddr sel = none) :
    loadTr rm s = .error (.exc (selExc u vecGP sel)) u := by
  rw [loadTr, bind_ok (needProtected_ok hp), bind_ok (needCpl0_ok hc), bind_ok hr, hsel,
    selNull_eq_false hz, if_neg Bool.false_ne_true]
  exact fetchGlobal_bad h

variable (hl : sel.getLsbD 2 = false) (ha : u.descAddr sel = some la) (hd : readDesc la u = .ok d u')
include hl ha hd

theorem loadLdtr_desc : loadLdtr rm s =
    if d.sysType = 2 then
      if d.present = true then
        .ok () { u' with ldtr := { selector := sel, base := d.base, limit := d.limit, valid := true } }
      else .error (.exc (selExc u' vecNP sel)) u'
    else .error (.exc (selExc u' vecGP sel)) u' := by
  have hkind : (d.sysType != 2) = true ↔ ¬d.sysType = 2 := bne_iff_ne
  rw [loadLdtr, bind_ok (needProtected_ok hp), bind_ok (needCpl0_ok hc), bind_ok hr, hsel,
    selNull_eq_false hz, if_neg Bool.false_ne_true]
  refine (fetchGlobal_ok hl ha hd).trans ?_
  simp only [check_raiseSel hkind, check_raiseSel not_present_iff, modify_apply]

/-- LTR of an available TSS goes on to set its Busy bit. -/
theorem loadTr_desc : loadTr rm s =
    if d.sysType = 1 ∨ d.sysType = 9 then
      if d.present = true then (do
        putBusy la true
        modify fun t : State =>
          { t with tr := { selector := sel, base := d.base, limit := d.limit, is386 := bit d.hi 11 } }) u'
      else .error (.exc (selExc u' vecNP sel)) u'
    else .error (.exc (selExc u' vecGP sel)) u' := by
  have hkind : (!d.availableTss) = true ↔ ¬(d.sysType = 1 ∨ d.sysType = 9) := by simp [Desc.availableTss]
  rw [loadTr, bind_ok (needProtected_ok hp), bind_ok (needCpl0_ok hc), bind_ok hr, hsel,
    selNull_eq_false hz, if_neg Bool.false_ne_true]
  refine (fetchGlobal_ok hl ha hd).trans ?_
  simp only [check_raiseSel hkind, check_raiseSel not_present_iff]
  rfl

end

/-! ### ARPL (44 R644) -/

theorem adjustRpl_keep {p : Place} {rpl : BitVec 2} (hp : s.protMode = true)
    (hr : modifyRM .w16 rm s = .ok (p, v) u) (h : rpl ≤ selRpl (v.setWidth 16)) :
    adjustRpl rm rpl s = .ok () { u with flags := { u.flags with ZF := false } } := by
  have hbelow : decide (selRpl (v.setWidth 16) < rpl) = false := decide_eq_false (BitVec.not_lt.mpr h)
  rw [adjustRpl, bind_ok (needProtected_ok hp), bind_ok hr]
  simp only [hbelow]
  rfl

theorem adjustRpl_raise {p : Place} {rpl : BitVec 2} (hp : s.protMode = true)
    (hr : modifyRM .w16 rm s = .ok (p, v) u) (h : selRpl (v.setWidth 16) < rpl) :
    adjustRpl rm rpl s = putPlace .w16 p ((selWithRpl (v.setWidth 16) rpl).setWidth 32)
      { u with flags := { u.flags with ZF := true } } := by
  rw [adjustRpl, bind_ok (needProtected_ok hp), bind_ok hr]
  simp only [decide_eq_true h]
  rfl

end Sys2Proof.Machine

namespace Sys2Proof.Claims

open Sys2Proof.Machine

/-- Settles O39: the probes by what they find, LLDT and LTR by their checks in order, ARPL by whether the RPL is
raised. -/
theorem protectionChecksComplete : Obligations.ProtectionChecksComplete := by
  refine ⟨fun s u u' u'' rm v la d hpre hp hr => ?checks, fun s u rm reg p v hpre hp hm hr => ?arpl⟩
  case checks =>
    intro sel
    have hk := (readRM_keeps _ _).ok hr
    have hdesc (hd : readDesc la u = .ok d u') : AccessKeeps s.started u' := hk.trans ((readDesc_keeps _).ok hd)
    have haddr : u.descAddr sel = s.descAddr sel := hk.descAddr
    refine ⟨hk, fun i ok f hi => ?probe, fun hc => ⟨fun hz => ⟨?_, ?_⟩, fun hz hbad i hi => ?_, fun hz hl ha hd => ?_⟩⟩
    case probe =>
      obtain ⟨x, hexec, hnone, hsome⟩ := exec_probes hi
      rw [hexec]
      refine ⟨fun hbad => ?_, fun hz ha hd => ⟨hdesc hd, fun ⟨hok, hseen⟩ => ?_, fun hbad => ?_⟩⟩
      · have hflags : u.flags = s.flags := hk.flags
        have hprobe := probeRM_eq (s := s.started) (ok := ok) hp hr (probe_none (haddr ▸ hbad)) rfl
        rw [← hflags]
        exact plainInsn_ok hpre ((bind_ok hprobe).trans (hnone _))
      all_goals
        have hfound := probe_some hz (haddr.trans ha) hd
        have hvisible : d.visible (v.setWidth 16) u'.cpl = seen s d sel := by rw [(hdesc hd).cpl]; rfl
        have hflags : u'.flags = s.flags := (hdesc hd).flags
        rw [← hflags]
      · have hprobe := probeRM_eq (s := s.started) (ok := ok) (r := some d) hp hr hfound
          (by simp [hvisible, hok, hseen])
        exact plainInsn_ok hpre ((bind_ok hprobe).trans (hsome d _ (hdesc hd).sizes))
      · have hprobe := probeRM_eq (s := s.started) (ok := ok) (r := none) hp hr hfound
          (by simpa [Option.filter, hvisible] using hbad)
        exact plainInsn_ok hpre ((bind_ok hprobe).trans (hnone _))
    · have hldtr : u.ldtr = s.ldtr := hk.ldtr
      rw [← hldtr]
      exact plainInsn_ok hpre (loadLdtr_null (s := s.started) hp hc hr rfl hz)
    · have hgp : gpZero u = gpZero s := hk.gpZero
      rw [← hgp]
      exact plainInsn_exc hpre (loadTr_null (s := s.started) hp hc hr rfl hz)
    · have hexc : selExc u vecGP sel = selExc s 13#8 sel := hk.selExc
      rw [← haddr] at hbad
      rw [← hexc]
      rcases List.mem_pair.mp hi with rfl | rfl
      · exact plainInsn_exc hpre (loadLdtr_bad (s := s.started) hp hc hr rfl hz hbad)
      · exact plainInsn_exc hpre (loadTr_bad (s := s.started) hp hc hr rfl hz hbad)
    · have hlldt := loadLdtr_desc (s := s.started) hp hc hr rfl hz hl (haddr.trans ha) hd
      have hltr := loadTr_desc (s := s.started) hp hc hr rfl hz hl (haddr.trans ha) hd
      have hexc (vec : Byte) : selExc u' vec sel = selExc s vec sel := (hdesc hd).selExc
      rw [← hexc, ← hexc]
      refine ⟨fun hkind => ?_, fun hkind habs => ?_, fun hkind hpres => ?_, fun hkind => ?_, fun hkind habs => ?_,
        fun hkind hpres hbusy => ?_⟩
      · exact plainInsn_exc hpre (hlldt.trans (if_neg hkind))
      · exact plainInsn_exc hpre (hlldt.trans ((if_pos hkind).trans (if_neg (Bool.eq_false_iff.mp habs))))
      · exact plainInsn_ok hpre (hlldt.trans ((if_pos hkind).trans (if_pos hpres)))
      · exact plainInsn_exc hpre (hltr.trans (if_neg hkind))
      · exact plainInsn_exc hpre (hltr.trans ((if_pos hkind).trans (if_neg (Bool.eq_false_iff.mp habs))))
      · exact plainInsn_ok hpre (hltr.trans ((if_pos hkind).trans ((if_pos hpres).trans (bind_ok hbusy))))
  case arpl =>
    intro sel rpl
    have hk := (modifyRM_keeps _ _).ok hr
    have hflags : u.flags = s.flags := hk.flags
    rw [← hflags]
    refine ⟨hk, fun hle => plainInsn_ok hpre (adjustRpl_keep (s := s.started) hp hr hle), fun hlt => ?_⟩
    obtain ⟨t, ht, hputs⟩ := putPlace_ok (u := { u with flags := { u.flags with ZF := true } }) (hk.wf hm)
      (modifyRM_place hr) ((selWithRpl sel rpl).setWidth 32)
    exact ⟨t, plainInsn_ok hpre ((adjustRpl_raise (s := s.started) hp hr hlt).trans ht), hputs⟩

end Sys2Proof.Claims
end

section
/-! PROOF. Stacks of other privilege levels: the room on them, the inner stack a TSS names, the return to an outer
level. -/

namespace Sys2Proof.Machine

open Sys2Proof.Claims

variable {s u u' v w w' : State} {level : BitVec 2} {x y g k n imm : Nat} {la sla ip : Word} {d sd : Desc}
variable {sel cs ss : Half} {e : Exc}

/-- Room for `k` items, as a statement about each of the slots below the top. -/
theorem room_iff_allowed (r : SegReg) (sp : Word) (g k : Nat) : r.room sp g k = true ↔
    ∀ j, 1 ≤ j → j ≤ k →
      Allowed r (if r.big then sp - BitVec.ofNat 32 (g * j) else (sp - BitVec.ofNat 32 (g * j)) &&& 0xFFFF#32) g
        false true := by
  simp only [room_iff, ← r.trunc_stackWidth, allows_iff]
  refine ⟨fun h j hj hk => ?_, fun h j hj => h (j + 1) (by omega) hj⟩
  obtain ⟨i, rfl⟩ := Nat.exists_eq_add_of_le' hj
  exact h i hk

theorem fetchDesc_keeps (bad : Byte) (sel : Half) : Preserves AccessKeeps (fetchDesc bad sel) :=
  .bind .trans (.get .refl) fun s => by
    cases s.descAddr sel with
    | none => exact fun s => .refl s
    | some la => exact .bind .trans (readDesc_keeps la) fun _ => .pure .refl _

theorem check_keeps {β : Type} {c : Prop} [Decidable c] {bad : Byte} {k : PUnit → M β}
    (hk : Preserves AccessKeeps (k ⟨⟩)) :
    Preserves AccessKeeps (if c then raiseSel bad sel >>= k else k ⟨⟩) :=
  .ite (.bind .trans (fun s => .refl s) fun _ => hk) hk

theorem stackDesc_keeps (bad : Byte) (sel : Half) (level : BitVec 2) :
    Preserves AccessKeeps (stackDesc bad sel level) :=
  .bind .trans (fetchDesc_keeps bad sel) fun (_, _) => check_keeps (check_keeps (.pure .refl _))

/-! ### The inner stack (42 R527, 20 R240) -/

/-- The stack pointer a stack starts with, and the state after it has been found: a word for a Big stack leaves the
upper half free (log 37). -/
theorem stackTop_eq (big : Bool) (n : Nat) (v : Word) (s : State) : stackTop big n v s =
    .ok (if big && decide (n = 2) then Config.free 16 s.draws ++ v.setWidth 16 else v)
      (if big && decide (n = 2) then { s with draws := s.draws + 1 } else s) := by
  by_cases h : (big && decide (n = 2)) = true
  · have h' : (big && n == 2) = true := by simpa using h
    simp [stackTop, h', h]
  · have h' : ¬(big && n == 2) = true := by simpa using h
    simp [stackTop, h', h]

theorem check_raiseCode {β : Type} {c good : Prop} [Decidable c] [Decidable good] {vec : Byte} {f : PUnit → M β}
    (h : c ↔ ¬good) : (if c then raiseCode vec 0#16 >>= f else f ⟨⟩) s =
      if good then f ⟨⟩ s else .error (.exc { gpZero s with vector := vec }) s := by
  by_cases hg : good
  · rw [if_neg (by simp [h, hg]), if_pos hg]
  · rw [if_pos (h.mpr hg), if_neg hg, bind_error (raiseCode_zero _ _)]

section
variable {o : Nat} (hn : (if s.tr.is386 then 4 else 2) = n) (ho : n + 2 * n * level.toNat = o)
include hn ho

theorem innerStack_outside (h : s.tr.limit.toNat < o + n + 1) :
    innerStack level g k s = .error (.exc (selExc s vecTS s.tr.selector)) s := by
  rw [innerStack, bind_ok (get_apply s)]
  simp only [hn, ho, h, if_true]
  exact bind_error (raiseSel_eq _ _ _)

variable (hl : o + n + 1 ≤ s.tr.limit.toNat) (hx : linRead (s.tr.base + BitVec.ofNat 32 o) n s = .ok x u)
  (hy : linRead (s.tr.base + BitVec.ofNat 32 (o + n)) 2 u = .ok y u')
include hl hx hy

theorem innerStack_null (hz : (BitVec.ofNat 16 y).toNat < 4) :
    innerStack level g k s = .error (.exc { gpZero u' with vector := vecTS }) u' := by
  rw [innerStack, bind_ok (get_apply s)]
  simp only [hn, ho, not_lt.mpr hl, if_false, bind_ok hx, bind_ok hy, selNull_iff.mpr hz, if_true]
  exact bind_error (raiseCode_zero _ _)

theorem innerStack_bad (hz : 4 ≤ (BitVec.ofNat 16 y).toNat)
    (hd : stackDesc vecTS (BitVec.ofNat 16 y) level u' = .error (.exc e) v) :
    innerStack level g k s = .error (.exc e) v := by
  rw [innerStack, bind_ok (get_apply s)]
  simp only [hn, ho, not_lt.mpr hl, if_false, bind_ok hx, bind_ok hy, selNull_eq_false hz, Bool.false_eq_true]
  exact bind_error hd

/-- The room on the stack is the last of its checks. -/
theorem innerStack_eq (hz : 4 ≤ (BitVec.ofNat 16 y).toNat)
    (hd : stackDesc vecTS (BitVec.ofNat 16 y) level u' = .ok (la, d) v) :
    let r := d.toReg (BitVec.ofNat 16 y) d.dpl
    let free := r.big && decide (n = 2)
    let esp : Word := if free then Config.free 16 v.draws ++ BitVec.ofNat 16 x else BitVec.ofNat 32 x
    let w : State := if free then { v with draws := v.draws + 1 } else v
    innerStack level g k s = if r.room esp g k = true then
        .ok { sel := BitVec.ofNat 16 y, la := la, desc := d, esp := esp, wide := s.tr.is386 } w
      else .error (.exc { gpZero w with vector := vecSS }) w := by
  intro r free esp w
  have htop : stackTop r.big n (BitVec.ofNat 32 x) v = .ok esp w := by
    rw [stackTop_eq, BitVec.setWidth_ofNat_of_le (by omega)]
  have hroom : (!r.room esp g k) = true ↔ ¬r.room esp g k = true := by simp
  rw [innerStack, bind_ok (get_apply s)]
  simp only [hn, ho, not_lt.mpr hl, if_false, bind_ok hx, bind_ok hy, selNull_eq_false hz, Bool.false_eq_true]
  refine (bind_ok hd).trans ((bind_ok htop).trans ?_)
  exact check_raiseCode hroom

end

/-! ### Loading a stack -/

theorem enterLevel_eq {t : InnerStack} (h : markAccessed t.la t.desc s = .ok () u) :
    let r := t.desc.toReg t.sel t.desc.dpl
    enterLevel level t s = .ok () (State.setReg
      { u with segs := { u.segs with ss := r, cs := { u.segs.cs with dpl := level } } }
      (if r.big then .w32 else .w16) .esp t.esp) := by
  have hput : putStackSeg t.sel t.la t.desc s =
      .ok () { u with segs := u.segs.set .ss (t.desc.toReg t.sel t.desc.dpl) } := putSeg_marked h
  rw [enterLevel, bind_ok hput]
  rfl

theorem loadCS_eq (h : markAccessed la d s = .ok () u) : loadCS cs la d level s = .ok () (withCS u cs d level) :=
  putSeg_marked h

theorem loadSP_eq (n : Nat) (sp : Word) (s : State) : loadSP n sp s = .ok () (withSP s n sp) := by
  rw [loadSP, bind_ok (get_apply s), bind_ok (stackTop_eq _ _ _ _), withSP]
  by_cases h : s.segs.ss.big = true ∧ n = 2
  · have hw : s.segs.ss.stackWidth = .w32 := if_pos h.1
    simp [h, State.stackWidth, hw]
  · simp [h]

theorem afterReturn_eq (r : SegReg) (level : BitVec 2) : r.afterReturn level = returned r level := by
  simp only [SegReg.afterReturn, returned, Bool.and_eq_true, Bool.not_eq_true', decide_eq_true_eq, and_assoc,
    ← Bool.not_eq_true]

theorem dropOuterSegs_eq (level : BitVec 2) (s : State) :
    dropOuterSegs level s = .ok () { s with segs := returnedSegs s.segs level } := by
  simp [dropOuterSegs, returnedSegs, afterReturn_eq]

/-! ### Far returns (42 R530, R531) -/

theorem returnDesc_null (hz : sel.toNat < 4) : returnDesc sel s = .error (.exc (gpZero s)) s := by
  rw [returnDesc, bind_ok (get_apply s), if_pos (selNull_iff.mpr hz), bind_error (raiseGP0_eq s)]

/-- A return to an inner level, and a selector outside its table. -/
theorem returnDesc_bad (hz : 4 ≤ sel.toNat) (h : selRpl sel < s.cpl ∨ s.descAddr sel = none) :
    returnDesc sel s = .error (.exc (selExc s vecGP sel)) s := by
  have hrpl : selRpl sel < s.cpl ↔ ¬s.cpl ≤ selRpl sel := BitVec.not_le.symm
  rw [returnDesc, bind_ok (get_apply s), selNull_eq_false hz, if_neg Bool.false_ne_true]
  refine (check_raiseSel hrpl).trans ?_
  split
  · rename_i hle
    exact bind_error (fetchDesc_none (h.resolve_left (BitVec.not_lt.mpr hle)))
  · rfl

theorem checkEip_ok {limit : Word} (h : ip ≤ limit) : checkEip limit ip s = .ok () s := by
  rw [checkEip, if_neg (BitVec.not_lt.mpr h)]
  rfl

theorem checkEip_beyond {limit : Word} (h : limit < ip) : checkEip limit ip s = .error (.exc (gpZero s)) s := by
  rw [checkEip, if_pos h, raiseGP0_eq]

theorem needBlock_ok (h : Allowed s.segs.ss s.sp k true false) : needBlock k s = .ok () s := by
  rw [needBlock, bind_ok (get_apply s), if_pos ((allows_iff _ _ _ _ _).mpr h)]
  rfl

theorem needBlock_denied (h : ¬Allowed s.segs.ss s.sp k true false) :
    needBlock k s = .error (.exc { gpZero s with vector := vecSS }) s := by
  rw [needBlock, bind_ok (get_apply s), if_neg ((allows_iff _ _ _ _ _).not.mpr h), raiseCode_zero]

theorem dropBytes_eq (k : Nat) (s : State) : dropBytes k s = .ok () (dropped s k) := rfl

theorem returnOuter_denied (h : ¬Allowed s.segs.ss s.sp (k + 2 * n) true false) :
    returnOuter n k imm cs ip la d s = .error (.exc { gpZero s with vector := vecSS }) s :=
  bind_error (needBlock_denied h)

section
variable {spw ssw : Word} (hroom : Allowed s.segs.ss s.sp (k + 2 * n) true false) (hsp : peek n k s = .ok spw u)
  (hss : peek n (k + n) u = .ok ssw u') (hsel : ssw.setWidth 16 = ss)
include hroom hsp hss hsel

theorem returnOuter_null (hz : ss.toNat < 4) :
    returnOuter n k imm cs ip la d s = .error (.exc (gpZero u')) u' := by
  rw [returnOuter, bind_ok (needBlock_ok hroom), bind_ok hsp, bind_ok hss, hsel, if_pos (selNull_iff.mpr hz),
    bind_error (raiseGP0_eq u')]

variable (hz : 4 ≤ ss.toNat)
include hz

theorem returnOuter_bad (hd : stackDesc vecGP ss (selRpl cs) u' = .error (.exc e) v) :
    returnOuter n k imm cs ip la d s = .error (.exc e) v := by
  rw [returnOuter, bind_ok (needBlock_ok hroom), bind_ok hsp, bind_ok hss, hsel, selNull_eq_false hz,
    if_neg Bool.false_ne_true]
  exact bind_error hd

variable (hd : stackDesc vecGP ss (selRpl cs) u' = .ok (sla, sd) v)
include hd

theorem returnOuter_beyond (h : d.limit < ip) :
    returnOuter n k imm cs ip la d s = .error (.exc (gpZero v)) v := by
  rw [returnOuter, bind_ok (needBlock_ok hroom), bind_ok hsp, bind_ok hss, hsel, selNull_eq_false hz,
    if_neg Bool.false_ne_true]
  exact (bind_ok hd).trans (bind_error (checkEip_beyond h))

/-- CS first, then SS and the stack pointer; the data segments go last. -/
theorem returnOuter_ok (h : ip ≤ d.limit) (hcs : markAccessed la d v = .ok () w)
    (hst : markAccessed sla sd (withCS w cs d (selRpl cs)) = .ok () w') :
    let a := dropped (withSP { w' with segs := { w'.segs with ss := sd.toReg ss sd.dpl } } n spw) imm
    returnOuter n k imm cs ip la d s =
      .ok () (State.jumped { a with segs := returnedSegs a.segs (selRpl cs) } ip) := by
  have hput : putStackSeg ss sla sd (withCS w cs d (selRpl cs)) =
      .ok () { w' with segs := w'.segs.set .ss (sd.toReg ss sd.dpl) } := putSeg_marked hst
  rw [returnOuter, bind_ok (needBlock_ok hroom), bind_ok hsp, bind_ok hss, hsel, selNull_eq_false hz,
    if_neg Bool.false_ne_true]
  refine (bind_ok hd).trans ((bind_ok (checkEip_ok h)).trans ((bind_ok (loadCS_eq hcs)).trans ?_))
  refine (bind_ok hput).trans ((bind_ok (loadSP_eq _ _ _)).trans ((bind_ok (dropBytes_eq _ _)).trans ?_))
  exact bind_ok (dropOuterSegs_eq _ _)

end

end Sys2Proof.Machine

namespace Sys2Proof.Claims

open Sys2Proof.Machine

/-- Settles O58, part by part, each by the checks in their order. -/
theorem stackSwitches : Obligations.StackSwitches := by
  refine ⟨fun s u bad sel level la d => ?segment, fun r s sp g k => ⟨rfl, room_iff_allowed r sp g k⟩,
    fun s u u' v level x y g k la d e => ?inner, fun s u level t hmark => ?enter, fun s u sel la d => ?code,
    fun s u u' v w w' n k imm cs ip la sla spw ssw d sd e => ?outer⟩
  case segment =>
    intro good
    refine ⟨stackDesc_none, fun ha hd => ⟨(readDesc_keeps _).ok hd, fun hbad => ?_, fun hok habs => ?_,
      fun hok hpres => ?_⟩⟩
    · exact (stackDesc_eq ha hd).trans (if_neg hbad)
    · exact (stackDesc_eq ha hd).trans ((if_pos hok).trans (if_neg (Bool.eq_false_iff.mp habs)))
    · exact (stackDesc_eq ha hd).trans ((if_pos hok).trans (if_pos hpres))
  case inner =>
    intro n o sel
    refine ⟨innerStack_outside rfl rfl, fun hl hx hy => ?_⟩
    have hk := ((linRead_keeps _ _).ok hx).trans ((linRead_keeps _ _).ok hy)
    refine ⟨fun hz => ?_, fun hz hd => innerStack_bad rfl rfl hl hx hy hz hd, fun hz hd => ?_⟩
    · rw [← hk.gpZero]
      exact innerStack_null rfl rfl hl hx hy hz
    · intro r free esp w
      have heq := innerStack_eq (g := g) (k := k) rfl rfl hl hx hy hz hd
      have hw : gpZero w = gpZero s := by
        rw [← (hk.trans ((stackDesc_keeps _ _ _).ok hd)).gpZero]
        simp only [w]
        split <;> rfl
      refine ⟨fun hno => ?_, fun hroom => heq.trans (if_pos hroom)⟩
      rw [← hw]
      exact heq.trans (if_neg (Bool.eq_false_iff.mp hno))
  case enter => exact ⟨(markAccessed_keeps _ _).ok hmark, enterLevel_eq hmark⟩
  case code =>
    intro rpl good
    refine ⟨returnDesc_null, returnDesc_bad, fun hz hr ha hd => ⟨fun hbad => ?_, fun hok habs => ?_,
      fun hok hpres => ?_⟩⟩
    · exact (returnDesc_eq ha hd hz hr).trans (if_neg hbad)
    · exact (returnDesc_eq ha hd hz hr).trans ((if_pos hok).trans (if_neg (Bool.eq_false_iff.mp habs)))
    · exact (returnDesc_eq ha hd hz hr).trans ((if_pos hok).trans (if_pos hpres))
  case outer =>
    intro level ss
    refine ⟨returnOuter_denied, fun hroom hsp hss => ?_⟩
    have hk := ((peek_keeps _ _).ok hsp).trans ((peek_keeps _ _).ok hss)
    refine ⟨fun hz => ?_, fun hz hd => returnOuter_bad hroom hsp hss rfl hz hd, fun hz hd => ⟨fun hlim => ?_,
      fun hlim hcs hst => returnOuter_ok hroom hsp hss rfl hz hd hlim hcs hst⟩⟩
    · rw [← hk.gpZero]
      exact returnOuter_null hroom hsp hss rfl hz
    · rw [← (hk.trans ((stackDesc_keeps _ _ _).ok hd)).gpZero]
      exact returnOuter_beyond hroom hsp hss rfl hz hd hlim

end Sys2Proof.Claims
end

section
/-! PROOF. The decoder reads back what the encoder writes. -/

namespace Sys2Proof

variable {z : Sizes} {i : Instr} {b : Byte} {op bs tail rest : List Byte} {x : BitVec 3} {rm : RM} {m : Mem} {v : ImmV}
  {r : RegNo}

/-! ### Opcode bytes, and what is read after them -/

/-- After the opcode bytes `op` the decoder goes on with `d`. -/
theorem decode_of_opcode (d : List Byte → Dec) (he : encode i = op ++ bs) (hd : ∀ bs, decode z (op ++ bs) = d bs)
    (h : d (bs ++ rest) = .ok (i, rest)) : decode z (encode i ++ rest) = .ok (i, rest) := by
  rw [he, List.append_assoc, hd, h]

theorem decode_of_decode1 (he : encode i = b :: bs)
    (h : decode1 (b.toNat / 16) (b.toNat % 16) z (bs ++ rest) = .ok (i, rest)) :
    decode z (encode i ++ rest) = .ok (i, rest) := decode_of_opcode (op := [b]) _ he (fun _ => rfl) h

theorem decode_of_decode0F (he : encode i = 0x0F#8 :: b :: bs)
    (h : decode0F (b.toNat / 16) (b.toNat % 16) z (bs ++ rest) = .ok (i, rest)) :
    decode z (encode i ++ rest) = .ok (i, rest) := decode_of_opcode (op := [0x0F#8, b]) _ he (fun _ => rfl) h

/-- ModRM with a register in it that is the source. -/
theorem decode_rmReg {f : RM → RegNo → Instr} (he : encode (f rm r) = op ++ encRM r.num rm)
    (hd : ∀ bs, decode z (op ++ bs) = withRM z bs fun x rm bs => .ok (f rm (.ofNum x), bs)) (h : rm.wf z = true) :
    decode z (encode (f rm r) ++ rest) = .ok (f rm r, rest) :=
  decode_of_opcode _ he hd ((withRM_enc h _).trans (by rw [RegNo.ofNum_num]))

/-- ModRM with a register in it that is the destination. -/
theorem decode_regRM {f : RegNo → RM → Instr} (he : encode (f r rm) = op ++ encRM r.num rm)
    (hd : ∀ bs, decode z (op ++ bs) = withRM z bs fun x rm bs => .ok (f (.ofNum x) rm, bs)) (h : rm.wf z = true) :
    decode z (encode (f r rm) ++ rest) = .ok (f r rm, rest) := decode_rmReg (f := fun rm r => f r rm) he hd h

/-- A field of one of the two sizes. -/
theorem decode_immV {f : ImmV → Instr} {big : Bool} (he : encode (f v) = op ++ encV v)
    (hd : ∀ bs, decode z (op ++ bs) = withV big bs fun v bs => .ok (f v, bs)) (h : v.wf big = true) :
    decode z (encode (f v) ++ rest) = .ok (f v, rest) := decode_of_opcode _ he hd (withV_enc h _)

/-- ModRM with an immediate after it. -/
theorem withRM_enc_append (h : rm.wf z = true) (k : BitVec 3 → RM → List Byte → Dec) :
    withRM z (encRM x rm ++ tail ++ rest) k = k x rm (tail ++ rest) := by
  rw [List.append_assoc, withRM_enc h]

/-! ### Opcode bytes that hold a field (30 R280) -/

theorem decode_movRIv (r : RegNo) : decode z (plus 0xB8#8 r.num4 :: bs) =
    withV z.op32 bs fun imm bs => .ok (.movRIv r imm, bs) := by cases r <;> rfl

theorem decode_jccJv (cc : Cond) : decode z (0x0F#8 :: plus 0x80#8 cc.num4 :: bs) =
    withV z.op32 bs fun rel bs => .ok (.jccJv cc rel, bs) := by cases cc <;> rfl

theorem decode_setccEb (cc : Cond) : decode z (0x0F#8 :: plus 0x90#8 cc.num4 :: bs) =
    withRM z bs fun _ rm bs => .ok (.setccEb cc rm, bs) := by cases cc <;> rfl

/-! ### ESC (45 R690) -/

section
variable {op : BitVec 3}

theorem decode_escByte (op : BitVec 3) (bs : List Byte) :
    decode z (plus 0xD8#8 (op.zeroExtend 4) :: bs) = decodeEsc op z bs := by
  have hop : op ∈ [0#3, 1#3, 2#3, 3#3, 4#3, 5#3, 6#3, 7#3] := by revert op; decide
  simp only [List.mem_cons, List.not_mem_nil, or_false] at hop
  rcases hop with rfl | rfl | rfl | rfl | rfl | rfl | rfl | rfl <;> rfl

theorem eq_ofNat_of_toNat {n : Nat} (h : x.toNat = n) : x = BitVec.ofNat 3 n := by
  rw [← h, BitVec.ofNat_toNat, BitVec.setWidth_eq]

theorem escMem_unnamed (h : escNamed op x (.mem m) = false) : escMem op x m = .esc op x (.mem m) := by
  unfold escMem
  split
  case h_11 => rfl
  all_goals
    rename_i hop hx
    rw [eq_ofNat_of_toNat hop, eq_ofNat_of_toNat hx] at h
    cases h

theorem escReg_unnamed (h : escNamed op x (.reg r) = false) : escReg op x r = .esc op x (.reg r) := by
  unfold escReg
  split
  case h_16 => rfl
  all_goals
    rename_i hop hx
    rw [eq_ofNat_of_toNat hop, eq_ofNat_of_toNat hx] at h
    cases h

end

/-! ### All instructions -/

/-- Every well-formed instruction is read back, whatever follows it. -/
theorem decode_encode (h : i.wf z = true) : decode z (encode i ++ rest) = .ok (i, rest) := by
  cases i
  -- ModRM with a general register in it.
  case movEbGb | movEvGv | xchgEbGb | xchgEvGv | testEbGb | testEvGv | addEbGb | addEvGv | orEbGb | orEvGv | adcEbGb |
      adcEvGv | sbbEbGb | sbbEvGv | subEbGb | subEvGv | andEbGb | andEvGv | cmpEbGb | cmpEvGv | xorEbGb | xorEvGv |
      arplEwGw | shldEvGvCl | shrdEvGvCl | btEvGv | btsEvGv | btrEvGv | btcEvGv =>
    exact decode_rmReg rfl (fun _ => rfl) h
  case movGbEb | movGvEv | addGbEb | addGvEv | orGbEb | orGvEv | adcGbEb | adcGvEv | sbbGbEb | sbbGvEv | subGbEb |
      subGvEv | andGbEb | andGvEv | cmpGbEb | cmpGvEv | xorGbEb | xorGvEv | movzxGvEb | movzxGvEw | movsxGvEb |
      movsxGvEw | bsfGvEv | bsrGvEv | imulGvEv | larGvEw | lslGvEw =>
    exact decode_regRM rfl (fun _ => rfl) h
  case shldEvGvIb | shrdEvGvIb => exact decode_of_decode0F rfl (by simp [decode0F, row0FA, withRM_enc h])
  case imulGvEvIb => exact decode_of_decode1 rfl (by simp [decode1, row6, withRM_enc h])
  case imulGvEvIv =>
    obtain ⟨hrm, himm⟩ := Bool.and_eq_true_iff.mp h
    exact decode_of_decode1 rfl (by simp [decode1, row6, withRM_enc hrm, withV_enc himm])
  -- ModRM with a segment, control, debug or test register in it; CS is no destination.
  case movEwSw => exact decode_of_decode1 rfl (by simp [decode1, row8, withRM_enc h, withSeg])
  case movSwEw =>
    obtain ⟨hrm, hseg⟩ := Bool.and_eq_true_iff.mp h
    exact decode_of_decode1 rfl (by simp_all [decode1, row8, withRM_enc hrm, withLoadSeg, withSeg])
  case movRdCd | movCdRd | movRdDd | movDdRd | movRdTd | movTdRd =>
    exact decode_of_decode0F rfl (by simp [decode0F, row0F2, encRM, withReg, withCr, withDr, withTr])
  -- Group 1, by opcode, and the other groups.
  case addEbIb | adcEbIb | subEbIb | sbbEbIb | cmpEbIb | andEbIb | orEbIb | xorEbIb =>
    exact decode_of_opcode (group80 z) (List.append_assoc ..) (fun _ => rfl) (withRM_enc_append h _)
  case addEvIv | adcEvIv | subEvIv | sbbEvIv | cmpEvIv | andEvIv | orEvIv | xorEvIv =>
    obtain ⟨hrm, himm⟩ := Bool.and_eq_true_iff.mp h
    exact decode_of_opcode (group81 z) (List.append_assoc ..) (fun _ => rfl)
      ((withRM_enc_append hrm _).trans (withV_enc himm _))
  case addEvIb | adcEvIb | subEvIb | sbbEvIb | cmpEvIb | andEvIb | orEvIb | xorEvIb =>
    exact decode_of_opcode (group83 z) (List.append_assoc ..) (fun _ => rfl) (withRM_enc_append h _)
  case popEv => exact decode_of_opcode (group8F z) rfl (fun _ => rfl) (withRM_enc h _)
  case rolEbIb | rorEbIb | rclEbIb | rcrEbIb | shlEbIb | shrEbIb | sarEbIb =>
    exact decode_of_opcode (groupC0 z) (List.append_assoc ..) (fun _ => rfl) (withRM_enc_append h _)
  case rolEvIb | rorEvIb | rclEvIb | rcrEvIb | shlEvIb | shrEvIb | sarEvIb =>
    exact decode_of_opcode (groupC1 z) (List.append_assoc ..) (fun _ => rfl) (withRM_enc_append h _)
  case movEbIb => exact decode_of_opcode (groupC6 z) (List.append_assoc ..) (fun _ => rfl) (withRM_enc_append h _)
  case movEvIv =>
    obtain ⟨hrm, himm⟩ := Bool.and_eq_true_iff.mp h
    exact decode_of_opcode (groupC7 z) (List.append_assoc ..) (fun _ => rfl)
      ((withRM_enc_append hrm _).trans (withV_enc himm _))
  case rolEb1 | rorEb1 | rclEb1 | rcrEb1 | shlEb1 | shrEb1 | sarEb1 =>
    exact decode_of_opcode (groupD0 z) rfl (fun _ => rfl) (withRM_enc h _)
  case rolEv1 | rorEv1 | rclEv1 | rcrEv1 | shlEv1 | shrEv1 | sarEv1 =>
    exact decode_of_opcode (groupD1 z) rfl (fun _ => rfl) (withRM_enc h _)
  case rolEbCl | rorEbCl | rclEbCl | rcrEbCl | shlEbCl | shrEbCl | sarEbCl =>
    exact decode_of_opcode (groupD2 z) rfl (fun _ => rfl) (withRM_enc h _)
  case rolEvCl | rorEvCl | rclEvCl | rcrEvCl | shlEvCl | shrEvCl | sarEvCl =>
    exact decode_of_opcode (groupD3 z) rfl (fun _ => rfl) (withRM_enc h _)
  case testEbIb => exact decode_of_opcode (groupF6 z) (List.append_assoc ..) (fun _ => rfl) (withRM_enc_append h _)
  case notEb | negEb | mulEb | imulEb | divEb | idivEb =>
    exact decode_of_opcode (groupF6 z) rfl (fun _ => rfl) (withRM_enc h _)
  case testEvIv =>
    obtain ⟨hrm, himm⟩ := Bool.and_eq_true_iff.mp h
    exact decode_of_opcode (groupF7 z) (List.append_assoc ..) (fun _ => rfl)
      ((withRM_enc_append hrm _).trans (withV_enc himm _))
  case notEv | negEv | mulEv | imulEv | divEv | idivEv =>
    exact decode_of_opcode (groupF7 z) rfl (fun _ => rfl) (withRM_enc h _)
  case incEb | decEb => exact decode_of_opcode (groupFE z) rfl (fun _ => rfl) (withRM_enc h _)
  case incEv | decEv | callEv | jmpEv | pushEv =>
    exact decode_of_opcode (groupFF z) rfl (fun _ => rfl) (withRM_enc h _)
  case callFarMp | jmpFarMp => exact decode_of_opcode (groupFF z) rfl (fun _ => rfl) (withRM_encMem h _)
  case sldtEw | strEw | lldtEw | ltrEw | verrEw | verwEw =>
    exact decode_of_opcode (group0F00 z) rfl (fun _ => rfl) (withRM_enc h _)
  case smswEw | lmswEw => exact decode_of_opcode (group0F01 z) rfl (fun _ => rfl) (withRM_enc h _)
  case sgdtMs | sidtMs | lgdtMs | lidtMs =>
    exact decode_of_opcode (group0F01 z) rfl (fun _ => rfl) (withRM_encMem h _)
  case btEvIb | btsEvIb | btrEvIb | btcEvIb =>
    exact decode_of_opcode (group0FBA z) (List.append_assoc ..) (fun _ => rfl) (withRM_enc_append h _)
  -- ModRM that names memory.
  case leaGvM | ldsGvMp | lesGvMp | boundGvMa =>
    exact decode_of_decode1 rfl (by simp [decode1, row6, row8, rowC, withMem_enc h])
  case lfsGvMp | lgsGvMp | lssGvMp => exact decode_of_decode0F rfl (by simp [decode0F, row0FB, withMem_enc h])
  -- An immediate, an offset or a displacement.
  case movAlOb | movEaxOv | movObAl | movOvEax | testEaxIv | pushIv | addEaxIv | orEaxIv | adcEaxIv | sbbEaxIv |
      subEaxIv | andEaxIv | cmpEaxIv | xorEaxIv | jmpJv | callJv => exact decode_immV rfl (fun _ => rfl) h
  case jmpFarAp | callFarAp => exact decode_of_decode1 rfl (by simp [decode1, row9, rowE, withV_enc h])
  case retIw | retfIw | enterIwIb => exact decode_of_decode1 rfl (by simp [decode1, rowC])
  -- An opcode byte with a register or a condition in it.
  case pushR r | popR r | movR8Ib r _ => cases r <;> rfl
  case movRIv => exact (decode_movRIv _).trans (withV_enc h _)
  case jccJb cc _ => cases cc <;> rfl
  case jccJv => exact (decode_jccJv _).trans (withV_enc h _)
  case setccEb => exact (decode_setccEb _).trans (withRM_enc h _)
  -- ESC: what has a row of its own, and every other encoding.
  case fnstswM | fnstcwM | fsaveM | frstorM | fstenvM | fldcwM | faddM32 | faddM64 | fmulM32 | fmulM64 =>
    exact decode_of_opcode (decodeEsc _ z) rfl (fun _ => rfl) (withRM_encMem h _)
  case esc op x rm =>
    obtain ⟨hrm, hnamed⟩ := Bool.and_eq_true_iff.mp h
    refine (decode_escByte op _).trans ((withRM_enc hrm _).trans ?_)
    rw [Bool.not_eq_true'] at hnamed
    cases rm with
    | reg r => simp only [escReg_unnamed hnamed]
    | mem m => simp only [escMem_unnamed hnamed]
  -- Nothing but opcode bytes.
  all_goals rfl

/-- Bytes that are the encoding of a well-formed instruction decode to it. -/
theorem decode_of_encode_eq (h : i.wf z = true) (he : encode i ++ rest = bs) : decode z bs = .ok (i, rest) :=
  he ▸ decode_encode h

end Sys2Proof

namespace Sys2Proof.Claims

/-- Settles O50. -/
theorem decodeEncode : Obligations.DecodeEncode := fun _ _ _ h => decode_encode h

/-- Settles O51: each word is the encoding of the instruction named, which is well-formed at these sizes. -/
theorem decodeWords : Obligations.DecodeWords :=
  ⟨decode_of_encode_eq rfl rfl, decode_of_encode_eq rfl rfl, decode_of_encode_eq rfl rfl, decode_of_encode_eq rfl rfl,
    decode_of_encode_eq rfl rfl, decode_of_encode_eq rfl rfl, decode_of_encode_eq rfl rfl, decode_of_encode_eq rfl rfl,
    decode_of_encode_eq rfl rfl, decode_of_encode_eq rfl rfl⟩

end Sys2Proof.Claims
end

section
/-! PROOF. What the prefixes note, those an instruction does not take, and the instructions that need CPL 0 or protected
mode. -/

namespace Sys2Proof.Machine

open Sys2Proof.Claims

variable {s : State} {i : Instr} {g : Insn → Insn} {body : M Unit} {lockable string : Bool}

/-! ### Prefixes (30 R252 to R261) -/

theorem exec_of_prefixes (h : Prefixes i g) : exec i s = .next { s with insn := g s.insn } := by
  cases h <;> rfl

/-- A LOCK the instruction does not take is an invalid opcode (30 R258). -/
theorem instruction_lock (hlock : s.insn.lock = true) (hrep : s.insn.rep = false) (hrepne : s.insn.repne = false)
    (h : lockable = false ∨ s.cpl ≠ 0#2 ∧ Config.lockNeedsCpl0 = true) :
    instruction lockable string body s = takeException (plainExc 6#8) (rollback s s) := by
  have hdenied : (!lockable || (s.cpl != 0#2 && Config.lockNeedsCpl0)) = true := by
    rcases h with rfl | ⟨hcpl, hconf⟩
    · rfl
    · simp [hcpl, hconf]
  have hcheck : checkPrefixes lockable string s = .error (.exc (plainExc 6#8)) s := by
    simp only [checkPrefixes, bind_apply, get_apply, ite_apply, hlock, hrep, hrepne, hdenied]
    rfl
  rw [instruction, bind_error hcheck]
  rfl

/-- REP before an instruction that is no string instruction is refused (30 R255; log 11). -/
theorem instruction_rep (hlock : s.insn.lock = false) (hrep : s.insn.rep = true) (hrepne : s.insn.repne = false) :
    instruction lockable false body s = .refused .repBeforeOther := by
  have hcheck : checkPrefixes lockable false s = .error (.refuse .repBeforeOther) s := by
    simp [checkPrefixes, hlock, hrep, hrepne]
  rw [instruction, bind_error hcheck]
  rfl

/-! ### Privilege (30 R312, 44 R660) -/

theorem needCpl0_denied (h : s.cpl ≠ 0#2) : needCpl0 s = .error (.exc (gpZero s)) s := by
  simp [needCpl0, h, raiseGP0_eq]

theorem needProtected_denied (h : s.protMode = false) : needProtected s = .error (.exc (plainExc 6#8)) s := by
  simp [needProtected, h, raiseUD, plainExc, vecUD]

section
variable (hpre : s.prefixOk false false)
include hpre

theorem exec_privileged (hc : s.cpl ≠ 0#2) (hi : Privileged i) :
    exec i s = takeException (gpZero s) (rollback s s.started) := by
  have hdenied := needCpl0_denied (s := s.started) hc
  cases hi
  case lgdt | lidt => exact plainInsn_exc hpre (bind_error (bind_error hdenied))
  all_goals exact plainInsn_exc hpre (bind_error hdenied)

theorem exec_protectedOnly (hp : s.protMode = false) (hi : ProtectedOnly i) :
    exec i s = takeException (plainExc 6#8) (rollback s s.started) := by
  have hdenied := needProtected_denied (s := s.started) hp
  cases hi
  case lar | lsl | verr | verw => exact plainInsn_exc hpre (bind_error (bind_error hdenied))
  all_goals exact plainInsn_exc hpre (bind_error hdenied)

theorem exec_loadSystemSel_denied {rm : RM} (hp : s.protMode = true) (hc : s.cpl ≠ 0#2)
    (hi : i = .lldtEw rm ∨ i = .ltrEw rm) : exec i s = takeException (gpZero s) (rollback s s.started) := by
  have hdenied := needCpl0_denied (s := s.started) hc
  have hprot := needProtected_ok (s := s.started) hp
  rcases hi with rfl | rfl <;> exact plainInsn_exc hpre ((bind_ok hprot).trans (bind_error hdenied))

end

end Sys2Proof.Machine

namespace Sys2Proof.Claims

open Sys2Proof.Machine

/-- Settles O40: the check of the privilege level, or of the mode, comes first. -/
theorem privilegedInstructionsTrap : Obligations.PrivilegedInstructionsTrap := fun _ _ hpre =>
  ⟨exec_privileged hpre, exec_protectedOnly hpre, fun _ => exec_loadSystemSel_denied hpre⟩

/-- Settles O17: what the prefixes note, then the check of the prefixes for each kind of instruction. -/
theorem prefixBytes : Obligations.PrefixBytes := by
  refine ⟨fun s i g => exec_of_prefixes, fun s n m hlock hrep hrepne => ⟨?lock, ?rep, fun hcpl m' => ?level⟩⟩
  case lock =>
    simp only [List.forall_mem_cons, List.not_mem_nil, false_imp_iff, implies_true, and_true]
    and_intros <;> exact instruction_lock hlock hrep hrepne (.inl rfl)
  case rep =>
    simp only [List.forall_mem_cons, List.not_mem_nil, false_imp_iff, implies_true, and_true]
    and_intros <;> exact instruction_rep rfl rfl hrepne
  case level =>
    cases hconf : Config.lockNeedsCpl0 with
    | false => exact fun _ _ => .inl rfl
    | true =>
      simp only [List.forall_mem_cons, List.not_mem_nil, false_imp_iff, implies_true, and_true]
      and_intros <;> exact .inr (instruction_lock hlock hrep hrepne (.inr ⟨hcpl, hconf⟩))

end Sys2Proof.Claims
end

section
/-! PROOF. The fetch of an instruction over RAM, byte by byte, and what a step makes of it. -/

namespace Sys2Proof.Machine

open Sys2Proof.Claims

variable {s t : State} {i p : Instr} {n : Insn} {g : Insn → Insn} {e : Exc} {bs : List Byte}

/-! ### Bytes of the code segment -/

/-- The `k` bytes that lie at offset `off` of the code segment, where linear addresses are physical. -/
def State.code (t : State) (off k : Nat) : List Byte :=
  (List.range' off k).map fun j => Memory.read t.mem (t.segs.cs.base + BitVec.ofNat 32 j).toNat

@[simp] theorem code_length (t : State) (off k : Nat) : (t.code off k).length = k := by simp [State.code]

theorem code_succ (t : State) (off k : Nat) :
    t.code off (k + 1) =
      Memory.read t.mem (t.segs.cs.base + BitVec.ofNat 32 off).toNat :: t.code (off + 1) k := by
  simp [State.code, List.range'_succ]

theorem code_add (t : State) (off j k : Nat) : t.code off (j + k) = t.code off j ++ t.code (off + j) k := by
  rw [State.code, ← List.range'_append_1, List.map_append]
  rfl

/-- The bytes `bs` lie where the next item starts, within the limit. -/
structure State.AtItem (t : State) (bs : List Byte) : Prop where
  inLimit : t.itemOff + bs.length ≤ t.segs.cs.limit.toNat + 1
  bytes : t.code t.itemOff bs.length = bs

theorem atItem_start (h : AtEip s bs) : { s with insn := Insn.start }.AtItem bs := by
  refine ⟨h.1, List.ext_getElem (by simp) fun k hk hk' => ?_⟩
  simpa [State.code, State.itemOff, Insn.start] using h.2 k hk'

/-- The bytes of an item come first, the others are those of the next one. -/
theorem State.AtItem.next {as : List Byte} (h : t.AtItem (as ++ bs)) (hn : n.len = t.insn.len + as.length) :
    t.AtItem as ∧ { t with insn := n }.AtItem bs := by
  obtain ⟨hlim, hcode⟩ := h
  rw [List.length_append] at hlim hcode
  obtain ⟨has, hbs⟩ := List.append_inj ((code_add t _ _ _).symm.trans hcode) (code_length ..)
  have hoff : ({ t with insn := n } : State).itemOff = t.itemOff + as.length := by
    simp only [State.itemOff, hn, Nat.add_assoc]
  exact ⟨⟨by omega, has⟩, ⟨by rw [hoff]; exact (Nat.add_assoc ..).trans_le hlim, by rw [hoff]; exact hbs⟩⟩

/-! ### Fetching them -/

/-- A context nothing but prefixes has been noted in. -/
structure Insn.Fresh (n : Insn) : Prop where
  oldMode : n.oldMode = none
  ext : n.ext = false
  kept : n.kept = []

/-- No paging, nothing cached or queued, nothing but RAM: the fetch finds the bytes memory holds. -/
structure State.FetchesRam (t : State) : Prop where
  paging : t.cr0.PG = false
  tlb : t.tlb = []
  staleBytes : t.staleBytes = []
  physMap : t.physMap = []
  fresh : t.insn.Fresh

theorem fetchByte_ram (h : t.FetchesRam) (off : Nat) :
    fetchByte off t =
      if off ≤ t.segs.cs.limit.toNat then
        .ok (Memory.read t.mem (t.segs.cs.base + BitVec.ofNat 32 off).toNat) t
      else .error (.exc gp0) t := by
  obtain ⟨hpg, htlb, hstale, hmap, hmode, hext, -⟩ := h
  have haddr (la : Word) : fetchAddr la t = .ok la t := by
    simp [fetchAddr, State.queuedFrames, hmode, translate, State.pgNow, hpg, State.tlbNow, State.oldPaging, htlb,
      chooseEntry]
  have hread (pa : Word) : physRead pa t = .ok (Memory.read t.mem pa.toNat) t :=
    physRead_ram (by rw [hmap]; rfl)
  have hgp : extBit t = 0#16 := by simp [extBit, hext]
  by_cases hl : off ≤ t.segs.cs.limit.toNat
  · simp [fetchByte, hl, haddr, hread, hstale, staleAt]
  · simp [fetchByte, hl, raiseGP0, hgp, gp0]

/-- The fetch ends after `k` bytes or at the limit. -/
theorem fetchBytes_ram (h : t.FetchesRam) (k off : Nat) :
    fetchBytes k off t = (t.code off (min k (t.segs.cs.limit.toNat + 1 - off)),
      if k ≤ t.segs.cs.limit.toNat + 1 - off then none else some (.exc gp0), t) := by
  induction k generalizing off with
  | zero => simp [fetchBytes, State.code]
  | succ k ih =>
    rw [fetchBytes, fetchByte_ram h]
    by_cases hl : off ≤ t.segs.cs.limit.toNat
    · have hroom : t.segs.cs.limit.toNat + 1 - off = t.segs.cs.limit.toNat + 1 - (off + 1) + 1 := by omega
      simp only [hl, if_true, ih, hroom, Nat.add_min_add_right, code_succ, consByte, Nat.add_le_add_iff_right]
    · have hroom : t.segs.cs.limit.toNat + 1 - off = 0 := by omega
      simp [hl, hroom, State.code]

/-- The bytes the decoder is given for the next item. -/
def State.fetched (t : State) : List Byte :=
  t.code t.itemOff (min (Config.maxInsnLen - t.insn.len) (t.segs.cs.limit.toNat + 1 - t.itemOff))

/-- The state after an item of `k` bytes. -/
def State.consumed (t : State) (k : Nat) : State := { t with insn := { t.insn with len := t.insn.len + k } }

theorem fetchItem_ok {rest : List Byte} (h : t.FetchesRam) (hd : decode t.sizes t.fetched = .ok (i, rest)) :
    fetchItem t = .item i (t.consumed (t.fetched.length - rest.length)) := by
  simp only [State.fetched] at hd
  simp only [fetchItem, afterFetch, fetchBytes_ram h, hd]
  rfl

theorem fetchItem_invalid {rest : List Byte} (h : t.FetchesRam)
    (hd : decode t.sizes t.fetched = .error (.invalid rest)) :
    fetchItem t = .stop (.exc ud) (t.consumed (t.fetched.length - rest.length)) := by
  simp only [State.fetched] at hd
  simp only [fetchItem, afterFetch, fetchBytes_ram h, hd]
  rfl

theorem fetchItem_short (h : t.FetchesRam) (hd : decode t.sizes t.fetched = .error .short) :
    fetchItem t = .stop (.exc gp0) t := by
  simp only [State.fetched] at hd
  simp only [fetchItem, fetchBytes_ram h, hd]
  split <;> rfl

theorem fetched_append (hat : t.AtItem bs) (hlen : t.insn.len + bs.length ≤ Config.maxInsnLen) :
    ∃ more, t.fetched = bs ++ more := by
  obtain ⟨hlim, hcode⟩ := hat
  obtain ⟨j, hj⟩ : ∃ j, min (Config.maxInsnLen - t.insn.len) (t.segs.cs.limit.toNat + 1 - t.itemOff) = bs.length + j :=
    Nat.exists_eq_add_of_le (by omega)
  exact ⟨_, by rw [State.fetched, hj, code_add, hcode]⟩

/-- Where the fetch can go no further, the bytes are all there is. -/
theorem fetched_eq (hat : t.AtItem bs) (hlen : t.insn.len + bs.length ≤ Config.maxInsnLen)
    (hend : t.insn.len + bs.length = Config.maxInsnLen ∨ t.segs.cs.limit.toNat + 1 = t.itemOff + bs.length) :
    t.fetched = bs := by
  obtain ⟨hlim, hcode⟩ := hat
  have hmin : min (Config.maxInsnLen - t.insn.len) (t.segs.cs.limit.toNat + 1 - t.itemOff) = bs.length := by omega
  rw [State.fetched, hmin, hcode]

/-- An item whose bytes decode to it, whatever follows them. -/
theorem fetchItem_decoded (h : t.FetchesRam) (hat : t.AtItem bs) (hlen : t.insn.len + bs.length ≤ Config.maxInsnLen)
    (hd : ∀ rest, decode t.sizes (bs ++ rest) = .ok (i, rest)) : fetchItem t = .item i (t.consumed bs.length) := by
  obtain ⟨more, hf⟩ := fetched_append hat hlen
  rw [fetchItem_ok h ((congrArg _ hf).trans (hd more)), hf, List.length_append, Nat.add_sub_cancel]

/-! ### Prefixes -/

theorem prefixes_note (hp : isPrefix p = true) : Prefixes p (note p) := by
  cases p
  case opSizePrefix => exact .opSize
  case addrSizePrefix => exact .adSize
  case lockPrefix => exact .lock
  case repPrefix => exact .rep
  case repnePrefix => exact .repne
  case esPrefix => exact .es
  case csPrefix => exact .cs
  case ssPrefix => exact .ss
  case dsPrefix => exact .ds
  case fsPrefix => exact .fs
  case gsPrefix => exact .gs
  all_goals cases hp

theorem encode_length_of_prefixes (hp : Prefixes p g) : (encode p).length = 1 := by cases hp <;> rfl

theorem wf_of_prefixes (hp : Prefixes p g) (z : Sizes) : p.wf z = true := by cases hp <;> rfl

/-- The context after one of them. -/
def Insn.noting (n : Insn) (p : Instr) : Insn := { note p n with len := n.len + 1 }

theorem prefixes_len (hp : Prefixes p g) (n : Insn) :
    g { n with len := n.len + 1 } = { g n with len := n.len + 1 } := by
  cases hp <;> rfl

theorem Insn.Fresh.noting (h : n.Fresh) (hp : isPrefix p = true) : (n.noting p).Fresh := by
  obtain ⟨hmode, hext, hkept⟩ := h
  have hg := prefixes_note hp
  unfold Insn.noting
  generalize note p = g at hg
  cases hg <;> exact ⟨hmode, hext, hkept⟩

theorem foldl_noting_fresh {ps : List Instr} (hps : ∀ p ∈ ps, isPrefix p = true) (h : n.Fresh) :
    (ps.foldl Insn.noting n).Fresh := by
  induction ps generalizing n with
  | nil => exact h
  | cons p ps ih =>
    obtain ⟨hp, hps⟩ := List.forall_mem_cons.mp hps
    exact ih hps (h.noting hp)

theorem foldl_noting_len (ps : List Instr) (n : Insn) : (ps.foldl Insn.noting n).len = n.len + ps.length := by
  induction ps generalizing n with
  | nil => rfl
  | cons p ps ih => rw [List.foldl_cons, ih, List.length_cons, Nat.add_comm ps.length, ← Nat.add_assoc]; rfl

theorem State.FetchesRam.withInsn (h : t.FetchesRam) (hn : n.Fresh) : { t with insn := n }.FetchesRam :=
  ⟨h.paging, h.tlb, h.staleBytes, h.physMap, hn⟩

/-- The fetch of an instruction goes on after its prefixes, which it has noted. -/
theorem fetchInsn_prefixes {ps : List Instr} (hps : ∀ p ∈ ps, isPrefix p = true) (h : t.FetchesRam)
    (hat : t.AtItem (ps.flatMap encode ++ bs)) (hlen : t.insn.len + ps.length ≤ Config.maxInsnLen) (k : Nat) :
    fetchInsn (ps.length + k) t = fetchInsn k { t with insn := ps.foldl Insn.noting t.insn } ∧
      { t with insn := ps.foldl Insn.noting t.insn }.AtItem bs := by
  induction ps generalizing t with
  | nil => exact ⟨by rw [List.length_nil, Nat.zero_add]; rfl, hat⟩
  | cons p ps ih =>
    obtain ⟨hp, hps⟩ := List.forall_mem_cons.mp hps
    have hnote := prefixes_note hp
    have hone := encode_length_of_prefixes hnote
    rw [List.flatMap_cons, List.append_assoc] at hat
    rw [List.length_cons] at hlen
    obtain ⟨hbyte, hrest⟩ := hat.next (n := t.insn.noting p) (by rw [hone]; rfl)
    have hlen' : (t.insn.noting p).len + ps.length ≤ Config.maxInsnLen := by
      simp only [Insn.noting]
      omega
    have hitem : fetchItem t = .item p (t.consumed 1) :=
      hone ▸ fetchItem_decoded h hbyte (by omega) fun _ => decode_encode (wf_of_prefixes hnote _)
    have hexec : exec p (t.consumed 1) = .next { t with insn := t.insn.noting p } :=
      (exec_of_prefixes hnote).trans (by rw [State.consumed, prefixes_len hnote]; rfl)
    have hstep : fetchInsn (ps.length + 1 + k) t = fetchInsn (ps.length + k) { t with insn := t.insn.noting p } := by
      rw [Nat.add_right_comm, fetchInsn, hitem]
      simp only [hp, if_true, hexec]
    obtain ⟨heq, hnext⟩ := ih hps (h.withInsn (h.fresh.noting hp)) hrest hlen'
    exact ⟨hstep.trans heq, hnext⟩

theorem fetchInsn_item (hi : isPrefix i = false) (h : fetchItem s = .item i t) (k : Nat) :
    fetchInsn (k + 1) s = .item i t := by
  simp [fetchInsn, h, hi]

theorem fetchInsn_stop {x : Stop} (h : fetchItem s = .stop x t) (k : Nat) : fetchInsn (k + 1) s = .stop x t := by
  rw [fetchInsn, h]

/-! ### The step of a quiet machine -/

theorem quiet_offer (h : Quiet s) : s.offer = none := by
  obtain ⟨-, -, hdb, hnmi, hintr, hbreaks, -⟩ := h
  simp [State.offer, hdb, hbreaks, State.nmiReady, hnmi, State.intrReady, hintr]

theorem quiet_ram (h : Quiet s) : { s with insn := Insn.start }.FetchesRam := by
  obtain ⟨-, -, -, -, -, -, hpg, htlb, hstale, -, -, hmap⟩ := h
  exact ⟨hpg, htlb, hstale, hmap, ⟨rfl, rfl, rfl⟩⟩

theorem quiet_repeating (h : Quiet s) : s.repeating = none := by
  obtain ⟨-, -, -, -, -, -, -, -, -, -, hrep, -⟩ := h
  exact hrep

theorem step_quiet (h : Quiet s) : step s = runInstruction s := by
  have hoffer := quiet_offer h
  obtain ⟨hrun, hreset, -⟩ := h
  simp [step, cycle, hreset, hrun, runningBoundary, hoffer]

theorem chooseMode_quiet (h : Quiet s) : chooseMode { s with insn := Insn.start } = { s with insn := Insn.start } := by
  obtain ⟨-, -, -, -, -, -, -, -, -, hmodes, -⟩ := h
  simp [chooseMode, State.queuedModes, hmodes]

theorem noted_fresh {ps : List Instr} (hps : ∀ p ∈ ps, isPrefix p = true) : (noted ps).Fresh :=
  foldl_noting_fresh hps ⟨rfl, rfl, rfl⟩

theorem noted_len (ps : List Instr) : (noted ps).len = ps.length := (foldl_noting_len ps _).trans (Nat.zero_add _)

theorem nextInsn_prefixes {ps : List Instr} (h : Quiet s) (hps : ∀ p ∈ ps, isPrefix p = true)
    (hlen : ps.length ≤ Config.maxInsnLen) (hat : AtEip s (ps.flatMap encode ++ bs)) :
    ∃ k, { s with insn := Insn.start }.nextInsn = fetchInsn (k + 1) { s with insn := noted ps } ∧
      { s with insn := noted ps }.AtItem bs := by
  obtain ⟨hfetch, hitem⟩ := fetchInsn_prefixes hps (quiet_ram h) (atItem_start hat) ((Nat.zero_add _).trans_le hlen)
    (Config.maxInsnLen - ps.length + 1)
  rw [← Nat.add_assoc, Nat.add_sub_cancel' hlen] at hfetch
  exact ⟨_, hfetch, hitem⟩

/-- A quiet machine fetches an instruction and runs it, or takes the fault of the fetch. -/
theorem step_item (h : Quiet s) (hf : { s with insn := Insn.start }.nextInsn = .item i t) : step s = exec i t := by
  rw [step_quiet h, runInstruction]
  split
  next hrep => rw [quiet_repeating h] at hrep; cases hrep
  next => rw [chooseMode_quiet h, hf]

theorem step_exc (h : Quiet s) (hf : { s with insn := Insn.start }.nextInsn = .stop (.exc e) { s with insn := n })
    (hn : n.kept = []) : step s = takeException e (idled s) := by
  have hroll : rollback { s with insn := n } { s with insn := n } = idled s := by simp [rollback, hn, keepBits, idled]
  rw [step_quiet h, runInstruction]
  split
  next hrep => rw [quiet_repeating h] at hrep; cases hrep
  next => simp only [chooseMode_quiet h, hf, settle, hroll]

end Sys2Proof.Machine

namespace Sys2Proof.Claims

open Sys2Proof.Machine

/-- Settles O52: the prefixes are fetched one by one, then the bytes after them as one item. -/
theorem stepRunsDecoded : Obligations.StepRunsDecoded := by
  intro s hs
  have hram := quiet_ram hs
  refine ⟨fun hlim => ?beyond, fun ps bs hps hlen hat => ?_⟩
  case beyond =>
    have hnone : ({ s with insn := Insn.start } : State).fetched = [] := by
      have hroom : s.segs.cs.limit.toNat + 1 - s.eip.toNat = 0 := by bv_omega
      simp [State.fetched, State.itemOff, Insn.start, hroom, State.code]
    have hitem := fetchItem_short hram (by rw [hnone]; rfl)
    exact step_exc hs (fetchInsn_stop hitem _) rfl
  obtain ⟨k, hnext, hitem⟩ := nextInsn_prefixes hs hps (le_trans (Nat.le_add_right _ _) hlen) hat
  have hram' : { s with insn := noted ps }.FetchesRam := hram.withInsn (noted_fresh hps)
  have hkept := (noted_fresh hps).kept
  have hroom : (noted ps).len + bs.length ≤ Config.maxInsnLen := by rwa [noted_len]
  refine ⟨fun i hi hd => ?item, fun hd => ?invalid, fun hd hend => ?short⟩
  case item =>
    rw [← noted_len ps]
    exact step_item hs (hnext.trans (fetchInsn_item hi (fetchItem_decoded hram' hitem hroom hd) k))
  case invalid =>
    obtain ⟨more, hmore⟩ := fetched_append hitem hroom
    obtain ⟨rest', hd⟩ := hd more
    rw [← hmore] at hd
    exact step_exc hs (hnext.trans (fetchInsn_stop (fetchItem_invalid hram' hd) k)) hkept
  case short =>
    rw [← noted_len ps] at hend
    rw [← fetched_eq hitem hroom hend] at hd
    exact step_exc hs (hnext.trans (fetchInsn_stop (fetchItem_short hram' hd) k)) hkept

end Sys2Proof.Claims
end

section
/-! PROOF. Moves that need no memory: the values conversions put in registers, and the effective address as a sum. -/

namespace Sys2Proof.Machine

open Sys2Proof.Claims

variable {s : State} {i : Instr} {w : Width} {n : RegNo} {v x y : Word}

/-! ### Size attributes -/

theorem opWidth_w16 (h : s.sizes.op32 = false) : s.opWidth = .w16 := by simp [State.opWidth, h]

theorem opWidth_w32 (h : s.sizes.op32 = true) : s.opWidth = .w32 := by simp [State.opWidth, h]

theorem op32_of_w16 (h : s.opWidth = .w16) : s.sizes.op32 = false := by
  cases hop : s.sizes.op32 with
  | false => rfl
  | true => simp [opWidth_w32 hop] at h

theorem op32_of_w32 (h : s.opWidth = .w32) : s.sizes.op32 = true := by
  cases hop : s.sizes.op32 with
  | false => simp [opWidth_w16 hop] at h
  | true => rfl

/-- An operand size is 16 or 32 bits. -/
theorem opWidth_cases (s : State) : s.opWidth = .w16 ∨ s.opWidth = .w32 := by
  cases hop : s.sizes.op32 with
  | false => exact .inl (opWidth_w16 hop)
  | true => exact .inr (opWidth_w32 hop)

/-! ### Conversions (40 R352 to R354) -/

/-- A write to a register takes the bits of its width only. -/
theorem State.setReg_congr (s : State) (n : RegNo) (h : w.trunc x = w.trunc y) :
    s.setReg w n x = s.setReg w n y := by
  rw [State.setReg, ← s.regs.write_trunc w n x, h, s.regs.write_trunc]
  rfl

theorem setWidth_low_byte (v : Word) : (v &&& 0xFF#32).setWidth 8 = v.setWidth 8 := by
  refine BitVec.eq_of_getLsbD_eq fun i hi => ?_
  interval_cases i <;> simp

theorem setWidth_low_half (v : Word) : (v &&& 0xFFFF#32).setWidth 16 = v.setWidth 16 := by
  refine BitVec.eq_of_getLsbD_eq fun i hi => ?_
  interval_cases i <;> simp

/-- Sign extension to 16 bits is the lower half of sign extension to 32. -/
theorem trunc_signExtend_byte (b : Byte) :
    Width.w16.trunc (b.signExtend 32) = Width.w16.trunc ((b.signExtend 16).setWidth 32) := by
  refine word_ext fun i hi => ?_
  interval_cases i <;> simp [Width.trunc, bit, BitVec.getElem_signExtend]

theorem convertByte_cbw (h : s.sizes.op32 = false) : convertByte s =
    .ok () (s.setReg .w16 .eax (((s.regs.eax.setWidth 8).signExtend 16).setWidth 32)) := by
  have hlow : s.reg .w8 .eax = s.regs.eax &&& 0xFF#32 := rfl
  rw [s.setReg_congr .eax (trunc_signExtend_byte _).symm]
  simp only [convertByte, bind_ok (get_apply s), h, hlow, Width.sext, setWidth_low_byte]
  rfl

theorem convertByte_cwde (h : s.sizes.op32 = true) : convertByte s =
    .ok () (s.setReg .w32 .eax ((s.regs.eax.setWidth 16).signExtend 32)) := by
  have hlow : s.reg .w16 .eax = s.regs.eax &&& 0xFFFF#32 := rfl
  simp only [convertByte, bind_ok (get_apply s), h, hlow, Width.sext, setWidth_low_half]
  rfl

theorem convertWord_cwd (h : s.sizes.op32 = false) : convertWord s =
    .ok () (s.setReg .w16 .edx (if bit s.regs.eax 15 then 0xFFFF#32 else 0#32)) := by
  have hsign : Width.w16.msb (s.reg .w16 .eax) = bit s.regs.eax 15 := by
    simp [Width.msb, Width.bits, bit, State.reg, Regs.read, Regs.get]
  simp only [convertWord, bind_ok (get_apply s), setReg_apply, opWidth_w16 h, hsign]
  rw [s.setReg_congr .edx]
  cases bit s.regs.eax 15 <;> rfl

theorem convertWord_cdq (h : s.sizes.op32 = true) : convertWord s =
    .ok () (s.setReg .w32 .edx (if bit s.regs.eax 31 then 0xFFFFFFFF#32 else 0#32)) := by
  simp only [convertWord, bind_ok (get_apply s), setReg_apply, opWidth_w32 h]
  rfl

/-- The low byte of EFLAGS, as LAHF stores it (10 R36). -/
theorem Flags.toWord_low_byte (f : Flags) : f.toWord &&& 0xFF#32 =
    0#24 ++ BitVec.ofBool f.SF ++ BitVec.ofBool f.ZF ++ 0#1 ++ BitVec.ofBool f.AF ++ 0#1 ++ BitVec.ofBool f.PF ++
      1#1 ++ BitVec.ofBool f.CF := by
  refine word_ext fun i hi => ?_
  have hbit := f.bit_toWord hi
  rw [bit, BitVec.getLsbD_and, ← bit, hbit]
  show _ = @BitVec.getLsbD (24 + 1 + 1 + 1 + 1 + 1 + 1 + 1 + 1) _ i
  simp only [BitVec.getLsbD_append]
  interval_cases i <;> simp [Flags.bits]

/-! ### What the instructions put in a register -/

/-- Each of the instructions runs a body that only writes its register. -/
theorem exec_setsReg (h : SetsReg s i w n v) :
    ∃ body, exec i s = plainInsn body s ∧ body s.started = .ok () (s.started.setReg w n v) := by
  cases h with
  | cbw hop => exact ⟨_, rfl, convertByte_cbw hop⟩
  | cwde hop => exact ⟨_, rfl, convertByte_cwde hop⟩
  | cwd hop => exact ⟨_, rfl, convertWord_cwd hop⟩
  | cdq hop => exact ⟨_, rfl, convertWord_cdq hop⟩
  | lahf =>
    refine ⟨_, rfl, ?_⟩
    rw [← Flags.toWord_low_byte]
    rfl
  | _ => exact ⟨_, rfl, rfl⟩

/-! ### The effective address (30 R271 to R273) -/

theorem word_eq_ofInt (v : Word) : v = BitVec.ofInt 32 v.toNat := by
  rw [BitVec.ofInt_natCast, BitVec.ofNat_toNat, BitVec.setWidth_eq]

theorem signExtend_eq_ofInt (d : Byte) : d.signExtend 32 = BitVec.ofInt 32 d.toInt := rfl

theorem dispWord_eq (d : Disp 16) : dispWord d = BitVec.ofInt 32 (dispValue d) := by
  cases d with
  | none => rfl
  | d8 d => exact signExtend_eq_ofInt d
  | full d =>
    show d.setWidth 32 = BitVec.ofInt 32 d.toNat
    rw [BitVec.ofInt_natCast, BitVec.ofNat_toNat]

theorem dispWord32_eq (d : Disp 32) : dispWord32 d = BitVec.ofInt 32 (dispValue d) := by
  cases d with
  | none => rfl
  | d8 d => exact signExtend_eq_ofInt d
  | full d => exact word_eq_ofInt d

theorem Regs.base16_eq (r : Regs) (b : Ea16) :
    r.base16 b = BitVec.ofInt 32 ((ea16Regs b).map fun n => ((r.get n).toNat : Int)).sum := by
  cases b <;> simp [Regs.base16, ea16Regs, Regs.get, BitVec.ofInt_add]

theorem Regs.index_eq (r : Regs) (scale : BitVec 2) (n : RegNo) :
    r.index scale n = BitVec.ofInt 32 (indexValue r scale n) := by
  have hshift (v : Word) : v <<< scale.toNat = BitVec.ofInt 32 (v.toNat * 2 ^ scale.toNat : Nat) := by
    rw [BitVec.ofInt_natCast]
    refine BitVec.eq_of_toNat_eq ?_
    rw [BitVec.toNat_shiftLeft, Nat.shiftLeft_eq, BitVec.toNat_ofNat]
  cases n with
  | esp => rfl
  | _ => exact hshift _

theorem toNat_ofInt_word (z : Int) : ((BitVec.ofInt 32 z).toNat : Int) = z % 2 ^ 32 := by
  rw [BitVec.toNat_ofInt]
  omega

theorem Regs.offset_eq (r : Regs) (m : Mem) : ((r.offset m).toNat : Int) = eaValue r m := by
  cases m with
  | ind16 b d =>
    have hlow := Width.trunc_w16_toNat (r.base16 b + dispWord d)
    have hsum := toNat_ofInt_word (((ea16Regs b).map fun n => ((r.get n).toNat : Int)).sum + dispValue d)
    rw [BitVec.ofInt_add, ← r.base16_eq, ← dispWord_eq] at hsum
    show ((Width.w16.trunc (r.base16 b + dispWord d)).toNat : Int) = _ % 2 ^ 16
    omega
  | dir16 off =>
    have hoff := off.isLt
    show ((off.setWidth 32).toNat : Int) = off.toNat
    rw [BitVec.toNat_setWidth, Nat.mod_eq_of_lt (by omega)]
  | ind32 b d =>
    show ((r.get b + dispWord32 d).toNat : Int) = ((r.get b).toNat + dispValue d) % 2 ^ 32
    rw [← toNat_ofInt_word, BitVec.ofInt_add, ← word_eq_ofInt, ← dispWord32_eq]
  | dir32 off => rfl
  | sib scale index b d =>
    show ((r.get b + r.index scale index + dispWord32 d).toNat : Int) =
      ((r.get b).toNat + indexValue r scale index + dispValue d) % 2 ^ 32
    rw [← toNat_ofInt_word, BitVec.ofInt_add, BitVec.ofInt_add, ← word_eq_ofInt, ← r.index_eq, ← dispWord32_eq]
  | sibDisp scale index off =>
    show ((r.index scale index + off).toNat : Int) = (indexValue r scale index + off.toNat) % 2 ^ 32
    rw [← toNat_ofInt_word, BitVec.ofInt_add, ← word_eq_ofInt, ← r.index_eq]

theorem defaultSeg_eq (m : Mem) : defaultSeg m = if stackBased m then .ss else .ds := by
  cases m with
  | ind16 b d | ind32 b d | sib scale index b d => cases b <;> rfl
  | _ => rfl

end Sys2Proof.Machine

namespace Sys2Proof.Claims

open Sys2Proof.Machine

/-- Settles O1: a body that writes the register, and the address as the sum the model's words represent. -/
theorem registerMovesComplete : Obligations.RegisterMovesComplete := by
  refine ⟨fun s i w n v hi hpre => ?moves, fun s m => ⟨s.regs.offset_eq m, ?segment⟩⟩
  case moves =>
    obtain ⟨body, hexec, hbody⟩ := exec_setsReg hi
    rw [hexec]
    exact plainInsn_ok hpre hbody
  case segment => rw [← defaultSeg_eq]; rfl

end Sys2Proof.Claims
end

section
/-! PROOF. Loads, stores and exchanges: what MOV, MOVZX, MOVSX, XLAT, SETcc and XCHG answer from their accesses. -/

namespace Sys2Proof.Machine

open Sys2Proof.Claims

variable {s u : State} {i : Instr} {w w' : Width} {n : RegNo} {rm : RM} {sg : SegNo} {off v : Word} {p : Place}
  {x : Nat}

/-! ### Loads (40 R330, R334, R337, R338, R351) -/

theorem exec_loadsRM {f : Word → Word} (h : LoadsRM s i w n w' rm f) :
    exec i s = plainInsn (readRM w' rm >>= fun v => setReg w n (f v)) s := by
  cases h <;> rfl

theorem memReadW_ok (h : memRead sg off w.bytes s = .ok x u) : memReadW w sg off s = .ok (BitVec.ofNat 32 x) u :=
  bind_ok h

/-- The bodies load the accumulator from the bytes at their own address. -/
theorem exec_loadsAcc (h : LoadsAcc s i w sg off) (hx : memRead sg off w.bytes s.started = .ok x u) :
    ∃ body, exec i s = plainInsn body s ∧ body s.started = .ok () (u.setReg w .eax (BitVec.ofNat 32 x)) := by
  have hv := memReadW_ok hx
  cases h <;> exact ⟨_, rfl, (bind_ok (get_apply _)).trans (bind_ok hv)⟩

/-! ### Stores (40 R330, R332, R334, R358) -/

theorem exec_storesMem (h : StoresMem s i w sg off v) :
    ∃ body, exec i s = plainInsn body s ∧ body s.started = memWriteW w sg off v s.started := by
  cases h <;> exact ⟨_, rfl, rfl⟩

/-! ### Exchanges (40 R339) -/

theorem exec_exchanges (h : Exchanges s i w rm n) (hpre : s.prefixOk rm.isMem false)
    (hbody : xchgRM w rm n s.started = .ok () u) : exec i s = .next (complete s u.advanced) := by
  cases h <;> exact lockInsn_ok hpre hbody

/-- The register takes what the place held once the place has taken what the register held. -/
theorem xchgRM_ok {t : State} (hx : modifyRM w rm s = .ok (p, v) u) (hp : putPlace w p (u.reg w n) u = .ok () t) :
    xchgRM w rm n s = .ok () (t.setReg w n v) :=
  (bind_ok hx).trans ((bind_ok getReg_apply).trans (bind_ok hp))

end Sys2Proof.Machine

namespace Sys2Proof.Claims

open Sys2Proof.Machine

/-- Settles O2: the access gives the value, and a register write ends the instruction. -/
theorem loadsComplete : Obligations.LoadsComplete := by
  refine ⟨fun s u i w v n rm f x hi hpre hx => ⟨?_, (readRM_keeps _ _).ok hx⟩,
    fun s u i w sg off x hi hpre hx => ⟨?_, (memRead_keeps _ _ _).ok hx⟩⟩
  · rw [exec_loadsRM hi]
    exact plainInsn_ok hpre (bind_ok hx)
  · obtain ⟨body, hexec, hbody⟩ := exec_loadsAcc hi hx
    rw [hexec]
    exact plainInsn_ok hpre hbody

/-- Settles O3: where the addresses are found, the store of the value completes. -/
theorem storesComplete : Obligations.StoresComplete := by
  intro s u i w sg off v pas hi hpre hm hp
  have hk := (memAddrs_keeps _ _ _ _ _).ok hp
  obtain ⟨body, hexec, hbody⟩ := exec_storesMem hi
  obtain ⟨t, ht, hs⟩ := memWrite_ok (v := v.toNat) (bytes_le w) hp (hk.wf hm)
  rw [hexec]
  exact ⟨t, plainInsn_ok hpre (hbody.trans ht), hk, hs⟩

/-- Settles O4: the operand's place can be written back, whichever it is. -/
theorem exchangeCompletes : Obligations.ExchangeCompletes := by
  intro s u i w rm reg p x hi hpre hm hx
  have hk := (modifyRM_keeps _ _).ok hx
  obtain ⟨t, ht, hputs⟩ := putPlace_ok (hk.wf hm) (modifyRM_place hx) (u.reg w reg)
  exact ⟨t, exec_exchanges hi hpre (xchgRM_ok hx ht), hk, hputs⟩

end Sys2Proof.Claims
end

section
/-! PROOF. PUSH and POP of registers, immediates, segment registers and r/m operands. -/

namespace Sys2Proof.Machine

open Sys2Proof.Claims

variable {s t u : State} {i : Instr} {sg : SegNo} {rm : RM} {v : Word} {m : Mem} {k x : Nat} {pas : List Word}

/-! ### What stays the same -/

theorem AccessKeeps.stackOff (h : AccessKeeps s u) : u.stackOff v = s.stackOff v := by rw [h.1]; rfl

@[simp] theorem dropped_opWidth : (dropped s k).opWidth = s.opWidth := rfl

/-! ### PUSH (40 R340 to R343) -/

theorem pushV_eq (v : Word) (s : State) : pushV v s = push s.opWidth.bytes v s := bind_ok (get_apply s)

/-- A selector pushed as a word is its value; as a dword, its upper half is the next free value. -/
theorem pushSegReg_w16 (h : s.opWidth = .w16) :
    pushSegReg sg s = push s.opWidth.bytes ((s.seg sg).selector.setWidth 32) s := by
  simp [pushSegReg, pushSel_eq, h, Width.bytes, Item.value]

theorem pushSegReg_w32 (h : s.opWidth = .w32) : pushSegReg sg s =
    push s.opWidth.bytes (Config.free 16 s.draws ++ (s.seg sg).selector) { s with draws := s.draws + 1 } := by
  simp [pushSegReg, pushSel_eq, h, Width.bytes, Item.value]

/-- Each of the instructions draws its free values, then pushes its value. -/
theorem exec_pushes (h : Pushes s i v k) : ∃ body, exec i s = plainInsn body s ∧
    body s.started = push s.opWidth.bytes v { s.started with draws := s.draws + k } := by
  cases h with
  | pushR | pushIv | pushIb => exact ⟨_, rfl, pushV_eq _ _⟩
  | pushEs16 hw | pushCs16 hw | pushSs16 hw | pushDs16 hw | pushFs16 hw | pushGs16 hw =>
    exact ⟨_, rfl, pushSegReg_w16 hw⟩
  | pushEs32 hw | pushCs32 hw | pushSs32 hw | pushDs32 hw | pushFs32 hw | pushGs32 hw =>
    exact ⟨_, rfl, pushSegReg_w32 hw⟩

theorem pushRM_eq (h : readRM s.opWidth rm s = .ok v u) : pushRM rm s = push s.opWidth.bytes v u := by
  rw [pushRM, bind_ok (get_apply s), bind_ok h, pushV_eq, ((readRM_keeps _ _).ok h).opWidth]

/-! ### POP (40 R344, R345) -/

theorem popV_ok (h : memRead .ss s.sp s.opWidth.bytes s = .ok x u) :
    popV s = .ok (BitVec.ofNat 32 x) (dropped u s.opWidth.bytes) :=
  (bind_ok (get_apply s)).trans (pop_ok h)

/-- The operand is written, and its address formed, in the state after the pop. -/
theorem popRM_eq (h : memRead .ss s.sp s.opWidth.bytes s = .ok x u) :
    popRM rm s = writeRM s.opWidth rm (BitVec.ofNat 32 x) (dropped u s.opWidth.bytes) := by
  rw [popRM, bind_ok (popV_ok h), bind_ok (get_apply _), dropped_opWidth, ((memRead_keeps _ _ _).ok h).opWidth]

end Sys2Proof.Machine

namespace Sys2Proof.Claims

open Sys2Proof.Machine

/-- Settles O5: pushes by the rule of `push`, pops by that of `pop`, the operand before the push and after the pop. -/
theorem pushAndPopComplete : Obligations.PushAndPopComplete := by
  refine ⟨fun s u i v k pas hi hpre hm hp => ?push, fun s u u' rm v pas hpre hm hv hp => ?pushRM,
    fun s u n x hpre hx => ⟨fun i hi => ?popReg, (memRead_keeps _ _ _).ok hx⟩,
    fun s u u' m x pas hpre hm hx hp => ?popMem⟩
  case push =>
    obtain ⟨body, hexec, hbody⟩ := exec_pushes hi
    obtain ⟨t, ht, hs⟩ := push_ok (s := { s.started with draws := s.draws + k }) (v := v) (bytes_le _) hm hp
    rw [hexec]
    exact ⟨t, plainInsn_ok hpre (hbody.trans ht), (memAddrs_keeps _ _ _ _ _).ok hp, hs⟩
  case pushRM =>
    have hk := (readRM_keeps _ _).ok hv
    have hsp : u.sp = s.sp := hk.sp
    have hoff (x : Word) : u.stackOff x = s.stackOff x := hk.stackOff
    have hwidth : u.stackWidth = s.stackWidth := hk.stackWidth
    obtain ⟨t, ht, hs⟩ := push_ok (s := u) (v := v) (bytes_le s.opWidth) (hk.wf hm) (by rwa [hsp, hoff])
    rw [hsp, hoff, hwidth] at ht
    exact ⟨t, plainInsn_ok hpre ((pushRM_eq hv).trans ht), hk.trans ((memAddrs_keeps _ _ _ _ _).ok hp), hs⟩
  case popReg =>
    have hbody := plainInsn_ok hpre (popRM_eq (rm := .reg n) hx)
    rcases List.mem_pair.mp hi with rfl | rfl <;> exact hbody
  case popMem =>
    have hk := (memRead_keeps _ _ _).ok hx
    have hk' := (memAddrs_keeps _ _ _ _ _).ok hp
    obtain ⟨t, ht, hs⟩ := memWrite_ok (v := x % 2 ^ 32) (bytes_le _) hp (hk'.wf (hk.wf hm))
    exact ⟨t, plainInsn_ok hpre ((popRM_eq hx).trans (writeRM_mem ht)), hk, hk', hs⟩

end Sys2Proof.Claims
end

section
/-! PROOF. Instructions that change flags only; CLI and STI. -/

namespace Sys2Proof.Machine

open Sys2Proof.Claims

variable {s : State} {i : Instr} {f : Flags}

theorem bit_ah (s : State) {k : Nat} (hk : k < 8) : bit (s.reg .w8 ah) k = bit s.regs.eax (8 + k) := by
  show bit ((s.regs.eax >>> 8) &&& 0xFF#32) k = _
  interval_cases k <;> simp [bit]

/-- SAHF takes the flags from AH, which is bits 15 to 8 of EAX (40 R355). -/
theorem withAh_eq (s : State) : s.flags.withAh (s.reg .w8 ah) =
    { s.flags with SF := bit s.regs.eax 15, ZF := bit s.regs.eax 14, AF := bit s.regs.eax 12,
                   PF := bit s.regs.eax 10, CF := bit s.regs.eax 8 } := by
  simp only [Flags.withAh, bit_ah s, Nat.reduceLT, Nat.reduceAdd]

theorem exec_setsFlags (h : SetsFlags s i f) :
    ∃ body, exec i s = plainInsn body s ∧ body s.started = .ok () { s.started with flags := f } := by
  cases h with
  | sahf =>
    rw [← withAh_eq]
    exact ⟨_, rfl, rfl⟩
  | _ => exact ⟨_, rfl, rfl⟩

/-! ### IF (43 R590, R591) -/

theorem needIopl_ok (h : s.cpl ≤ s.flags.IOPL) : needIopl s = .ok () s := by
  rw [needIopl, bind_ok (get_apply s), if_neg (BitVec.not_lt.mpr h)]
  rfl

theorem needIopl_denied (h : s.flags.IOPL < s.cpl) : needIopl s = .error (.exc (gpZero s)) s := by
  rw [needIopl, bind_ok (get_apply s), if_pos h, raiseGP0_eq]

end Sys2Proof.Machine

namespace Sys2Proof.Claims

open Sys2Proof.Machine

/-- Settles O16: bodies that change flags only, behind the check of IOPL for CLI and STI. -/
theorem flagInstructionsComplete : Obligations.FlagInstructionsComplete := by
  refine ⟨fun s i f hi hpre => ?flags, fun s hpre => ⟨fun hle => ?allowed, fun hlt => ?denied⟩⟩
  case flags =>
    obtain ⟨body, hexec, hbody⟩ := exec_setsFlags hi
    rw [hexec]
    exact plainInsn_ok hpre hbody
  case allowed =>
    have hneed : needIopl s.started = .ok () s.started := needIopl_ok hle
    exact ⟨plainInsn_ok hpre (bind_ok hneed), plainInsn_ok hpre (bind_ok hneed)⟩
  case denied =>
    have hneed : needIopl s.started = .error (.exc (gpZero s)) s.started := needIopl_denied hlt
    exact ⟨plainInsn_exc hpre (bind_error hneed), plainInsn_exc hpre (bind_error hneed)⟩

end Sys2Proof.Claims
end

section
/-! PROOF. Stack frames: PUSHA and POPA, ENTER and LEAVE. -/

namespace Sys2Proof.Machine

open Sys2Proof.Claims

variable {s t u u' v : State} {n k j : Nat} {w : Width} {x : Word} {ps : List (List Word)} {vs : List Word} {e : Stop}

/-! ### Blocks of pushes (40 R347, 20 R169) -/

theorem physWriteList_ok (n : Nat) (pas : List Word) (bs : List Byte) (s : State) :
    ∃ t, physWriteList n pas bs s = .ok () t := by
  induction pas generalizing bs s with
  | nil => exact ⟨s, rfl⟩
  | cons p ps ih =>
    cases bs with
    | nil => exact ⟨s, rfl⟩
    | cons b bs => exact (ih bs _).imp fun t ht => (bind_ok (physWrite_ok n p b s)).trans ht

theorem putItems_ok (n : Nat) (ps : List (List Word)) (vs : List Word) (s : State) :
    ∃ t, putItems n ps vs s = .ok () t := by
  induction ps generalizing vs s with
  | nil => exact ⟨s, rfl⟩
  | cons p ps ih =>
    cases vs with
    | nil => exact ⟨s, rfl⟩
    | cons v vs =>
      obtain ⟨u, hu⟩ := physWriteList_ok n p (toBytes n v.toNat) s
      exact (ih vs u).imp fun t ht => (bind_ok hu).trans ht

/-- Over plain memory the addresses of a block are found where there is room for it. -/
theorem blockAddrs_plain (hp : Plain s) (hr : s.room n k = true) (hj : j ≤ k) :
    ∃ ps, blockAddrs n k j s = .ok ps s := by
  induction j with
  | zero => exact ⟨[], rfl⟩
  | succ j ih =>
    obtain ⟨rest, hrest⟩ := ih (by omega)
    have hslot := (room_iff _ _ _ _).mp hr (k - j - 1) (by omega)
    rw [Nat.sub_add_cancel (by omega)] at hslot
    obtain ⟨p, hpas⟩ := memAddrs_plain (sg := .ss) hp hslot
    exact ⟨p :: rest, (bind_ok (get_apply s)).trans ((bind_ok hpas).trans (bind_ok hrest))⟩

theorem pushBlock_plain (hp : Plain s) (hr : s.room n vs.length = true) : ∃ t, pushBlock n vs s = .ok () t := by
  obtain ⟨ps, hps⟩ := blockAddrs_plain hp hr (Nat.le_refl _)
  obtain ⟨t, ht⟩ := putItems_ok n ps vs s
  exact ⟨_, (bind_ok hps).trans (bind_ok ht)⟩

theorem accessKeeps_of_blockAddrs {sp : Word} {js : List Nat} (h : BlockAddrs n sp js ps s u) : AccessKeeps s u := by
  induction js generalizing ps s with
  | nil =>
    obtain ⟨-, rfl⟩ := h
    exact .refl _
  | cons j js ih =>
    obtain ⟨p, qs, t, -, hp, hqs⟩ := h
    exact ((memAddrs_keeps _ _ _ _ _).ok hp).trans (ih hqs)

/-- The first slot of a block whose access stops decides how the block ends: here `i` slots are found, and `r` more
would follow the one that is not. -/
theorem blockAddrs_error {i r : Nat} (hi : i + r + 1 ≤ k)
    (hps : BlockAddrs n s.sp (List.range' (k - (i + r)) i) ps s u)
    (he : memAddrs .ss (s.stackOff (s.sp - BitVec.ofNat 32 (n * (k - r)))) n false true u = .error e v) :
    blockAddrs n k (i + r + 1) s = .error e v := by
  induction i generalizing s ps with
  | zero =>
    obtain ⟨-, rfl⟩ := hps
    rw [Nat.zero_add]
    exact (bind_ok (get_apply _)).trans (bind_error he)
  | succ i ih =>
    obtain ⟨p, qs, t, -, hp, hqs⟩ := hps
    have hk := (memAddrs_keeps _ _ _ _ _).ok hp
    have hnext : k - (i + 1 + r) + 1 = k - (i + r) := by omega
    rw [hnext, ← hk.sp] at hqs
    rw [← hk.sp, ← hk.stackOff] at he
    have hrest := ih (by omega) hqs he
    rw [Nat.add_right_comm i 1 r] at hp ⊢
    exact (bind_ok (get_apply s)).trans ((bind_ok hp).trans (bind_error hrest))

theorem pushBlock_error (hk : k < vs.length) (hps : BlockAddrs n s.sp ((List.range k).map (· + 1)) ps s u)
    (he : memAddrs .ss (s.stackOff (s.sp - BitVec.ofNat 32 (n * (k + 1)))) n false true u = .error e v) :
    pushBlock n vs s = .error e v := by
  obtain ⟨r, hr⟩ := Nat.exists_eq_add_of_lt hk
  refine bind_error ?_
  rw [hr]
  refine blockAddrs_error (ps := ps) (u := u) (Nat.le_refl _) ?_ ?_
  · have hfirst : k + r + 1 - (k + r) = 1 := by omega
    rw [hfirst, List.range'_eq_map_range]
    simpa [Nat.add_comm] using hps
  · have hslot : k + r + 1 - r = k + 1 := by omega
    rwa [hslot]

/-- A body that shuts the machine down. -/
theorem plainInsn_shutdown {body : M Unit} (h : s.prefixOk false false)
    (hb : body s.started = .error .shutdown u) : plainInsn body s = .next (rollback s u).shutDown := by
  rw [plainInsn, instruction_eq h, bind_error hb]
  rfl

/-! ### The small stack pointers of PUSHA in real mode (40 R347; log 29) -/

/-- The stack pointers at which PUSHA does not push: odd and below 16, in real mode. -/
def SmallOddSp (s : State) : Prop := s.peNow = false ∧ s.sp.toNat < 16 ∧ s.sp.toNat % 2 = 1

theorem smallOddSp_iff : SmallOddSp s ↔ s.peNow = false ∧
    (s.sp.toNat ∈ [1, 3, 5] ∨ s.sp.toNat ∈ [7, 9, 11, 13, 15]) := by
  refine and_congr_right fun _ => ?_
  simp only [List.mem_cons, List.not_mem_nil, or_false]
  omega

theorem pushaPeculiar_eq (s t : State) : pushaPeculiar s t =
    if s.peNow = false ∧ s.sp.toNat ∈ [1, 3, 5] then .error .shutdown t
    else if s.peNow = false ∧ s.sp.toNat ∈ [7, 9, 11, 13, 15] then .error (.exc (gpZero t)) t
    else .ok () t := by
  cases hpe : s.peNow with
  | true => simp [pushaPeculiar, hpe]
  | false => simp [pushaPeculiar, hpe, raiseGP0_eq, or_assoc]

theorem pushaPeculiar_ok (h : ¬SmallOddSp s) : pushaPeculiar s t = .ok () t := by
  rw [pushaPeculiar_eq, if_neg, if_neg]
  all_goals
    rintro ⟨hpe, hsp⟩
    exact h (smallOddSp_iff.mpr (by simp [hpe, hsp]))

theorem pushaPeculiar_shutdown (h : SmallOddSp s) (hsp : s.sp.toNat < 6) :
    pushaPeculiar s t = .error .shutdown t := by
  obtain ⟨hpe, -, hodd⟩ := h
  rw [pushaPeculiar_eq, if_pos ⟨hpe, by simp; omega⟩]

theorem pushaPeculiar_gp (h : SmallOddSp s) (hsp : 6 ≤ s.sp.toNat) :
    pushaPeculiar s t = .error (.exc (gpZero t)) t := by
  obtain ⟨hpe, hlt, hodd⟩ := h
  rw [pushaPeculiar_eq, if_neg, if_pos ⟨hpe, by simp; omega⟩]
  rintro ⟨-, hmem⟩
  simp at hmem
  omega

/-- What PUSHA pushes, the first item first. -/
def Regs.items (r : Regs) : List Word := [r.eax, r.ecx, r.edx, r.ebx, r.esp, r.ebp, r.esi, r.edi]

theorem pushRegs_eq (h : ¬SmallOddSp s) : pushRegs s = pushBlock s.opWidth.bytes s.regs.items s :=
  (bind_ok (get_apply s)).trans (bind_ok (pushaPeculiar_ok h))

theorem pushRegs_error (h : pushaPeculiar s s = .error e u) : pushRegs s = .error e u :=
  (bind_ok (get_apply s)).trans (bind_error h)

/-! ### POPA (40 R348) -/

theorem popRegs_ok {u0 u1 u2 u3 u4 u5 u6 u7 : State} {di si bp sp bx dx cx ax : Word} (hn : s.opWidth.bytes = n)
    (h0 : peek n 0 s = .ok di u0) (h1 : peek n n u0 = .ok si u1) (h2 : peek n (2 * n) u1 = .ok bp u2)
    (h3 : peek n (3 * n) u2 = .ok sp u3) (h4 : peek n (4 * n) u3 = .ok bx u4) (h5 : peek n (5 * n) u4 = .ok dx u5)
    (h6 : peek n (6 * n) u5 = .ok cx u6) (h7 : peek n (7 * n) u6 = .ok ax u7) :
    popRegs s = .ok () ((((((((dropped u7 (8 * n)).setReg s.opWidth .edi di).setReg s.opWidth .esi si).setReg
      s.opWidth .ebp bp).setReg s.opWidth .ebx bx).setReg s.opWidth .edx dx).setReg s.opWidth .ecx cx).setReg
      s.opWidth .eax ax) := by
  subst hn
  rw [popRegs, bind_ok (get_apply s), bind_ok h0, bind_ok h1, bind_ok h2, bind_ok h3, bind_ok h4, bind_ok h5,
    bind_ok h6, bind_ok h7]
  rfl

/-! ### ENTER and LEAVE (40 R356, R357) -/

/-- The segment registers stay. -/
def KeepsSegs (s t : State) : Prop := t.segs = s.segs

theorem KeepsSegs.refl (s : State) : KeepsSegs s s := rfl

theorem KeepsSegs.trans (h : KeepsSegs s u) (h' : KeepsSegs u t) : KeepsSegs s t := Eq.trans h' h

theorem KeepsSegs.stackWidth (h : KeepsSegs s t) : t.stackWidth = s.stackWidth := by
  rw [State.stackWidth, h, State.stackWidth]

theorem physWriteList_keepsSegs (n : Nat) (pas : List Word) (bs : List Byte) :
    Preserves KeepsSegs (physWriteList n pas bs) := by
  induction pas generalizing bs with
  | nil => exact .pure .refl ()
  | cons p ps ih =>
    cases bs with
    | nil => exact .pure .refl ()
    | cons b bs => exact .bind .trans (.modify fun s => s.stored_segs n p b) fun _ => ih bs

theorem push_keepsSegs (n : Nat) (v : Word) : Preserves KeepsSegs (push n v) :=
  .bind .trans (.get .refl) fun _ =>
    .bind .trans (.bind .trans ((memAddrs_keeps _ _ _ _ _).mono AccessKeeps.segs) fun _ =>
      physWriteList_keepsSegs _ _ _) fun _ => .modify fun _ => rfl

theorem copyFrames_keepsSegs (w : Width) (k : Nat) : Preserves KeepsSegs (copyFrames w k) := by
  induction k with
  | zero => exact .pure .refl ()
  | succ k ih =>
    exact .bind .trans (.get .refl) fun _ => .bind .trans (.modify fun _ => rfl) fun _ =>
      .bind .trans ((memRead_keeps _ _ _).mono AccessKeeps.segs) fun _ => .bind .trans (push_keepsSegs _ _) fun _ => ih

/-- A write of the frame pointer leaves the stack pointer as it was. -/
theorem sp_setReg_ebp (hw : w = .w16 ∨ w = .w32) (x : Word) : (s.setReg w .ebp x).sp = s.sp := by
  unfold State.sp State.setReg State.stackWidth State.reg
  rcases hw with rfl | rfl <;> rcases s.segs.ss.stackWidth_cases with h | h <;> rw [h] <;> rfl

/-- The end of ENTER: the frame pointer is set, then room is made below the stack pointer. -/
theorem makeRoom_eq (hw : w = .w16 ∨ w = .w32) (frame x : Word) (u : State) :
    (do setReg w .ebp frame; setSP ((← get).sp - x)) u =
      .ok () ((u.setReg w .ebp frame).setReg u.stackWidth .esp (u.sp - x)) := by
  rw [bind_ok setReg_apply, bind_ok (get_apply _), sp_setReg_ebp hw]
  rfl

theorem enterFrame_flat {size : Half} (h : push s.opWidth.bytes (s.reg s.opWidth .ebp) s = .ok () u) :
    enterFrame size 0 s =
      .ok () ((u.setReg s.opWidth .ebp u.sp).setReg s.stackWidth .esp (u.sp - size.setWidth 32)) := by
  rw [← ((push_keepsSegs _ _).ok h).stackWidth, enterFrame, bind_ok (get_apply s), bind_ok h, bind_ok (get_apply u)]
  exact makeRoom_eq (opWidth_cases s) _ _ _

theorem enterFrame_nested {size : Half} (hk : k ≠ 0) (h : push s.opWidth.bytes (s.reg s.opWidth .ebp) s = .ok () u)
    (hc : copyFrames s.opWidth (k - 1) u = .ok () u') (hf : push s.opWidth.bytes u.sp u' = .ok () v) :
    enterFrame size k s =
      .ok () ((v.setReg s.opWidth .ebp u.sp).setReg s.stackWidth .esp (v.sp - size.setWidth 32)) := by
  have hsegs : KeepsSegs s v :=
    (((push_keepsSegs _ _).ok h).trans ((copyFrames_keepsSegs _ _).ok hc)).trans ((push_keepsSegs _ _).ok hf)
  rw [← hsegs.stackWidth, enterFrame, bind_ok (get_apply s), bind_ok h, bind_ok (get_apply u)]
  simp only [Nat.pos_of_ne_zero hk, if_true]
  rw [bind_ok hc, bind_ok hf]
  exact makeRoom_eq (opWidth_cases s) _ _ _

theorem leaveFrame_ok {x : Word} (h : pop s.opWidth.bytes (s.setReg s.stackWidth .esp (s.reg s.stackWidth .ebp)) =
    .ok x u) : leaveFrame s = .ok () (u.setReg s.opWidth .ebp x) :=
  (bind_ok (get_apply s)).trans ((bind_ok setSP_apply).trans (bind_ok ((bind_ok (get_apply _)).trans h)))

end Sys2Proof.Machine

namespace Sys2Proof.Claims

open Sys2Proof.Machine

/-- Settles O18: PUSHA by its block, POPA by its reads, ENTER and LEAVE by their pushes and pops. -/
theorem stackFramesComplete : Obligations.StackFramesComplete := by
  refine ⟨fun s u hpre => ?pusha, ?popa, fun s u hpre => ?frames⟩
  case pusha =>
    intro g items odd
    refine ⟨fun hodd hb => plainInsn_ok hpre ((pushRegs_eq (s := s.started) hodd).trans hb),
      fun hp hr => pushBlock_plain hp hr, fun hodd k ps v e hk hps => ?_, fun hodd hlt => ?_, fun hodd hle => ?_⟩
    · have hkeeps := accessKeeps_of_blockAddrs hps
      have stops {x : Exc} {t : State}
          (he : memAddrs .ss (s.stackOff (s.sp - BitVec.ofNat 32 (g * (k + 1)))) g false true u = .error (.exc x) t) :
          exec .pusha s = takeException x (rollback s t) :=
        plainInsn_exc hpre ((pushRegs_eq (s := s.started) hodd).trans (pushBlock_error hk hps he))
      refine ⟨fun hdenied => stops ?_, stops⟩
      have hss : u.seg .ss = s.segs.ss := congrArg Segs.ss hkeeps.segs
      rw [memAddrs_denied (by rwa [hss]), hkeeps.gpZero]
      rfl
    · exact plainInsn_shutdown hpre (pushRegs_error (pushaPeculiar_shutdown (s := s.started) hodd hlt))
    · exact plainInsn_exc hpre (pushRegs_error (pushaPeculiar_gp (s := s.started) hodd hle))
  case popa =>
    intro s u0 u1 u2 u3 u4 u5 u6 u7 di si bp sp bx dx cx ax hpre n h0 h1 h2 h3 h4 h5 h6 h7
    have keeps {k : Nat} {x : Word} {t t' : State} (h : peek n k t = .ok x t') : AccessKeeps t t' :=
      (peek_keeps _ _).ok h
    exact ⟨plainInsn_ok hpre (popRegs_ok rfl h0 h1 h2 h3 h4 h5 h6 h7),
      (keeps h0).trans <| (keeps h1).trans <| (keeps h2).trans <| (keeps h3).trans <| (keeps h4).trans <|
        (keeps h5).trans <| (keeps h6).trans (keeps h7)⟩
  case frames =>
    refine ⟨fun size lv hlv h => plainInsn_ok hpre ?_,
      fun size lv u' u'' hlv h hc hf => plainInsn_ok hpre (enterFrame_nested hlv h hc hf),
      fun v h => plainInsn_ok hpre (leaveFrame_ok h)⟩
    rw [hlv]
    exact enterFrame_flat h

end Sys2Proof.Claims
end

section
/-! PROOF. Loads of segment registers: MOV, POP and the far pointers, in every mode. -/

namespace Sys2Proof.Machine

open Sys2Proof.Claims

variable {s u u' v : State} {i : Instr} {n : SegNo} {reg : RegNo} {rm : RM} {m : Mem} {sel : Half} {x : Word}
  {k y : Nat} {e : Stop}

/-! ### The load in real and V86 mode (10 R45, R47) -/

theorem AccessKeeps.protMode (h : AccessKeeps s u) : u.protMode = s.protMode := by rw [h.1]; rfl

theorem AccessKeeps.realLoad (h : AccessKeeps s u) : realLoad u n sel = realLoad s n sel := by rw [h.1]; rfl

/-- Nothing is checked: the register takes the selector, its base and, in V86 mode, fixed attributes. -/
theorem loadSeg_real (h : s.protMode = false) :
    loadSeg n sel s = .ok () { s with segs := s.segs.set n (realLoad s n sel) } := by
  rw [loadSeg, bind_ok (get_apply s), h, if_neg Bool.false_ne_true, loadSegReal, bind_ok (get_apply s)]
  cases hv : s.v86 <;> simp only [Claims.realLoad, hv] <;> rfl

/-- The same after the access that found the selector. -/
theorem loadSeg_real_after (h : AccessKeeps s u) (hp : s.protMode = false) :
    loadSeg n sel u = .ok () { u with segs := u.segs.set n (realLoad s n sel) } := by
  rw [loadSeg_real (h.protMode.trans hp), h.realLoad]

/-! ### The operand size while a segment register is loaded -/

/-- The operand size stays: it is that of CS and the prefixes. -/
def KeepsSize (s t : State) : Prop := t.opWidth = s.opWidth

theorem KeepsSize.refl (s : State) : KeepsSize s s := rfl

theorem KeepsSize.trans (h : KeepsSize s u) (h' : KeepsSize u v) : KeepsSize s v := Eq.trans h' h

theorem putSeg_keepsSize (hn : n ≠ .cs) (r : SegReg) : Preserves KeepsSize (putSeg n r) :=
  .modify fun s => by cases n <;> trivial

theorem check_keepsSize {c : Prop} [Decidable c] {stop : M PUnit} {f : PUnit → M PUnit}
    (hs : Preserves AccessKeeps stop) (hf : Preserves KeepsSize (f ⟨⟩)) :
    Preserves KeepsSize (if c then stop >>= f else f ⟨⟩) :=
  .ite (.bind .trans (hs.mono AccessKeeps.opWidth) fun _ => hf) hf

theorem markAccessed_putSeg_keepsSize (hn : n ≠ .cs) (la : Word) (d : Desc) (r : SegReg) :
    Preserves KeepsSize (do markAccessed la d; putSeg n r) :=
  .bind .trans ((markAccessed_keeps la d).mono AccessKeeps.opWidth) fun _ => putSeg_keepsSize hn r

theorem loadDataSeg_keepsSize (hn : n ≠ .cs) (bad : Byte) (sel : Half) :
    Preserves KeepsSize (loadDataSeg bad n sel) :=
  have stop {vec : Byte} : Preserves AccessKeeps (raiseSel vec sel : M PUnit) := fun s => .refl s
  .ite (.bind .trans (.get .refl) fun _ => putSeg_keepsSize hn _) <|
    .bind .trans ((fetchDesc_keeps bad sel).mono AccessKeeps.opWidth) fun (_, _) =>
      check_keepsSize stop <| .bind .trans (.get .refl) fun _ => check_keepsSize stop <|
        check_keepsSize stop <| markAccessed_putSeg_keepsSize hn _ _ _

theorem loadStackSeg_keepsSize (sel : Half) : Preserves KeepsSize (loadStackSeg sel) := by
  have stop : Preserves AccessKeeps (raiseGP0 : M PUnit) := fun s => .refl s
  unfold loadStackSeg
  exact check_keepsSize stop <| .bind .trans (.get .refl) fun _ =>
    .bind .trans ((stackDesc_keeps vecGP sel _).mono AccessKeeps.opWidth) fun (_, _) =>
      markAccessed_putSeg_keepsSize (n := .ss) nofun _ _ _

theorem loadSeg_keepsSize (hn : n ≠ .cs) (sel : Half) : Preserves KeepsSize (loadSeg n sel) :=
  .bind .trans (.get .refl) fun _ =>
    .ite (.ite (loadStackSeg_keepsSize sel) (loadDataSeg_keepsSize hn _ sel)) <|
      .bind .trans (.get .refl) fun _ => .ite (putSeg_keepsSize hn _) (putSeg_keepsSize hn _)

/-! ### What the instructions answer, from what the load answers (40 R335, R346, R350) -/

theorem inhibitAfterSS_eq (n : SegNo) (s : State) : inhibitAfterSS n s = .ok () (inhibited s n) := by
  cases n <;> rfl

section
variable (hx : readRM .w16 rm s = .ok x u)
include hx

theorem movToSeg_ok (hl : loadSeg n (x.setWidth 16) u = .ok () v) : movToSeg n rm s = .ok () (inhibited v n) :=
  (bind_ok hx).trans ((bind_ok hl).trans (inhibitAfterSS_eq n v))

theorem movToSeg_error (hl : loadSeg n (x.setWidth 16) u = .error e v) : movToSeg n rm s = .error e v :=
  (bind_ok hx).trans (bind_error hl)

end

section
variable (hx : memRead .ss s.sp s.opWidth.bytes s = .ok k u)
include hx

theorem popSegReg_eq : popSegReg n s =
    (do loadSeg n (BitVec.ofNat 16 k); dropBytes s.opWidth.bytes; inhibitAfterSS n) u := by
  have hp : peek s.opWidth.bytes 0 s = .ok (BitVec.ofNat 32 k) u := peek_ok (by simpa [s.stackOff_sp] using hx)
  rw [popSegReg, bind_ok (get_apply s), bind_ok hp, BitVec.setWidth_ofNat_of_le (by decide)]

/-- The stack pointer moves after the load, at the width of the stack then in force. -/
theorem popSegReg_ok (hl : loadSeg n (BitVec.ofNat 16 k) u = .ok () v) :
    popSegReg n s = .ok () (inhibited (dropped v s.opWidth.bytes) n) := by
  rw [popSegReg_eq hx, bind_ok hl, bind_ok (dropBytes_eq _ v), inhibitAfterSS_eq]

theorem popSegReg_error (hl : loadSeg n (BitVec.ofNat 16 k) u = .error e v) : popSegReg n s = .error e v := by
  rw [popSegReg_eq hx, bind_error hl]

end

theorem farPointer_keeps (m : Mem) : Preserves AccessKeeps (farPointer m) :=
  .bind .trans (.get .refl) fun _ => .bind .trans (memRead_keeps _ _ _) fun _ =>
    .bind .trans (memRead_keeps _ _ _) fun _ => .pure .refl _

section
variable (hx : memRead (s.ea m).1 (s.ea m).2 s.opWidth.bytes s = .ok k u)
  (hy : memRead (s.ea m).1 ((s.ea m).2 + BitVec.ofNat 32 s.opWidth.bytes) 2 u = .ok y u')
include hx hy

theorem farPointer_ok : farPointer m s = .ok (BitVec.ofNat 32 k, BitVec.ofNat 16 y) u' :=
  (bind_ok (get_apply s)).trans ((bind_ok hx).trans (bind_ok hy))

/-- The offset is loaded at the operand size, which the load of a data or stack segment does not change. -/
theorem loadPointer_ok (hn : n ≠ .cs) (hl : loadSeg n (BitVec.ofNat 16 y) u' = .ok () v) :
    loadPointer n reg m s = .ok () (v.setReg s.opWidth reg (BitVec.ofNat 32 k)) := by
  have hsize : v.opWidth = s.opWidth :=
    Eq.trans ((loadSeg_keepsSize hn _).ok hl) ((farPointer_keeps m).ok (farPointer_ok hx hy)).opWidth
  rw [← hsize]
  exact (bind_ok (farPointer_ok hx hy)).trans ((bind_ok hl).trans (bind_ok (get_apply v)))

theorem loadPointer_error (hl : loadSeg n (BitVec.ofNat 16 y) u' = .error e v) :
    loadPointer n reg m s = .error e v :=
  (bind_ok (farPointer_ok hx hy)).trans (bind_error hl)

end

theorem exec_popsSeg (h : PopsSeg i n) : exec i s = plainInsn (popSegReg n) s := by
  cases h <;> rfl

theorem exec_loadsPointer (h : LoadsPointer i n reg m) :
    exec i s = plainInsn (loadPointer n reg m) s ∧ n ≠ .cs := by
  cases h <;> exact ⟨rfl, nofun⟩

end Sys2Proof.Machine

namespace Sys2Proof.Claims

open Sys2Proof.Machine

/-- Settles O24: in real and V86 mode the load always completes. -/
theorem realSegmentLoadsComplete : Obligations.RealSegmentLoadsComplete := by
  refine ⟨fun s u n rm v _ hpre hreal hx => ?mov, fun s u i n x hi hpre hreal hx => ?pop,
    fun s u u' i n reg m x y hi hpre hreal hx hy => ?pointer⟩
  case mov =>
    have hk := (readRM_keeps _ _).ok hx
    exact ⟨plainInsn_ok hpre (movToSeg_ok hx (loadSeg_real_after (s := s.started) hk hreal)), hk⟩
  case pop =>
    have hk := (memRead_keeps _ _ _).ok hx
    rw [exec_popsSeg hi]
    exact ⟨plainInsn_ok hpre (popSegReg_ok hx (loadSeg_real_after (s := s.started) hk hreal)), hk⟩
  case pointer =>
    obtain ⟨hexec, hn⟩ := exec_loadsPointer (s := s) hi
    have hk := (farPointer_keeps m).ok (farPointer_ok (s := s.started) hx hy)
    rw [hexec]
    have hl := loadSeg_real_after (n := n) (sel := BitVec.ofNat 16 y) hk hreal
    exact ⟨plainInsn_ok hpre (loadPointer_ok (s := s.started) hx hy hn hl), hk⟩

/-- Settles O25: what the load answers is what the instruction answers. -/
theorem protectedSegmentLoadsComplete : Obligations.ProtectedSegmentLoadsComplete := by
  intro s u u' u'' e hpre _
  refine ⟨fun n rm v _ hx => ?mov, fun i n x hi hx => ?pop, fun i n reg m x y hi hx hy => ?pointer⟩
  case mov =>
    exact ⟨fun hl => plainInsn_ok hpre (movToSeg_ok hx hl), fun hl => plainInsn_exc hpre (movToSeg_error hx hl)⟩
  case pop =>
    rw [exec_popsSeg hi]
    exact ⟨fun hl => plainInsn_ok hpre (popSegReg_ok hx hl), fun hl => plainInsn_exc hpre (popSegReg_error hx hl)⟩
  case pointer =>
    obtain ⟨hexec, hn⟩ := exec_loadsPointer (s := s) hi
    rw [hexec]
    exact ⟨fun hl => plainInsn_ok hpre (loadPointer_ok (s := s.started) hx hy hn hl),
      fun hl => plainInsn_exc hpre (loadPointer_error (s := s.started) hx hy hl)⟩

end Sys2Proof.Claims
end

section
/-! PROOF. Stores of selectors and of the machine status word; GDTR and IDTR stored and loaded. -/

namespace Sys2Proof.Machine

open Sys2Proof.Claims

variable {s t u u' v : State} {i : Instr} {n : RegNo} {rm : RM} {m : Mem} {h : Half} {r : TableReg} {x y : Nat}

/-! ### 16-bit registers (40 R336, 44 R616, R618, R620) -/

theorem storeHalf_w16 (hw : s.opWidth = .w16) :
    storeHalf (.reg n) h s = .ok () (s.setReg .w16 n (h.setWidth 32)) := by
  simp [storeHalf, op32_of_w16 hw]

/-- The upper half of a 32-bit register is the next free value. -/
theorem storeHalf_w32 (hw : s.opWidth = .w32) : storeHalf (.reg n) h s =
    .ok () (State.setReg { s with draws := s.draws + 1 } .w32 n (Config.free 16 s.draws ++ h)) := by
  simp [storeHalf, op32_of_w32 hw]

theorem storeHalf_mem (hw : memWrite (s.ea m).1 (s.ea m).2 2 h.toNat s = .ok () u) :
    storeHalf (.mem m) h s = .ok () u := by
  have hv : (h.setWidth 32 : Word).toNat = h.toNat := by
    have hlt := h.isLt
    rw [BitVec.toNat_setWidth, Nat.mod_eq_of_lt (by omega)]
  exact writeRM_mem (by rwa [hv])

/-- The machine status word: the low half of CR0 (44 R620). -/
theorem Cr0.toWord_low (c : Cr0) : c.toWord.setWidth 16 = c.reserved.setWidth 11 ++ BitVec.ofBool c.ET ++
    BitVec.ofBool c.TS ++ BitVec.ofBool c.EM ++ BitVec.ofBool c.MP ++ BitVec.ofBool c.PE := by
  refine BitVec.eq_of_getLsbD_eq fun i hi => ?_
  rw [BitVec.getLsbD_setWidth, ← bit, c.bit_toWord (by omega)]
  show _ = @BitVec.getLsbD (11 + 1 + 1 + 1 + 1 + 1) _ i
  simp only [BitVec.getLsbD_append]
  interval_cases i <;> simp

theorem exec_storesHalf (hi : StoresHalf s i rm h) :
    ∃ body, exec i s = plainInsn body s ∧ body s.started = storeHalf rm h s.started := by
  cases hi with
  | movEwSw => exact ⟨_, rfl, rfl⟩
  | smswEw => exact ⟨_, rfl, by rw [← Cr0.toWord_low]⟩
  | sldtEw _ hp | strEw _ hp => exact ⟨_, rfl, bind_ok (needProtected_ok hp)⟩

/-! ### GDTR and IDTR (44 R610 to R614) -/

theorem and_low24_toNat (v : Word) : (v &&& 0xFFFFFF#32).toNat = v.toNat % 2 ^ 24 := by
  rw [BitVec.toNat_and]
  exact Nat.and_two_pow_sub_one_eq_mod v.toNat 24

/-- How many values the base of a table has at the operand size: 24 bits count at 16 (44 R613, R614). -/
def State.baseRange (s : State) : Nat := if s.sizes.op32 then 2 ^ 32 else 2 ^ 24

theorem tableBase_toNat (s : State) (v : Word) :
    (if s.sizes.op32 then v else v &&& 0xFFFFFF#32).toNat = v.toNat % s.baseRange := by
  cases hop : s.sizes.op32 with
  | true => simp only [State.baseRange, hop, if_true, Nat.mod_eq_of_lt v.isLt]
  | false => simp only [State.baseRange, hop, Bool.false_eq_true, if_false, and_low24_toNat]

theorem tableBase_ofNat (s : State) (y : Nat) :
    (if s.sizes.op32 then BitVec.ofNat 32 y else BitVec.ofNat 32 y &&& 0xFFFFFF#32) =
      BitVec.ofNat 32 (y % s.baseRange) := by
  refine BitVec.eq_of_toNat_eq ?_
  rw [tableBase_toNat, BitVec.toNat_ofNat, BitVec.toNat_ofNat, State.baseRange]
  split <;> omega

/-- A store that completed changed its bytes and kept memory in canonical form. -/
theorem stores_of_memWrite {sg : SegNo} {off : Word} {k : Nat} {pas : List Word} (hk : k ≤ 4096)
    (hp : memAddrs sg off k false true s = .ok pas u) (hm : Memory.wf s.mem = true)
    (hw : memWrite sg off k x s = .ok () t) : Stores u pas (toBytes k x) t ∧ Memory.wf t.mem = true := by
  have hwf := ((memAddrs_keeps _ _ _ _ _).ok hp).wf hm
  rw [memWrite, bind_ok hp] at hw
  exact ⟨stores_of_physWriteList hwf (memAddrs_nodup hk hp) (memAddrs_length hp) hw,
    (physWriteList_keepsWf _ _ _).ok hw hwf⟩

/-- The limit is stored first, then the base, at the operand's offset plus 2. -/
theorem writeTable_ok (hl : memWrite (s.ea m).1 (s.ea m).2 2 r.limit.toNat s = .ok () u)
    (hb : memWrite (s.ea m).1 ((s.ea m).2 + 2#32) 4 (r.base.toNat % s.baseRange) u = .ok () t) :
    writeTable m r s = .ok () t := by
  rw [← tableBase_toNat] at hb
  exact (bind_ok (get_apply s)).trans ((bind_ok hl).trans hb)

theorem readTable_ok (hc : s.cpl = 0#2) (hx : memRead (s.ea m).1 (s.ea m).2 2 s = .ok x u)
    (hy : memRead (s.ea m).1 ((s.ea m).2 + 2#32) 4 u = .ok y u') : readTable m s =
      .ok { base := BitVec.ofNat 32 (y % s.baseRange), limit := BitVec.ofNat 16 x } u' := by
  rw [readTable, bind_ok (needCpl0_ok hc), bind_ok (get_apply s), bind_ok hx, bind_ok hy, ← tableBase_ofNat]
  rfl

theorem exec_storesTable (hi : (i = .sgdtMs m ∧ r = s.gdtr) ∨ (i = .sidtMs m ∧ r = s.idtr)) :
    exec i s = plainInsn (writeTable m r) s := by
  rcases hi with ⟨rfl, rfl⟩ | ⟨rfl, rfl⟩ <;> rfl

end Sys2Proof.Machine

namespace Sys2Proof.Claims

open Sys2Proof.Machine

/-- Settles O27: one store of 16 bits, and the two accesses of a table register. -/
theorem tablesAndSelectorsComplete : Obligations.TablesAndSelectorsComplete := by
  refine ⟨fun s i rm h hi hpre => ?half, fun s u u' v m i r pas pas' x y hpre => ?table⟩
  case half =>
    obtain ⟨body, hexec, hbody⟩ := exec_storesHalf hi
    rw [hexec]
    refine ⟨fun n hrm hw => ?_, fun n hrm hw => ?_, fun m u pas hrm hm hp => ?_⟩ <;> subst hrm
    · exact plainInsn_ok hpre (hbody.trans (storeHalf_w16 hw))
    · exact plainInsn_ok hpre (hbody.trans (storeHalf_w32 hw))
    · have hk := (memAddrs_keeps _ _ _ _ _).ok hp
      obtain ⟨t, ht, hs⟩ := memWrite_ok (v := h.toNat) (by decide) hp (hk.wf hm)
      exact ⟨t, plainInsn_ok hpre (hbody.trans (storeHalf_mem ht)), hk, hs⟩
  case table =>
    intro k loaded
    refine ⟨fun hm hi hp hl => ?store, fun hc hx hy => ?load⟩
    case store =>
      obtain ⟨hlimit, hwf⟩ := stores_of_memWrite (by decide) hp hm hl
      refine ⟨(memAddrs_keeps _ _ _ _ _).ok hp, hlimit, fun hp' => ?_⟩
      have hk' := (memAddrs_keeps _ _ _ _ _).ok hp'
      obtain ⟨t, ht, hs⟩ := memWrite_ok (v := r.base.toNat % k) (by decide) hp' (hk'.wf hwf)
      rw [exec_storesTable hi]
      exact ⟨hk', t, plainInsn_ok hpre (writeTable_ok hl ht), hs⟩
    case load =>
      have hread : readTable m s.started = .ok loaded u' := readTable_ok hc hx hy
      exact ⟨((memRead_keeps _ _ _).ok hx).trans ((memRead_keeps _ _ _).ok hy),
        plainInsn_ok hpre (bind_ok hread), plainInsn_ok hpre (bind_ok hread)⟩

end Sys2Proof.Claims
end

section
/-! PROOF. Words as numbers at a width; the flags of addition, subtraction and logic. -/

namespace Sys2Proof

open Sys2Proof.Machine

variable {w : Width} {v : Word}

/-! ### Words as numbers at a width (00 R10, R12) -/

theorem bit_eq (v : Word) (i : Nat) : bit v i = decide (v.toNat / 2 ^ i % 2 = 1) :=
  Nat.testBit_eq_decide_div_mod_eq

theorem Width.trunc_toNat (w : Width) (v : Word) : (w.trunc v).toNat = v.toNat % 2 ^ w.bits := by
  cases w with
  | w8 => simp [Width.trunc, Width.bits, BitVec.toNat_and, Nat.and_two_pow_sub_one_eq_mod v.toNat 8]
  | w16 => exact Width.trunc_w16_toNat v
  | w32 => exact (Nat.mod_eq_of_lt v.isLt).symm

theorem Width.trunc_lt (w : Width) (v : Word) : (w.trunc v).toNat < 2 ^ w.bits := by
  rw [Width.trunc_toNat]
  exact Nat.mod_lt _ (Nat.two_pow_pos _)

theorem Width.bits_bounds (w : Width) : 8 ≤ w.bits ∧ w.bits ≤ 32 := by cases w <;> decide

theorem Width.bits_pos (w : Width) : 0 < w.bits := Nat.lt_of_lt_of_le (by decide) w.bits_bounds.1

theorem Width.pow_bits_dvd (w : Width) : 2 ^ w.bits ∣ 2 ^ 32 := Nat.pow_dvd_pow 2 w.bits_bounds.2

/-- A number taken as a word and cut to a width is taken modulo 2 to that width. -/
theorem Width.trunc_ofNat_toNat (w : Width) (n : Nat) : (w.trunc (BitVec.ofNat 32 n)).toNat = n % 2 ^ w.bits := by
  rw [Width.trunc_toNat, BitVec.toNat_ofNat, Nat.mod_mod_of_dvd n w.pow_bits_dvd]

theorem Width.ofInt_toNat (w : Width) (i : Int) : ((w.ofInt i).toNat : Int) = i % (2 ^ w.bits : Nat) := by
  have h : ((2 ^ w.bits : Nat) : Int) ∣ ((2 ^ 32 : Nat) : Int) := Int.natCast_dvd_natCast.mpr w.pow_bits_dvd
  rw [Width.ofInt, Width.trunc_toNat, Int.natCast_mod, toNat_ofInt_word]
  exact Int.emod_emod_of_dvd i h

/-- The top bit tells the upper half of the range. -/
theorem Width.msb_eq (h : v.toNat < 2 ^ w.bits) : w.msb v = decide (2 ^ (w.bits - 1) ≤ v.toNat) := by
  rw [Width.msb, bit_eq, decide_eq_decide]
  cases w <;> simp only [Width.bits, Nat.reduceSub, Nat.reducePow] at h ⊢ <;> omega

theorem Width.signed_eq (h : v.toNat < 2 ^ w.bits) : w.signed v =
    if 2 ^ (w.bits - 1) ≤ v.toNat then (v.toNat : Int) - (2 ^ w.bits : Nat) else v.toNat := by
  rw [Width.signed, Width.msb_eq h]
  simp only [decide_eq_true_eq]

theorem bit_xor_xor (x y z : Word) (i : Nat) :
    bit (x ^^^ y ^^^ z) i = decide ((x.toNat / 2 ^ i + y.toNat / 2 ^ i + z.toNat / 2 ^ i) % 2 = 1) := by
  have hx : bit (x ^^^ y ^^^ z) i = (bit x i ^^ bit y i ^^ bit z i) := by
    simp only [bit, BitVec.getLsbD_xor]
  simp only [hx, bit_eq, Nat.add_mod (_ + _), Nat.add_mod (x.toNat / 2 ^ i)]
  rcases Nat.mod_two_eq_zero_or_one (x.toNat / 2 ^ i) with h | h <;>
    rcases Nat.mod_two_eq_zero_or_one (y.toNat / 2 ^ i) with h' | h' <;>
    rcases Nat.mod_two_eq_zero_or_one (z.toNat / 2 ^ i) with h'' | h'' <;> simp [h, h', h'']

end Sys2Proof

namespace Sys2Proof.Machine

open Sys2Proof.Claims

variable {w : Width} {a b v : Word} {c : Bool} {f : Flags}

/-! ### SF, ZF and PF (00 R17) -/

/-- The exclusive or of a list of bits tells whether their number is odd. -/
theorem foldl_xor_eq (p : Nat → Bool) (l : List Nat) (acc : Bool) :
    l.foldl (fun b k => b ^^ p k) acc = (acc ^^ decide ((l.filter p).length % 2 = 1)) := by
  induction l generalizing acc with
  | nil => simp
  | cons k l ih =>
    rw [List.foldl_cons, ih, Bool.xor_assoc]
    cases hk : p k with
    | false => simp [hk]
    | true =>
      have hodd : decide ((l.filter p).length % 2 = 1) = !decide (((l.filter p).length + 1) % 2 = 1) := by
        rw [← decide_not, decide_eq_decide]
        omega
      simp [hk, hodd]

theorem parity_eq (v : Word) :
    parity v = decide (((List.range 8).filter fun k => v.toNat.testBit k).length % 2 = 0) := by
  have hxor := foldl_xor_eq (fun k => v.toNat.testBit k) (List.range 8) false
  have hpar : parity v = !(List.range 8).foldl (fun b k => b ^^ v.toNat.testBit k) false := by
    simp [parity, bit, BitVec.getLsbD, List.range, List.range.loop]
  rw [hpar, hxor, Bool.false_xor, ← decide_not, decide_eq_decide]
  omega

theorem resultFlags_setSZP (f : Flags) (h : v.toNat < 2 ^ w.bits) : ResultFlags w v.toNat (f.setSZP w v) := by
  refine ⟨Width.msb_eq h, ?_, parity_eq v⟩
  rw [Flags.setSZP, beq_eq_decide, decide_eq_decide, ← BitVec.toNat_inj]
  rfl

/-! ### Addition and subtraction (41 R401) -/

theorem carryIn_eq (c : Bool) : carryIn c = c.toNat := by cases c <;> rfl

theorem addFlags_toNat (w : Width) (a b : Word) (c : Bool) (f : Flags) :
    (addFlags w a b c f).1.toNat = (a.toNat + b.toNat + c.toNat) % 2 ^ w.bits := by
  rw [← carryIn_eq]
  exact w.trunc_ofNat_toNat _

theorem subFlags_toNat (w : Width) (a b : Word) (c : Bool) (f : Flags) :
    ((subFlags w a b c f).1.toNat : Int) = ((a.toNat : Int) - b.toNat - c.toNat) % (2 ^ w.bits : Nat) := by
  have hword : a - b - BitVec.ofNat 32 (carryIn c) = BitVec.ofInt 32 ((a.toNat : Int) - b.toNat - c.toNat) := by
    simp [Int.sub_eq_add_neg, BitVec.ofInt_add, BitVec.ofInt_neg, BitVec.sub_eq_add_neg, carryIn_eq]
  rw [← w.ofInt_toNat, Width.ofInt, ← hword]
  rfl

/-- `AddFlags`: CF, AF and OF as R401 writes them, SF, ZF and PF from the sum. -/
theorem addFlags_flags (w : Width) (a b : Word) (c : Bool) (f : Flags) : let p := addFlags w a b c f
    p.2.CF = decide (2 ^ w.bits ≤ a.toNat + b.toNat + c.toNat) ∧ p.2.AF = bit (a ^^^ b ^^^ p.1) 4 ∧
    p.2.OF = (decide (bit a (w.bits - 1) = bit b (w.bits - 1)) &&
      decide (bit p.1 (w.bits - 1) ≠ bit a (w.bits - 1))) ∧
    ResultFlags w p.1.toNat p.2 ∧ KeepsControl f p.2 := by
  refine ⟨?_, rfl, ?_, resultFlags_setSZP _ (w.trunc_lt _), rfl, rfl, rfl, rfl, rfl, rfl, rfl⟩
  · rw [← carryIn_eq]
    rfl
  · rw [decide_not, ← beq_eq_decide, ← beq_eq_decide]
    rfl

/-- `SubFlags`: the same with a borrow. -/
theorem subFlags_flags (w : Width) (a b : Word) (c : Bool) (f : Flags) : let p := subFlags w a b c f
    p.2.CF = decide (a.toNat < b.toNat + c.toNat) ∧ p.2.AF = bit (a ^^^ b ^^^ p.1) 4 ∧
    p.2.OF = (decide (bit a (w.bits - 1) ≠ bit b (w.bits - 1)) &&
      decide (bit p.1 (w.bits - 1) ≠ bit a (w.bits - 1))) ∧
    ResultFlags w p.1.toNat p.2 ∧ KeepsControl f p.2 := by
  refine ⟨?_, rfl, ?_, resultFlags_setSZP _ (w.trunc_lt _), rfl, rfl, rfl, rfl, rfl, rfl, rfl⟩
  · rw [← carryIn_eq]
    rfl
  · rw [decide_not, decide_not, ← beq_eq_decide, ← beq_eq_decide]
    rfl

/-- `LogicFlags` of a result: CF and OF clear, AF free. -/
theorem logicFlags_flags {r : Word} (hr : r.toNat < 2 ^ w.bits) (af : Bool) (f : Flags) :
    let g := logicFlags w r af f
    g.CF = false ∧ g.OF = false ∧ g.AF = af ∧ ResultFlags w r.toNat g ∧ KeepsControl f g :=
  ⟨rfl, rfl, rfl, resultFlags_setSZP _ hr, rfl, rfl, rfl, rfl, rfl, rfl, rfl⟩

/-- OF of a sum, by the upper halves of the ranges. -/
theorem addFlags_OF (ha : a.toNat < 2 ^ w.bits) (hb : b.toNat < 2 ^ w.bits) : (addFlags w a b c f).2.OF = true ↔
    (2 ^ (w.bits - 1) ≤ a.toNat ↔ 2 ^ (w.bits - 1) ≤ b.toNat) ∧
      ¬(2 ^ (w.bits - 1) ≤ (addFlags w a b c f).1.toNat ↔ 2 ^ (w.bits - 1) ≤ a.toNat) := by
  have hr : (addFlags w a b c f).1.toNat < 2 ^ w.bits := w.trunc_lt _
  show (w.msb a == w.msb b && w.msb (addFlags w a b c f).1 != w.msb a) = true ↔ _
  simp [Width.msb_eq ha, Width.msb_eq hb, Width.msb_eq hr]

theorem subFlags_OF (ha : a.toNat < 2 ^ w.bits) (hb : b.toNat < 2 ^ w.bits) : (subFlags w a b c f).2.OF = true ↔
    ¬(2 ^ (w.bits - 1) ≤ a.toNat ↔ 2 ^ (w.bits - 1) ≤ b.toNat) ∧
      ¬(2 ^ (w.bits - 1) ≤ (subFlags w a b c f).1.toNat ↔ 2 ^ (w.bits - 1) ≤ a.toNat) := by
  have hr : (subFlags w a b c f).1.toNat < 2 ^ w.bits := w.trunc_lt _
  show (w.msb a != w.msb b && w.msb (subFlags w a b c f).1 != w.msb a) = true ↔ _
  simp [Width.msb_eq ha, Width.msb_eq hb, Width.msb_eq hr]

theorem addFlags_AF : (addFlags w a b c f).2.AF = true ↔
    (a.toNat / 2 ^ 4 + b.toNat / 2 ^ 4 + (addFlags w a b c f).1.toNat / 2 ^ 4) % 2 = 1 := by
  rw [(addFlags_flags w a b c f).2.1, bit_xor_xor, decide_eq_true_eq]

theorem subFlags_AF : (subFlags w a b c f).2.AF = true ↔
    (a.toNat / 2 ^ 4 + b.toNat / 2 ^ 4 + (subFlags w a b c f).1.toNat / 2 ^ 4) % 2 = 1 := by
  rw [(subFlags_flags w a b c f).2.1, bit_xor_xor, decide_eq_true_eq]

end Sys2Proof.Machine

namespace Sys2Proof.Claims

open Sys2Proof.Machine

/-- Settles O45: addition and subtraction with their carry, and a result of logic, which stays within the width. -/
theorem arithmeticFlags : Obligations.ArithmeticFlags := by
  intro w a b f af ha hb
  refine ⟨fun op c hop => ?add, fun op c hop => ?sub, fun op r hop => ?logic⟩
  case add =>
    rcases hop with ⟨rfl, rfl⟩ | ⟨rfl, rfl⟩
    · exact ⟨addFlags_toNat w a b false f, addFlags_flags w a b false f⟩
    · exact ⟨addFlags_toNat w a b f.CF f, addFlags_flags w a b f.CF f⟩
  case sub =>
    rcases hop with ⟨rfl, rfl⟩ | ⟨rfl, rfl⟩ | ⟨rfl, rfl⟩
    · exact ⟨mod_cast subFlags_toNat w a b false f, subFlags_flags w a b false f⟩
    · exact ⟨mod_cast subFlags_toNat w a b false f, subFlags_flags w a b false f⟩
    · exact ⟨mod_cast subFlags_toNat w a b f.CF f, subFlags_flags w a b f.CF f⟩
  case logic =>
    rcases hop with ⟨rfl, rfl⟩ | ⟨rfl, rfl⟩ | ⟨rfl, rfl⟩
    · exact ⟨rfl, logicFlags_flags (by rw [BitVec.toNat_and]; exact Nat.and_lt_two_pow _ hb) af f⟩
    · exact ⟨rfl, logicFlags_flags (by rw [BitVec.toNat_or]; exact Nat.or_lt_two_pow ha hb) af f⟩
    · exact ⟨rfl, logicFlags_flags (by rw [BitVec.toNat_xor]; exact Nat.xor_lt_two_pow ha hb) af f⟩

/-- Settles O46: sum and difference modulo 2^w against the halves of the ranges, and their fifth bit. -/
theorem overflowIsSigned : Obligations.OverflowIsSigned := by
  intro w a b c f ha hb
  have hc : c.toNat ≤ 1 := c.toNat_le
  have hadd := addFlags_toNat w a b c f
  have hsub := subFlags_toNat w a b c f
  rw [addFlags_OF ha hb, subFlags_OF ha hb, addFlags_AF, subFlags_AF, Width.signed_eq ha, Width.signed_eq hb]
  cases w
  all_goals
    simp only [Width.bits, Nat.reduceSub, Nat.reducePow, Int.reducePow, Nat.cast_ofNat] at *
    exact ⟨by omega, by omega, by omega, by omega⟩

end Sys2Proof.Claims
end

section
/-! PROOF. The two-operand operations, comparisons, and the operations on one operand. -/

namespace Sys2Proof.Machine

open Sys2Proof.Claims

variable {s t u : State} {i : Instr} {op : AluOp} {w : Width} {rm : RM} {reg : RegNo} {a b : Word} {p : Place}

/-! ### Two operands (41 R402 to R406, R416 to R418, R420) -/

/-- The result goes back to the place the operand was read from. -/
theorem aluRM_ok (hx : modifyRM w rm s = .ok (p, a) u)
    (hp : putPlace w p (aluResult op w a b u.flags u.nextFree).1 (u.aluState op w a b) = .ok () t) :
    aluRM op w rm b s = .ok () t :=
  (bind_ok hx).trans ((bind_ok alu_apply).trans hp)

theorem aluReg_ok (hx : readRM w rm s = .ok b u) : aluReg op w reg rm s =
    .ok () ((u.aluState op w (s.reg w reg) b).setReg w reg (aluResult op w (s.reg w reg) b u.flags u.nextFree).1) :=
  (bind_ok getReg_apply).trans ((bind_ok hx).trans (bind_ok alu_apply))

theorem aluOnly_ok (hx : readRM w rm s = .ok a u) : aluOnly op w rm b s = .ok () (u.aluState op w a b) :=
  (bind_ok hx).trans (bind_ok alu_apply)

theorem aluRegOnly_ok (hx : readRM w rm s = .ok b u) :
    aluRegOnly op w reg rm s = .ok () (u.aluState op w (s.reg w reg) b) :=
  (bind_ok getReg_apply).trans ((bind_ok hx).trans (bind_ok alu_apply))

theorem exec_aluTo (h : AluTo s i op w rm b) (hpre : s.prefixOk rm.isMem false)
    (hbody : aluRM op w rm b s.started = .ok () u) : exec i s = .next (complete s u.advanced) := by
  cases h <;> exact lockInsn_ok hpre hbody

theorem exec_aluFrom (h : AluFrom s i op w reg rm) : exec i s = plainInsn (aluReg op w reg rm) s := by
  cases h <;> rfl

theorem exec_compares (h : Compares s i op w rm b) : exec i s = plainInsn (aluOnly op w rm b) s := by
  cases h <;> rfl

/-! ### One operand (41 R407 to R409, R419) -/

theorem unaryRM_ok {g : Word → Flags → Word × Flags} (hx : modifyRM w rm s = .ok (p, a) u)
    (hp : putPlace w p (g a u.flags).1 { u with flags := (g a u.flags).2 } = .ok () t) :
    unaryRM g w rm s = .ok () t :=
  (bind_ok hx).trans ((bind_ok (get_apply u)).trans ((bind_ok modifyFlags_apply).trans hp))

theorem exec_unary {g : Word → Flags → Word × Flags} (h : Unary s i w rm g) (hpre : s.prefixOk rm.isMem false)
    (hbody : unaryRM g w rm s.started = .ok () u) : exec i s = .next (complete s u.advanced) := by
  cases h <;> exact lockInsn_ok hpre hbody

end Sys2Proof.Machine

namespace Sys2Proof.Claims

open Sys2Proof.Machine

/-- Settles O6: the flags are set in the state the access leaves, then the result is put back. -/
theorem aluToOperandCompletes : Obligations.AluToOperandCompletes := by
  refine ⟨fun s u i op w rm a b p hi hpre hm hx => ?operand, fun s u i op w reg rm b hi hpre hx => ?register⟩
  case operand =>
    have hk := (modifyRM_keeps _ _).ok hx
    obtain ⟨t, ht, hputs⟩ := putPlace_ok (u := u.aluState op w a b) (hk.wf hm) (modifyRM_place hx)
      (aluResult op w a b u.flags u.nextFree).1
    exact ⟨t, exec_aluTo hi hpre (aluRM_ok hx ht), hk, hputs⟩
  case register =>
    rw [exec_aluFrom hi]
    exact ⟨plainInsn_ok hpre (aluReg_ok hx), (readRM_keeps _ _).ok hx⟩

/-- Settles O7: the operand is read, and only the flags are set. -/
theorem compareCompletes : Obligations.CompareCompletes := by
  refine ⟨fun s u i op w rm a b hi hpre hx => ⟨?_, (readRM_keeps _ _).ok hx⟩, fun s u reg rm b hpre =>
    ⟨fun hx => ⟨?_, (readRM_keeps _ _).ok hx⟩, fun hx => ⟨?_, (readRM_keeps _ _).ok hx⟩⟩⟩
  · rw [exec_compares hi]
    exact plainInsn_ok hpre (aluOnly_ok hx)
  · exact plainInsn_ok hpre (aluRegOnly_ok hx)
  · exact plainInsn_ok hpre (aluRegOnly_ok hx)

/-- Settles O8: the flags take what the operation gives, then the result is put back. -/
theorem unaryCompletes : Obligations.UnaryCompletes := by
  intro s u i w rm g a p hi hpre hm hx
  have hk := (modifyRM_keeps _ _).ok hx
  obtain ⟨t, ht, hputs⟩ := putPlace_ok (u := { u with flags := (g a u.flags).2 }) (hk.wf hm) (modifyRM_place hx)
    (g a u.flags).1
  exact ⟨t, exec_unary hi hpre (unaryRM_ok hx ht), hk, hputs⟩

end Sys2Proof.Claims
end

section
/-! PROOF. Multiplication and division. -/

namespace Sys2Proof.Machine

open Sys2Proof.Claims

variable {s u : State} {i : Instr} {w : Width} {rm : RM} {reg n : RegNo} {a b : Word} {signed : Bool} {p q : Int}

/-! ### Integers written to a register -/

theorem State.setReg_trunc (s : State) (w : Width) (n : RegNo) (v : Word) :
    s.setReg w n (w.trunc v) = s.setReg w n v := by
  rw [State.setReg, Regs.write_trunc]
  rfl

/-- A register takes an integer modulo 2 to its width. -/
theorem State.setReg_ofInt_congr (s : State) (n : RegNo)
    (h : p % (2 ^ w.bits : Nat) = q % (2 ^ w.bits : Nat)) :
    s.setReg w n (BitVec.ofInt 32 p) = s.setReg w n (BitVec.ofInt 32 q) := by
  refine s.setReg_congr n (BitVec.eq_of_toNat_eq (Int.natCast_inj.mp ?_))
  exact (w.ofInt_toNat p).trans (h.trans (w.ofInt_toNat q).symm)

/-- The register of the upper half of a result: AH, DX or EDX. -/
def upperHalf : Width → RegNo
  | .w8 => .esp
  | _ => .edx

theorem putHalves_apply (w : Width) (lo hi : Word) (s : State) :
    putHalves w lo hi s = .ok () ((s.setReg w .eax lo).setReg w (upperHalf w) hi) := rfl

/-! ### Products (41 R410 to R413) -/

theorem mulFlags_apply (c : Bool) (s : State) : mulFlags c s = .ok () (mulFlagged s c) := rfl

/-- A product modulo twice the width is put in two halves. -/
theorem putProduct_eq {v : Nat} (s : State)
    (h : (v : Int) % (2 ^ (2 * w.bits) : Nat) = p % (2 ^ (2 * w.bits) : Nat)) :
    putProduct w v s = .ok () (putWide s w p) := by
  have hlow : ((v % 2 ^ w.bits : Nat) : Int) % (2 ^ w.bits : Nat) = p % (2 ^ w.bits : Nat) := by
    cases w <;> simp only [Width.bits, Nat.reduceMul, Nat.reducePow] at h ⊢ <;> omega
  have hhigh : ((v / 2 ^ w.bits % 2 ^ w.bits : Nat) : Int) % (2 ^ w.bits : Nat) =
      p / (2 ^ w.bits : Nat) % (2 ^ w.bits : Nat) := by
    cases w <;> simp only [Width.bits, Nat.reduceMul, Nat.reducePow] at h ⊢ <;> omega
  rw [putProduct, putHalves_apply, ← BitVec.ofInt_natCast, ← BitVec.ofInt_natCast, s.setReg_ofInt_congr _ hlow,
    State.setReg_ofInt_congr _ _ hhigh]
  rfl

theorem mulUnsigned_ok (hx : readRM w rm s = .ok b u) (hp : p = asInt w false (u.reg w .eax) * asInt w false b) :
    mulUnsigned w rm s = .ok () (mulFlagged (putWide u w p) (decide ((2 ^ w.bits : Nat) ≤ p))) := by
  have hcast : (((u.reg w .eax).toNat * b.toNat : Nat) : Int) = p := by
    rw [hp, Int.natCast_mul]
    rfl
  have hflag : decide (2 ^ w.bits ≤ (u.reg w .eax).toNat * b.toNat) = decide ((2 ^ w.bits : Nat) ≤ p) := by
    rw [← hcast, decide_eq_decide, Int.ofNat_le]
  rw [mulUnsigned, bind_ok hx, bind_ok (get_apply u), bind_ok (putProduct_eq u (by rw [hcast])), mulFlags_apply, hflag]

theorem mulSigned_ok (hx : readRM w rm s = .ok b u) (hp : p = asInt w true (u.reg w .eax) * asInt w true b) :
    mulSigned w rm s = .ok () (mulFlagged (putWide u w p) (!w.fits p)) := by
  have hcast : (((p % (2 ^ (2 * w.bits) : Nat)).toNat : Nat) : Int) % (2 ^ (2 * w.bits) : Nat) =
      p % (2 ^ (2 * w.bits) : Nat) := by
    rw [Int.toNat_of_nonneg (Int.emod_nonneg _ (Int.natCast_ne_zero.mpr (Nat.two_pow_pos _).ne')), Int.emod_emod]
  subst hp
  exact (bind_ok hx).trans ((bind_ok (get_apply u)).trans (bind_ok (putProduct_eq u hcast)))

theorem mulTo_eq (w : Width) (reg : RegNo) (a b : Word) (u : State) : mulTo w reg a b u =
    .ok () (mulFlagged (u.setReg w reg (BitVec.ofInt 32 (w.signed a * w.signed b)))
      (!w.fits (w.signed a * w.signed b))) := by
  rw [← u.setReg_trunc]
  rfl

theorem mulTo_comm (w : Width) (reg : RegNo) (a b : Word) (u : State) : mulTo w reg a b u = mulTo w reg b a u := by
  rw [mulTo_eq, mulTo_eq, Int.mul_comm]

theorem exec_multiplies (h : Multiplies s i w rm signed) :
    exec i s = plainInsn (if signed then mulSigned w rm else mulUnsigned w rm) s := by
  cases h <;> rfl

/-- Each of the instructions reads its operand, then multiplies it with the other factor. -/
theorem exec_multipliesTo (h : MultipliesTo s i reg rm a) (hx : readRM s.opWidth rm s.started = .ok b u) :
    ∃ body, exec i s = plainInsn body s ∧ body s.started = mulTo s.opWidth reg a b u := by
  cases h with
  | imulGvEv =>
    have hreg : u.reg s.opWidth reg = s.reg s.opWidth reg := ((readRM_keeps _ _).ok hx).reg
    exact ⟨_, rfl, (bind_ok hx).trans ((bind_ok (get_apply u)).trans (by rw [hreg]))⟩
  | imulGvEvIv | imulGvEvIb =>
    exact ⟨_, rfl, (bind_ok hx).trans (mulTo_comm _ _ _ _ _)⟩

/-! ### Quotients (41 R414, R415) -/

/-- A check that raises an exception without an error code. -/
theorem check_raise {β : Type} {c bad : Prop} [Decidable c] [Decidable bad] {vec : Byte} {k : PUnit → M β}
    (h : c ↔ bad) : (if c then raise vec >>= k else k ⟨⟩) s =
      if bad then .error (.exc (plainExc vec)) s else k ⟨⟩ s := by
  by_cases hb : bad
  · rw [if_pos (h.mpr hb), if_pos hb, bind_error (raise_apply _ _)]
    rfl
  · rw [if_neg (h.not.mpr hb), if_neg hb]

theorem undefinedFlags_apply (s : State) : undefinedFlags s = .ok () (allFlagsFree s) := rfl

theorem AccessKeeps.dividend (h : AccessKeeps s u) : dividend u w signed = dividend s w signed := by rw [h.1]; rfl

theorem dividend_unsigned (s : State) (w : Width) : dividend s w false = s.wide w := by cases w <;> rfl

theorem dividend_signed (s : State) (w : Width) : dividend s w true = signedWide w (s.wide w) := by
  have hwide : dividend s w true = if true && decide (2 ^ (2 * w.bits - 1) ≤ s.wide w)
      then (s.wide w : Int) - (2 ^ (2 * w.bits) : Nat) else s.wide w := by cases w <;> rfl
  simp only [hwide, signedWide, Bool.true_and, decide_eq_true_eq, ← not_lt, ite_not]

/-- The state after a division: quotient and remainder in their registers, the flags free. -/
def divided (u : State) (w : Width) (d b : Int) : State :=
  allFlagsFree ((u.setReg w .eax (BitVec.ofInt 32 (d.tdiv b))).setReg w (upperHalf w) (BitVec.ofInt 32 (d.tmod b)))

theorem divUnsigned_eq (hx : readRM w rm s = .ok b u) : divUnsigned w rm s =
    if asInt w false b = 0 ∨ quotientFits w false (dividend u w false) (asInt w false b) = false
    then .error (.exc (plainExc 0#8)) u else .ok () (divided u w (dividend u w false) (asInt w false b)) := by
  have hguard : (b.toNat == 0 || decide (2 ^ w.bits ≤ u.wide w / b.toNat)) = true ↔
      asInt w false b = 0 ∨ quotientFits w false (dividend u w false) (asInt w false b) = false := by
    simp only [asInt, quotientFits, dividend_unsigned, ← Int.ofNat_tdiv, Bool.or_eq_true, beq_iff_eq,
      decide_eq_true_eq, decide_eq_false_iff_not, Bool.false_eq_true, if_false, Int.ofNat_lt, Int.natCast_eq_zero,
      not_lt]
  have hput : (putHalves w (BitVec.ofNat 32 (u.wide w / b.toNat)) (BitVec.ofNat 32 (u.wide w % b.toNat)) >>=
      fun _ => undefinedFlags) u = .ok () (divided u w (dividend u w false) (asInt w false b)) := by
    rw [← BitVec.ofInt_natCast, ← BitVec.ofInt_natCast, Int.ofNat_tdiv, Int.ofNat_tmod, dividend_unsigned]
    exact bind_ok (putHalves_apply _ _ _ _)
  rw [divUnsigned, bind_ok hx, bind_ok (get_apply u), ← hput]
  exact check_raise hguard

theorem divSigned_eq (hx : readRM w rm s = .ok b u) : divSigned w rm s =
    if asInt w true b = 0 ∨ quotientFits w true (dividend u w true) (asInt w true b) = false
    then .error (.exc (plainExc 0#8)) u else .ok () (divided u w (dividend u w true) (asInt w true b)) := by
  have hguard : (w.signed b == 0 || !w.fits ((signedWide w (u.wide w)).tdiv (w.signed b))) = true ↔
      asInt w true b = 0 ∨ quotientFits w true (dividend u w true) (asInt w true b) = false := by
    simp only [asInt, quotientFits, dividend_signed, Bool.or_eq_true, beq_iff_eq, Bool.not_eq_true', if_true]
  have hput : (putHalves w (w.ofInt ((signedWide w (u.wide w)).tdiv (w.signed b)))
      (w.ofInt ((signedWide w (u.wide w)).tmod (w.signed b))) >>= fun _ => undefinedFlags) u =
        .ok () (divided u w (dividend u w true) (asInt w true b)) := by
    rw [bind_ok (putHalves_apply _ _ _ _), Width.ofInt, Width.ofInt, State.setReg_trunc, State.setReg_trunc,
      dividend_signed]
    rfl
  rw [divSigned, bind_ok hx, bind_ok (get_apply u), ← hput]
  exact check_raise hguard

theorem exec_divides (h : Divides s i w rm signed) :
    exec i s = plainInsn (if signed then divSigned w rm else divUnsigned w rm) s := by
  cases h <;> rfl

/-- The division an instruction makes: #DE, or the quotient and the remainder of its dividend. -/
theorem divide_eq (hx : readRM w rm s.started = .ok b u) :
    (if signed then divSigned w rm else divUnsigned w rm) s.started =
      if asInt w signed b = 0 ∨ quotientFits w signed (dividend s w signed) (asInt w signed b) = false
      then .error (.exc (plainExc 0#8)) u else .ok () (divided u w (dividend s w signed) (asInt w signed b)) := by
  have hd : dividend u w signed = dividend s w signed := ((readRM_keeps _ _).ok hx).dividend
  cases signed with
  | false => rw [← hd]; exact divUnsigned_eq hx
  | true => rw [← hd]; exact divSigned_eq hx

end Sys2Proof.Machine

namespace Sys2Proof.Claims

open Sys2Proof.Machine

/-- Settles O9: the factors in the state the access leaves, the product in two halves or modulo the width. -/
theorem multiplyCompletes : Obligations.MultiplyCompletes := by
  refine ⟨fun s u i w rm signed b hi hpre hx => ⟨?wide, (readRM_keeps _ _).ok hx⟩,
    fun s u i reg rm a b hi hpre hx => ⟨?single, (readRM_keeps _ _).ok hx⟩⟩
  case wide =>
    have hreg : u.reg w .eax = s.reg w .eax := ((readRM_keeps _ _).ok hx).reg
    rw [exec_multiplies hi]
    cases signed with
    | false => exact plainInsn_ok hpre (mulUnsigned_ok hx (by rw [hreg]))
    | true => exact plainInsn_ok hpre (mulSigned_ok hx (by rw [hreg]))
  case single =>
    obtain ⟨body, hexec, hbody⟩ := exec_multipliesTo hi hx
    rw [hexec]
    exact plainInsn_ok hpre (hbody.trans (mulTo_eq _ _ _ _ _))

/-- Settles O10: one division, whose guard is the condition for #DE. -/
theorem divideCompletes : Obligations.DivideCompletes := by
  refine ⟨fun s u i w rm signed b hi hpre hx hne hfit => ⟨?quotient, (readRM_keeps _ _).ok hx⟩,
    fun s u i w rm signed b hi hpre hx hbad => ?error⟩
  case quotient =>
    rw [exec_divides hi]
    exact plainInsn_ok hpre ((divide_eq hx).trans (if_neg (by simp [hne, hfit])))
  case error =>
    rw [exec_divides hi]
    exact plainInsn_exc hpre ((divide_eq hx).trans (if_pos hbad))

end Sys2Proof.Claims
end

section
/-! PROOF. Rotations of numbers: the rotation by any count is the one by one place, repeated. -/

namespace Sys2Proof.Machine

/-! ### Rotation by one place and by several -/

/-- `v` rotated at `n` bits by one place, to the left and to the right. -/
def rotLeftOnce (n v : Nat) : Nat := v * 2 % 2 ^ n + v / 2 ^ (n - 1)

def rotRightOnce (n v : Nat) : Nat := v / 2 + v % 2 * 2 ^ (n - 1)

/-- The upper `m` of the `n` bits of `v` moved below the other ones. -/
def turned (n m v : Nat) : Nat := v % 2 ^ (n - m) * 2 ^ m + v / 2 ^ (n - m)

variable {n m v k x y j : Nat}

/-- A number of `j` bits above one of `k` bits. -/
theorem mul_pow_add_lt (hx : x < 2 ^ j) (hy : y < 2 ^ k) : x * 2 ^ k + y < 2 ^ (j + k) :=
  calc x * 2 ^ k + y < x * 2 ^ k + 2 ^ k := Nat.add_lt_add_left hy _
    _ = (x + 1) * 2 ^ k := (Nat.succ_mul _ _).symm
    _ ≤ 2 ^ j * 2 ^ k := Nat.mul_le_mul_right _ hx
    _ = 2 ^ (j + k) := (Nat.pow_add _ _ _).symm

/-- The lower bits of a number above one of `k` bits. -/
theorem mul_pow_add_mod (hy : y < 2 ^ k) : (x * 2 ^ k + y) % 2 ^ (j + k) = x % 2 ^ j * 2 ^ k + y := by
  have hsplit : x * 2 ^ k + y = x / 2 ^ j * 2 ^ (j + k) + (x % 2 ^ j * 2 ^ k + y) := by
    conv_lhs => rw [← Nat.div_add_mod x (2 ^ j)]
    rw [Nat.pow_add]
    ring
  rw [hsplit, Nat.mul_add_mod_of_lt (mul_pow_add_lt (Nat.mod_lt _ (Nat.two_pow_pos _)) hy)]

theorem div_pow_lt (hm : m ≤ n) (h : v < 2 ^ n) : v / 2 ^ (n - m) < 2 ^ m :=
  Nat.div_lt_of_lt_mul (by rwa [← Nat.pow_add, Nat.sub_add_cancel hm])

theorem turned_lt (hm : m ≤ n) (h : v < 2 ^ n) : turned n m v < 2 ^ n := by
  have hlt := mul_pow_add_lt (Nat.mod_lt v (Nat.two_pow_pos (n - m))) (div_pow_lt hm h)
  rwa [Nat.sub_add_cancel hm] at hlt

theorem turned_zero (h : v < 2 ^ n) : turned n 0 v = v := by
  simp [turned, Nat.mod_eq_of_lt h, Nat.div_eq_of_lt h]

theorem turned_self : turned n n v = v := by simp [turned, Nat.mod_one]

/-- A rotation by all places is none. -/
theorem turned_mod (hm : m ≤ n) (h : v < 2 ^ n) : turned n (m % n) v = turned n m v := by
  rcases hm.lt_or_eq with hlt | rfl
  · rw [Nat.mod_eq_of_lt hlt]
  · rw [Nat.mod_self, turned_zero h, turned_self]

theorem rotLeft_eq_turned (hn : 0 < n) (h : v < 2 ^ n) (m : Nat) : rotLeft n v m = turned n (m % n) v := by
  have hm : m % n ≤ n := (Nat.mod_lt m hn).le
  have hmod := mul_pow_add_mod (x := v) (j := n - m % n) (div_pow_lt hm h)
  rwa [Nat.sub_add_cancel hm] at hmod

theorem rotLeft_lt (n v m : Nat) : rotLeft n v m < 2 ^ n := Nat.mod_lt _ (Nat.two_pow_pos _)

theorem rotLeft_mod (n v m : Nat) : rotLeft n v (m % n) = rotLeft n v m := by rw [rotLeft, Nat.mod_mod, rotLeft]

theorem rotLeftOnce_succ (n v : Nat) : rotLeftOnce (n + 1) v = v % 2 ^ n * 2 + v / 2 ^ n := by
  rw [rotLeftOnce, Nat.pow_succ, Nat.mul_mod_mul_right, Nat.add_sub_cancel]

/-- One more place to the left. -/
theorem rotLeftOnce_turned (hm : m < n) (h : v < 2 ^ n) : rotLeftOnce n (turned n m v) = turned n (m + 1) v := by
  obtain ⟨j, rfl⟩ : ∃ j, n = m + j + 1 := ⟨n - m - 1, by omega⟩
  have hsplit : v % 2 ^ (j + 1) = v % 2 ^ j + 2 ^ j * (v / 2 ^ j % 2) := Nat.mod_pow_succ
  have hdiv : v / 2 ^ (j + 1) = v / 2 ^ j / 2 := by rw [Nat.pow_succ, Nat.div_div_eq_div_mul]
  have hone : turned (m + j + 1) m v = v / 2 ^ j % 2 * 2 ^ (m + j) + (v % 2 ^ j * 2 ^ m + v / 2 ^ j / 2) := by
    rw [turned, show m + j + 1 - m = j + 1 by omega, hsplit, hdiv, Nat.pow_add]
    ring
  have hlt : v % 2 ^ j * 2 ^ m + v / 2 ^ j / 2 < 2 ^ (m + j) := by
    have hrest : v / 2 ^ j / 2 < 2 ^ m := by
      rw [← hdiv, show j + 1 = m + j + 1 - m by omega]
      exact div_pow_lt hm.le h
    rw [Nat.add_comm m j]
    exact mul_pow_add_lt (Nat.mod_lt v (Nat.two_pow_pos j)) hrest
  have htop : turned (m + j + 1) m v / 2 ^ (m + j) = v / 2 ^ j % 2 := by
    rw [hone, Nat.mul_comm, Nat.mul_add_div (Nat.two_pow_pos _), Nat.div_eq_of_lt hlt, Nat.add_zero]
  have hrest : turned (m + j + 1) m v % 2 ^ (m + j) = v % 2 ^ j * 2 ^ m + v / 2 ^ j / 2 := by
    rw [hone, Nat.mul_add_mod_of_lt hlt]
  have hz := Nat.div_add_mod (v / 2 ^ j) 2
  rw [rotLeftOnce_succ, htop, hrest, turned, show m + j + 1 - (m + 1) = j by omega, Nat.pow_succ]
  linarith

theorem rotRightOnce_rotLeftOnce (hn : 0 < n) (h : v < 2 ^ n) : rotRightOnce n (rotLeftOnce n v) = v := by
  obtain ⟨j, rfl⟩ : ∃ j, n = j + 1 := ⟨n - 1, by omega⟩
  have htop : v / 2 ^ j < 2 := Nat.div_lt_of_lt_mul (by rwa [← Nat.pow_succ])
  have hdiv (x : Nat) {b : Nat} (hb : b < 2) : (x * 2 + b) / 2 = x := by omega
  have hmod (x : Nat) {b : Nat} (hb : b < 2) : (x * 2 + b) % 2 = b := by omega
  rw [rotLeftOnce_succ, rotRightOnce, hdiv _ htop, hmod _ htop, Nat.add_sub_cancel, Nat.mul_comm, Nat.mod_add_div]

/-- One place back to the right. -/
theorem rotRightOnce_turned (hm : m < n) (h : v < 2 ^ n) : rotRightOnce n (turned n (m + 1) v) = turned n m v := by
  rw [← rotLeftOnce_turned hm h, rotRightOnce_rotLeftOnce (by omega) (turned_lt hm.le h)]

theorem repeat_rotLeftOnce (hn : 0 < n) (h : v < 2 ^ n) (k : Nat) :
    Nat.repeat (rotLeftOnce n) k v = rotLeft n v k := by
  rw [rotLeft_eq_turned hn h]
  induction k with
  | zero => exact (turned_zero h).symm
  | succ k ih =>
    have hk : k % n < n := Nat.mod_lt k hn
    rw [Nat.repeat, ih, rotLeftOnce_turned hk h, ← turned_mod (n := n) (m := k % n + 1) hk h, Nat.mod_add_mod]

theorem repeat_rotRightOnce (hn : 0 < n) (h : v < 2 ^ n) (k : Nat) :
    Nat.repeat (rotRightOnce n) k v = rotLeft n v (n - k % n) := by
  rw [rotLeft_eq_turned hn h, turned_mod (n.sub_le _) h]
  induction k with
  | zero => exact turned_self.symm
  | succ k ih =>
    have hk : k % n + 1 ≤ n := Nat.mod_lt k hn
    rw [Nat.repeat, ih, ← Nat.mod_add_mod, show n - k % n = n - (k % n + 1) + 1 by omega,
      rotRightOnce_turned (by omega) h]
    rcases hk.lt_or_eq with hlt | heq
    · rw [Nat.mod_eq_of_lt hlt]
    · rw [heq, Nat.mod_self, Nat.sub_self, Nat.sub_zero, turned_zero h, turned_self]

/-! ### Rotation through a carry (41 R426, R427) -/

/-- Two functions that agree through `d`, where `P` holds, agree when repeated. -/
theorem repeat_semiconj {α β : Type} {f : α → α} {g : β → β} {d : α → β} {P : α → Prop}
    (hP : ∀ x, P x → P (f x)) (hd : ∀ x, P x → d (f x) = g (d x)) {x : α} (hx : P x) (k : Nat) :
    P (Nat.repeat f k x) ∧ d (Nat.repeat f k x) = Nat.repeat g k (d x) := by
  induction k with
  | zero => exact ⟨hx, rfl⟩
  | succ k ih => exact ⟨hP _ ih.1, (hd _ ih.1).trans (congrArg g ih.2)⟩

/-- A value and CF rotated by one place, to the left and to the right. -/
def rclOnce (w : Width) (v : Nat × Bool) : Nat × Bool :=
  ((v.1 * 2 + v.2.toNat) % 2 ^ w.bits, decide (2 ^ (w.bits - 1) ≤ v.1))

def rcrOnce (w : Width) (v : Nat × Bool) : Nat × Bool :=
  (v.1 / 2 + v.2.toNat * 2 ^ (w.bits - 1), decide (v.1 % 2 = 1))

/-- The value and the carry in a number of one bit more than the width. -/
def splitCarry (w : Width) (x : Nat) : Nat × Bool := (x % 2 ^ w.bits, decide (2 ^ w.bits ≤ x))

variable {w : Width} {c : Bool} {a : Word}

theorem withCarry_lt (h : a.toNat < 2 ^ w.bits) : withCarry w c a < 2 ^ (w.bits + 1) := by
  rw [withCarry, carryIn_eq, Nat.pow_succ]
  cases c <;> simp only [Bool.toNat_false, Bool.toNat_true] <;> omega

theorem splitCarry_withCarry (h : a.toNat < 2 ^ w.bits) : splitCarry w (withCarry w c a) = (a.toNat, c) := by
  rw [splitCarry, withCarry]
  cases c <;> simp [carryIn, h, Nat.mod_eq_of_lt h]

/-- The carry is the top bit. -/
theorem carry_toNat (hx : x < 2 ^ (w.bits + 1)) : (decide (2 ^ w.bits ≤ x)).toNat = x / 2 ^ w.bits := by
  have hpos := Nat.two_pow_pos w.bits
  rw [Nat.pow_succ] at hx
  by_cases h : 2 ^ w.bits ≤ x
  · rw [decide_eq_true h, Nat.div_eq_of_lt_le (k := 1) (by omega) (by omega)]
    rfl
  · rw [decide_eq_false h, Nat.div_eq_of_lt (by omega)]
    rfl

theorem splitCarry_rotLeftOnce (hx : x < 2 ^ (w.bits + 1)) :
    splitCarry w (rotLeftOnce (w.bits + 1) x) = rclOnce w (splitCarry w x) := by
  rw [rotLeftOnce_succ]
  refine Prod.ext ?_ (decide_eq_decide.mpr ?_)
  · simp only [rclOnce, splitCarry, carry_toNat hx]
  · simp only [splitCarry]
    cases w <;> simp only [Width.bits, Nat.reduceAdd, Nat.reduceSub, Nat.reducePow] at hx ⊢ <;> omega

theorem splitCarry_rotRightOnce (hx : x < 2 ^ (w.bits + 1)) :
    splitCarry w (rotRightOnce (w.bits + 1) x) = rcrOnce w (splitCarry w x) := by
  rw [rotRightOnce]
  refine Prod.ext ?_ (decide_eq_decide.mpr ?_)
  · simp only [rcrOnce, splitCarry, carry_toNat hx, Nat.add_sub_cancel, Nat.add_mul_mod_self_right]
    cases w <;> simp only [Width.bits, Nat.reduceAdd, Nat.reduceSub, Nat.reducePow] at hx ⊢ <;> omega
  · simp only [splitCarry]
    cases w <;> simp only [Width.bits, Nat.reduceAdd, Nat.reduceSub, Nat.reducePow] at hx ⊢ <;> omega

theorem rotLeftOnce_lt (hx : x < 2 ^ n) (hn : 0 < n) : rotLeftOnce n x < 2 ^ n := by
  rw [show rotLeftOnce n x = Nat.repeat (rotLeftOnce n) 1 x from rfl, repeat_rotLeftOnce hn hx]
  exact rotLeft_lt _ _ _

theorem rotRightOnce_lt (hx : x < 2 ^ n) (hn : 0 < n) : rotRightOnce n x < 2 ^ n := by
  rw [show rotRightOnce n x = Nat.repeat (rotRightOnce n) 1 x from rfl, repeat_rotRightOnce hn hx]
  exact rotLeft_lt _ _ _

/-- Rotation of CF and the value together is their repeated rotation by one place. -/
theorem splitCarry_rotLeft (h : a.toNat < 2 ^ w.bits) (k : Nat) :
    splitCarry w (rotLeft (w.bits + 1) (withCarry w c a) k) = Nat.repeat (rclOnce w) k (a.toNat, c) := by
  have hrep := (repeat_semiconj (P := (· < 2 ^ (w.bits + 1))) (fun x hx => rotLeftOnce_lt hx (Nat.succ_pos _))
    (fun x hx => splitCarry_rotLeftOnce (w := w) hx) (withCarry_lt (c := c) h) k).2
  rwa [repeat_rotLeftOnce (Nat.succ_pos _) (withCarry_lt h), splitCarry_withCarry h] at hrep

theorem splitCarry_rotRight (h : a.toNat < 2 ^ w.bits) (k : Nat) :
    splitCarry w (rotLeft (w.bits + 1) (withCarry w c a) (w.bits + 1 - k % (w.bits + 1))) =
      Nat.repeat (rcrOnce w) k (a.toNat, c) := by
  have hrep := (repeat_semiconj (P := (· < 2 ^ (w.bits + 1))) (fun x hx => rotRightOnce_lt hx (Nat.succ_pos _))
    (fun x hx => splitCarry_rotRightOnce (w := w) hx) (withCarry_lt (c := c) h) k).2
  rwa [repeat_rotRightOnce (Nat.succ_pos _) (withCarry_lt h), splitCarry_withCarry h] at hrep

end Sys2Proof.Machine
end

section
/-! PROOF. What shifts and rotates answer, and their results as numbers. -/

namespace Sys2Proof.Machine

open Sys2Proof.Claims

variable {s t u : State} {i : Instr} {op : ShiftOp} {w : Width} {n k : Nat} {v a c r : Word} {rm : RM} {p : Place}

theorem bne_decide (p q : Prop) [Decidable p] [Decidable q] : (decide p != decide q) = decide (¬(p ↔ q)) := by
  by_cases hp : p <;> by_cases hq : q <;> simp [hp, hq]

/-! ### The flags at the end of a shift (41 R400, R421) -/

theorem shiftOF_ok (n : Nat) (b : Bool) (s : State) :
    ∃ o k, shiftOF n b s = .ok o { s with draws := k } ∧ (n = 1 → o = b) := by
  by_cases hn : n = 1
  · exact ⟨b, s.draws, by rw [shiftOF, if_pos (beq_iff_eq.mpr hn)]; rfl, fun _ => rfl⟩
  · exact ⟨_, _, by rw [shiftOF, if_neg (mt beq_iff_eq.mp hn)]; rfl, fun h => absurd h hn⟩

theorem shiftCF_ok (w : Width) (n : Nat) (b : Bool) (s : State) :
    ∃ c k, shiftCF w n b s = .ok c { s with draws := k } ∧ (n ≤ w.bits → c = b) := by
  by_cases hn : n ≤ w.bits
  · exact ⟨b, s.draws, by rw [shiftCF, if_pos hn]; rfl, fun _ => rfl⟩
  · exact ⟨_, _, by rw [shiftCF, if_neg hn]; rfl, fun h => absurd h hn⟩

/-- The end of a shift: OF, then the flags, CF known by then. -/
theorem shiftEnd_ok (w : Width) (n : Nat) (r : Word) (c b : Bool) (s : State) : ∃ o af k,
    (shiftOF n b >>= fun o => setShiftFlags w r c o >>= fun _ => pure r) s =
      .ok r { s with flags := { s.flags with CF := c, OF := o, AF := af }.setSZP w r, draws := k } ∧
    (n = 1 → o = b) := by
  obtain ⟨o, k, ho, hone⟩ := shiftOF_ok n b s
  exact ⟨o, State.nextFree { s with draws := k }, k + 1, (bind_ok ho).trans rfl, hone⟩

/-- The end of a rotation, which sets CF and OF alone. -/
theorem rotateEnd_ok (n : Nat) (r : Word) (c b : Bool) (s : State) : ∃ o k,
    (shiftOF n b >>= fun o => setRotateFlags c o >>= fun _ => pure r) s =
      .ok r { s with flags := { s.flags with CF := c, OF := o }, draws := k } ∧ (n = 1 → o = b) := by
  obtain ⟨o, k, ho, hone⟩ := shiftOF_ok n b s
  exact ⟨o, k, (bind_ok ho).trans rfl, hone⟩

/-! ### The operations (41 R421 to R427) -/

theorem shiftBy_shl (hr : r = w.trunc (BitVec.ofNat 32 (v.toNat * 2 ^ n))) : ∃ c o af k,
    shiftBy .shl w v n u =
      .ok r { u with flags := { u.flags with CF := c, OF := o, AF := af }.setSZP w r, draws := k } ∧
    (n ≤ w.bits → c = bit v (w.bits - n)) ∧ (n = 1 → o = (w.msb r != c)) := by
  subst hr
  obtain ⟨c, k, hc, hcf⟩ := shiftCF_ok w n (bit v (w.bits - n)) u
  obtain ⟨o, af, k', hend, hof⟩ := shiftEnd_ok w n _ c _ { u with draws := k }
  exact ⟨c, o, af, k', (bind_ok (get_apply u)).trans ((bind_ok hc).trans hend), hcf, hof⟩

theorem shiftBy_shr (hr : r = BitVec.ofNat 32 (v.toNat / 2 ^ n)) : ∃ c o af k,
    shiftBy .shr w v n u =
      .ok r { u with flags := { u.flags with CF := c, OF := o, AF := af }.setSZP w r, draws := k } ∧
    (n ≤ w.bits → c = bit v (n - 1)) ∧ (n = 1 → o = w.msb v) := by
  subst hr
  obtain ⟨c, k, hc, hcf⟩ := shiftCF_ok w n (bit v (n - 1)) u
  obtain ⟨o, af, k', hend, hof⟩ := shiftEnd_ok w n _ c _ { u with draws := k }
  exact ⟨c, o, af, k', (bind_ok (get_apply u)).trans ((bind_ok hc).trans hend), hcf, hof⟩

theorem shiftBy_sar (hr : r = w.ofInt (w.signed v / (2 ^ n : Nat))) : ∃ c o af k,
    shiftBy .sar w v n u =
      .ok r { u with flags := { u.flags with CF := c, OF := o, AF := af }.setSZP w r, draws := k } ∧
    c = (if n ≤ w.bits then bit v (n - 1) else w.msb v) ∧ (n = 1 → o = false) := by
  subst hr
  obtain ⟨o, af, k, hend, hof⟩ := shiftEnd_ok w n _ _ _ u
  exact ⟨_, o, af, k, (bind_ok (get_apply u)).trans hend, rfl, hof⟩

theorem shiftBy_rol (hr : r = BitVec.ofNat 32 (rotLeft w.bits v.toNat n)) : ∃ o k,
    shiftBy .rol w v n u = .ok r { u with flags := { u.flags with CF := bit r 0, OF := o }, draws := k } ∧
    (n = 1 → o = (w.msb r != bit r 0)) := by
  subst hr
  obtain ⟨o, k, hend, hof⟩ := rotateEnd_ok n _ _ _ u
  exact ⟨o, k, (bind_ok (get_apply u)).trans hend, hof⟩

theorem shiftBy_ror (hr : r = BitVec.ofNat 32 (rotLeft w.bits v.toNat (w.bits - n % w.bits))) : ∃ o k,
    shiftBy .ror w v n u = .ok r { u with flags := { u.flags with CF := w.msb r, OF := o }, draws := k } ∧
    (n = 1 → o = (w.msb r != bit r (w.bits - 2))) := by
  subst hr
  obtain ⟨o, k, hend, hof⟩ := rotateEnd_ok n _ _ _ u
  exact ⟨o, k, (bind_ok (get_apply u)).trans hend, hof⟩

/-- RCL and RCR by a multiple of the width plus 1 change nothing. -/
theorem shiftBy_carry_idle (hop : op = .rcl ∨ op = .rcr) (hn : n % (w.bits + 1) = 0) :
    shiftBy op w v n u = .ok v u := by
  rcases hop with rfl | rfl
  all_goals
    refine (bind_ok (get_apply u)).trans ?_
    simp only [hn]
    rfl

theorem shiftBy_rcl {x : Nat} (hn : n % (w.bits + 1) ≠ 0)
    (hx : x = rotLeft (w.bits + 1) (withCarry w u.flags.CF v) (n % (w.bits + 1)))
    (hr : r = w.trunc (BitVec.ofNat 32 x)) : ∃ o k, shiftBy .rcl w v n u =
      .ok r { u with flags := { u.flags with CF := decide (2 ^ w.bits ≤ x), OF := o }, draws := k } ∧
    (n = 1 → o = (w.msb r != decide (2 ^ w.bits ≤ x))) := by
  subst hx hr
  obtain ⟨o, k, hend, hof⟩ := rotateEnd_ok n _ _ _ u
  exact ⟨o, k, (bind_ok (get_apply u)).trans ((congrFun (if_neg (mt beq_iff_eq.mp hn)) u).trans hend), hof⟩

theorem shiftBy_rcr {x : Nat} (hn : n % (w.bits + 1) ≠ 0)
    (hx : x = rotLeft (w.bits + 1) (withCarry w u.flags.CF v) (w.bits + 1 - n % (w.bits + 1)))
    (hr : r = w.trunc (BitVec.ofNat 32 x)) : ∃ o k, shiftBy .rcr w v n u =
      .ok r { u with flags := { u.flags with CF := decide (2 ^ w.bits ≤ x), OF := o }, draws := k } ∧
    (n = 1 → o = (w.msb r != bit r (w.bits - 2))) := by
  subst hx hr
  obtain ⟨o, k, hend, hof⟩ := rotateEnd_ok n _ _ _ u
  exact ⟨o, k, (bind_ok (get_apply u)).trans ((congrFun (if_neg (mt beq_iff_eq.mp hn)) u).trans hend), hof⟩

/-- A shift or rotate changes the flags and the count of free values only. -/
theorem shiftBy_frame (op : ShiftOp) (w : Width) (v : Word) (n : Nat) (u : State) :
    ∃ r f k, shiftBy op w v n u = .ok r { u with flags := f, draws := k } := by
  by_cases hidle : (op = .rcl ∨ op = .rcr) ∧ n % (w.bits + 1) = 0
  · exact ⟨v, u.flags, u.draws, shiftBy_carry_idle hidle.1 hidle.2⟩
  · cases op with
    | shl =>
      obtain ⟨c, o, af, k, h, -⟩ := shiftBy_shl (w := w) (v := v) (n := n) (u := u) rfl
      exact ⟨_, _, k, h⟩
    | shr =>
      obtain ⟨c, o, af, k, h, -⟩ := shiftBy_shr (w := w) (v := v) (n := n) (u := u) rfl
      exact ⟨_, _, k, h⟩
    | sar =>
      obtain ⟨c, o, af, k, h, -⟩ := shiftBy_sar (w := w) (v := v) (n := n) (u := u) rfl
      exact ⟨_, _, k, h⟩
    | rol =>
      obtain ⟨o, k, h, -⟩ := shiftBy_rol (w := w) (v := v) (n := n) (u := u) rfl
      exact ⟨_, _, k, h⟩
    | ror =>
      obtain ⟨o, k, h, -⟩ := shiftBy_ror (w := w) (v := v) (n := n) (u := u) rfl
      exact ⟨_, _, k, h⟩
    | rcl =>
      obtain ⟨o, k, h, -⟩ := shiftBy_rcl (v := v) (u := u) (fun hn => hidle ⟨.inl rfl, hn⟩) rfl rfl
      exact ⟨_, _, k, h⟩
    | rcr =>
      obtain ⟨o, k, h, -⟩ := shiftBy_rcr (v := v) (u := u) (fun hn => hidle ⟨.inr rfl, hn⟩) rfl rfl
      exact ⟨_, _, k, h⟩

/-! ### Results as numbers -/

/-- A rotation through CF by one place moves something. -/
theorem Width.one_mod_ne_zero (w : Width) : 1 % (w.bits + 1) ≠ 0 := by cases w <;> decide

/-- A rotated number fits in a word. -/
theorem rotated_toNat (w : Width) (v n : Nat) : (BitVec.ofNat 32 (rotLeft w.bits v n)).toNat = rotLeft w.bits v n :=
  Nat.mod_eq_of_lt ((rotLeft_lt _ _ _).trans_le (Nat.pow_le_pow_right (by decide) w.bits_bounds.2))

theorem rotated_lt (w : Width) (v n : Nat) : (BitVec.ofNat 32 (rotLeft w.bits v n)).toNat < 2 ^ w.bits := by
  rw [rotated_toNat]
  exact rotLeft_lt _ _ _

/-- An integer within the signed range is read back as itself. -/
theorem Width.signed_ofInt {z : Int} (hlo : -(2 ^ (w.bits - 1) : Nat) ≤ z) (hhi : z < (2 ^ (w.bits - 1) : Nat)) :
    w.signed (w.ofInt z) = z := by
  have hz := w.ofInt_toNat z
  have hlt : (w.ofInt z).toNat < 2 ^ w.bits := w.trunc_lt _
  rw [Width.signed_eq hlt]
  cases w <;> simp only [Width.bits, Nat.reduceSub, Nat.reducePow] at * <;> omega

theorem Width.signed_bounds (h : a.toNat < 2 ^ w.bits) :
    -(2 ^ (w.bits - 1) : Nat) ≤ w.signed a ∧ w.signed a < (2 ^ (w.bits - 1) : Nat) := by
  rw [Width.signed_eq h]
  cases w <;> simp only [Width.bits, Nat.reduceSub, Nat.reducePow] at * <;> omega

/-- Division by a positive number stays within bounds that hold 0. -/
theorem ediv_bounds {z h d : Int} (hh : 0 ≤ h) (hd : 0 < d) (hlo : -h ≤ z) (hhi : z < h) : -h ≤ z / d ∧ z / d < h :=
  ⟨(Int.le_ediv_iff_mul_le hd).mpr (by nlinarith), (Int.ediv_lt_iff_lt_mul hd).mpr (by nlinarith)⟩

/-- Below the width the bits of a signed value are those of the word. -/
theorem Width.signed_ediv_odd (h : a.toNat < 2 ^ w.bits) (hk : k < w.bits) :
    w.signed a / (2 ^ k : Nat) % 2 = 1 ↔ a.toNat / 2 ^ k % 2 = 1 := by
  rw [Width.signed_eq h]
  split
  · obtain ⟨j, hj⟩ : ∃ j, w.bits = j + 1 + k := ⟨w.bits - 1 - k, by omega⟩
    have hsub : (a.toNat : Int) - (2 ^ w.bits : Nat) = a.toNat + (-(2 ^ j * 2 : Nat)) * (2 ^ k : Nat) := by
      rw [hj, Nat.pow_add, Nat.pow_succ]
      push_cast
      ring
    rw [hsub, Int.add_mul_ediv_right _ _ (Int.natCast_ne_zero.mpr (Nat.two_pow_pos k).ne'), ← Int.natCast_ediv]
    omega
  · rw [← Int.natCast_ediv]
    omega

/-- From the width on they are the sign. -/
theorem Width.signed_ediv_sign (h : a.toNat < 2 ^ w.bits) (hk : w.bits ≤ k) :
    w.signed a / (2 ^ k : Nat) % 2 = 1 ↔ 2 ^ (w.bits - 1) ≤ a.toNat := by
  have hpow : 2 ^ w.bits ≤ 2 ^ k := Nat.pow_le_pow_right (by decide) hk
  rw [Width.signed_eq h]
  split
  · rw [Int.ediv_eq_neg_one_of_neg_of_le (by omega) (by omega)]
    simp [*]
  · rw [Int.ediv_eq_zero_of_lt (by omega) (by omega)]
    simp [*]

end Sys2Proof.Machine

namespace Sys2Proof.Claims

open Sys2Proof.Machine

/-- Settles O12: the result of each shift is the model's own number; CF and OF are bits of the operand. -/
theorem shiftResults : Obligations.ShiftResults := by
  intro w a n u ha hn hn'
  refine ⟨?shl, ?shr, ?sar⟩
  case shl =>
    obtain ⟨c, o, af, k, hok, hc, ho⟩ := shiftBy_shl (w := w) (v := a) (n := n) (u := u) rfl
    have hr := w.trunc_ofNat_toNat (a.toNat * 2 ^ n)
    refine ⟨_, _, k, hok, hr, fun h => (hc h).trans (bit_eq _ _), fun hone => ?_, af, o, c, rfl⟩
    subst hone
    refine (ho rfl).trans ?_
    rw [hc (by have := w.bits_bounds; omega), Width.msb_eq (w.trunc_lt _), hr, bit_eq, bne_decide, decide_eq_decide]
    cases w <;> simp only [Width.bits, Nat.reduceSub, Nat.reducePow] at ha ⊢ <;> omega
  case shr =>
    obtain ⟨c, o, af, k, hok, hc, ho⟩ := shiftBy_shr (w := w) (v := a) (n := n) (u := u) rfl
    refine ⟨_, _, k, hok, ?_, fun h => (hc h).trans (bit_eq _ _), fun h => (ho h).trans (Width.msb_eq ha),
      af, o, c, rfl⟩
    exact Nat.mod_eq_of_lt ((Nat.div_le_self _ _).trans_lt a.isLt)
  case sar =>
    obtain ⟨c, o, af, k, hok, hc, ho⟩ := shiftBy_sar (w := w) (v := a) (n := n) (u := u) rfl
    obtain ⟨hlo, hhi⟩ := Width.signed_bounds ha
    obtain ⟨hqlo, hqhi⟩ := ediv_bounds (Int.natCast_nonneg _)
      (Int.natCast_pos.mpr (Nat.two_pow_pos n)) hlo hhi
    refine ⟨_, _, k, hok, w.trunc_lt _, Width.signed_ofInt hqlo hqhi, hc.trans ?_, ho, af, o, c, rfl⟩
    split
    · rw [bit_eq, decide_eq_decide, Width.signed_ediv_odd ha (by omega)]
    · rw [Width.msb_eq ha, decide_eq_decide, Width.signed_ediv_sign ha (by omega)]

/-- Settles O13: each rotation is one of numbers, which repeats the one by one place; RCL and RCR turn CF and
the operand together, also where they move nothing. -/
theorem rotatesResults : Obligations.RotatesResults := by
  refine ⟨fun w a n u ha hn hn' => ⟨?rol, ?ror⟩, fun w a n u ha hn hn' => ⟨?rcl, ?rcr⟩⟩
  case rol =>
    obtain ⟨o, k, hok, ho⟩ := shiftBy_rol (w := w) (v := a) (n := n) (u := u) rfl
    refine ⟨_, _, k, hok, ?_, ?_, fun h => (ho h).trans ?_, o, _, rfl⟩
    · exact (rotated_toNat w _ _).trans (repeat_rotLeftOnce w.bits_pos ha n).symm
    · simp [bit_eq]
    · rw [Width.msb_eq (rotated_lt w _ _)]
  case ror =>
    obtain ⟨o, k, hok, ho⟩ := shiftBy_ror (w := w) (v := a) (n := n) (u := u) rfl
    have hmsb := Width.msb_eq (rotated_lt w a.toNat (w.bits - n % w.bits))
    refine ⟨_, _, k, hok, ?_, hmsb, fun h => (ho h).trans ?_, o, _, rfl⟩
    · exact (rotated_toNat w _ _).trans (repeat_rotRightOnce w.bits_pos ha n).symm
    · rw [hmsb, bit_eq]
  case rcl =>
    have hrep := splitCarry_rotLeft (c := u.flags.CF) ha n
    by_cases hidle : n % (w.bits + 1) = 0
    · rw [← rotLeft_mod, hidle, splitCarry_rotLeft ha 0] at hrep
      exact ⟨a, u.flags, u.draws, shiftBy_carry_idle (.inl rfl) hidle, hrep,
        fun h => absurd (h ▸ hidle) (Width.one_mod_ne_zero w), _, _, rfl⟩
    · obtain ⟨o, k, hok, ho⟩ := shiftBy_rcl (v := a) (u := u) hidle rfl rfl
      rw [← rotLeft_mod] at hrep
      refine ⟨_, _, k, hok, ?_, fun h => (ho h).trans ?_, o, _, rfl⟩
      · rw [w.trunc_ofNat_toNat]
        exact hrep
      · rw [Width.msb_eq (w.trunc_lt _)]
  case rcr =>
    have hrep := splitCarry_rotRight (c := u.flags.CF) ha n
    by_cases hidle : n % (w.bits + 1) = 0
    · rw [← rotLeft_mod, hidle, Nat.sub_zero, Nat.mod_self, splitCarry_rotLeft ha 0] at hrep
      exact ⟨a, u.flags, u.draws, shiftBy_carry_idle (.inr rfl) hidle, hrep,
        fun h => absurd (h ▸ hidle) (Width.one_mod_ne_zero w), _, _, rfl⟩
    · obtain ⟨o, k, hok, ho⟩ := shiftBy_rcr (v := a) (u := u) hidle rfl rfl
      refine ⟨_, _, k, hok, ?_, fun h => (ho h).trans ?_, o, _, rfl⟩
      · rw [w.trunc_ofNat_toNat]
        exact hrep
      · rw [Width.msb_eq (w.trunc_lt _), bit_eq]

end Sys2Proof.Claims
end

section
/-! PROOF. The shift and rotate instructions, and the double shifts. -/

namespace Sys2Proof.Machine

open Sys2Proof.Claims

variable {s t u : State} {i : Instr} {op : ShiftOp} {left : Bool} {w : Width} {n : Nat} {a b c r : Word} {rm : RM}
  {reg : RegNo} {p : Place}

/-! ### Shifts and rotates (41 R421 to R427) -/

theorem idle_iff (op : ShiftOp) (w : Width) (n : Nat) :
    op.idle w n = true ↔ n = 0 ∨ (op = .rcl ∨ op = .rcr) ∧ n % (w.bits + 1) = 0 := by
  have hzero : n = 0 → n % (w.bits + 1) = 0 := fun h => by rw [h, Nat.zero_mod]
  cases op <;> simp [ShiftOp.idle, or_iff_right_of_imp hzero]

theorem shiftRM_idle (hx : modifyRM w rm s = .ok (p, a) u) (hi : op.idle w (c.toNat % 32) = true) :
    shiftRM op w rm c s = .ok () u :=
  (bind_ok hx).trans (congrFun (if_pos hi) u)

theorem shiftRM_ok (hx : modifyRM w rm s = .ok (p, a) u) (hi : ¬op.idle w (c.toNat % 32) = true)
    (hr : shiftBy op w a (c.toNat % 32) u = .ok r t) : shiftRM op w rm c s = putPlace w p r t :=
  (bind_ok hx).trans ((congrFun (if_neg hi) u).trans (bind_ok hr))

theorem exec_shifts (h : Shifts s i op w rm c) : exec i s = plainInsn (shiftRM op w rm c) s := by
  cases h <;> rfl

/-! ### Double shifts (41 R428, R429) -/

/-- The bits of a double shift within the operand size. -/
def doubleShifted (left : Bool) (w : Width) (d s : Word) (n : Nat) : Word :=
  if left then w.trunc (BitVec.ofNat 32 ((d.toNat * 2 ^ w.bits + s.toNat) * 2 ^ n / 2 ^ w.bits))
  else w.trunc (BitVec.ofNat 32 ((s.toNat * 2 ^ w.bits + d.toNat) / 2 ^ n))

theorem doubleShifted_lt (left : Bool) (w : Width) (d s : Word) (n : Nat) :
    (doubleShifted left w d s n).toNat < 2 ^ w.bits := by
  unfold doubleShifted
  split <;> exact w.trunc_lt _

/-- To the left the upper bits of the register come in below, to the right its lower bits above. -/
theorem doubleShifted_toNat (hb : b.toNat < 2 ^ w.bits) (hn : n ≤ w.bits) (ha : a.toNat < 2 ^ w.bits) :
    (doubleShifted left w a b n).toNat =
      if left then a.toNat * 2 ^ n % 2 ^ w.bits + b.toNat / 2 ^ (w.bits - n)
      else a.toNat / 2 ^ n + b.toNat % 2 ^ n * 2 ^ (w.bits - n) := by
  have hpow : 2 ^ w.bits = 2 ^ (w.bits - n) * 2 ^ n := by rw [← Nat.pow_add, Nat.sub_add_cancel hn]
  cases left with
  | true =>
    have hdiv : (a.toNat * 2 ^ w.bits + b.toNat) * 2 ^ n / 2 ^ w.bits =
        a.toNat * 2 ^ n + b.toNat / 2 ^ (w.bits - n) := by
      rw [show (a.toNat * 2 ^ w.bits + b.toNat) * 2 ^ n = 2 ^ w.bits * (a.toNat * 2 ^ n) + b.toNat * 2 ^ n by ring,
        Nat.mul_add_div (Nat.two_pow_pos _)]
      rw [hpow, Nat.mul_div_mul_right _ _ (Nat.two_pow_pos n)]
    have hmod := mul_pow_add_mod (x := a.toNat) (j := w.bits - n) (div_pow_lt hn hb)
    rw [Nat.sub_add_cancel hn] at hmod
    rw [doubleShifted, if_pos rfl, if_pos rfl, Width.trunc_ofNat_toNat, hdiv, hmod, hpow, Nat.mul_mod_mul_right]
  | false =>
    have hdiv : (b.toNat * 2 ^ w.bits + a.toNat) / 2 ^ n = b.toNat * 2 ^ (w.bits - n) + a.toNat / 2 ^ n := by
      rw [hpow, show b.toNat * (2 ^ (w.bits - n) * 2 ^ n) = 2 ^ n * (b.toNat * 2 ^ (w.bits - n)) by ring,
        Nat.mul_add_div (Nat.two_pow_pos n)]
    have hhigh : a.toNat / 2 ^ n < 2 ^ (w.bits - n) := Nat.div_lt_of_lt_mul (by rwa [Nat.mul_comm, ← hpow])
    have hmod := mul_pow_add_mod (x := b.toNat) (j := n) hhigh
    rw [Nat.add_sub_cancel' hn] at hmod
    rw [doubleShifted, if_neg Bool.false_ne_true, if_neg Bool.false_ne_true, Width.trunc_ofNat_toNat, hdiv, hmod,
      Nat.add_comm]

theorem shiftDouble_ok (hn : n ≤ w.bits) (hr : r = doubleShifted left w a b n) : ∃ o af k, shiftDouble left w a b n u =
      .ok r { u with flags := { u.flags with CF := if left then bit a (w.bits - n) else bit a (n - 1), OF := o,
                                             AF := af }.setSZP w r, draws := k } ∧
    (n = 1 → o = (w.msb r != w.msb a)) := by
  subst hr
  obtain ⟨o, af, k, hend, hof⟩ := shiftEnd_ok w n (doubleShifted left w a b n) _ _ u
  exact ⟨o, af, k, (congrFun (if_neg (Nat.not_lt.mpr hn)) u).trans hend, hof⟩

/-- Beyond the operand size the result and the flags are free. -/
theorem shiftDouble_beyond (hn : w.bits < n) : shiftDouble left w a b n u =
    .ok (w.trunc (Config.free 32 u.draws)) (allFlagsFree { u with draws := u.draws + 1 }) :=
  congrFun (if_pos hn) u

theorem shiftDoubleRM_idle (hx : modifyRM w rm s = .ok (p, a) u) (hn : c.toNat % 32 = 0) :
    shiftDoubleRM left w rm reg c s = .ok () u :=
  (bind_ok hx).trans ((bind_ok getReg_apply).trans (congrFun (if_pos (beq_iff_eq.mpr hn)) u))

theorem shiftDoubleRM_ok (hx : modifyRM w rm s = .ok (p, a) u) (hn : c.toNat % 32 ≠ 0)
    (hr : shiftDouble left w a (u.reg w reg) (c.toNat % 32) u = .ok r t) :
    shiftDoubleRM left w rm reg c s = putPlace w p r t :=
  (bind_ok hx).trans ((bind_ok getReg_apply).trans
    ((congrFun (if_neg (mt beq_iff_eq.mp hn)) u).trans (bind_ok hr)))

theorem exec_doubleShifts (h : DoubleShifts s i left rm reg c) :
    exec i s = plainInsn (shiftDoubleRM left s.opWidth rm reg c) s := by
  cases h <;> rfl

end Sys2Proof.Machine

namespace Sys2Proof.Claims

open Sys2Proof.Machine

/-- Settles O11: an idle count ends the instruction after the access; another one changes the flags, then the place. -/
theorem shiftCompletes : Obligations.ShiftCompletes := by
  intro s u i op w rm c a p hi hpre hm hx
  have hk := (modifyRM_keeps _ _).ok hx
  have hidle := idle_iff op w (c.toNat % 32)
  rw [exec_shifts hi]
  refine ⟨hk, fun hc => plainInsn_ok hpre (shiftRM_idle hx (hidle.mpr hc)), fun hc => ?_⟩
  obtain ⟨r, f, k, hr⟩ := shiftBy_frame op w a (c.toNat % 32) u
  obtain ⟨t, ht, hputs⟩ := putPlace_ok (u := { u with flags := f, draws := k }) (hk.wf hm) (modifyRM_place hx) r
  exact ⟨r, f, k, t, hr, plainInsn_ok hpre ((shiftRM_ok hx (mt hidle.mp hc) hr).trans ht), hputs⟩

/-- Settles O14: the same with a register whose bits come in; beyond the operand size every status flag is free. -/
theorem doubleShiftCompletes : Obligations.DoubleShiftCompletes := by
  intro s u i left rm reg c a p hi hpre hm hx ha
  have hk := (modifyRM_keeps _ _).ok hx
  have hreg : u.reg s.opWidth reg = s.reg s.opWidth reg := hk.reg
  have hput (r : Word) (f : Flags) (k : Nat) :=
    putPlace_ok (u := { u with flags := f, draws := k }) (hk.wf hm) (modifyRM_place hx) r
  rw [exec_doubleShifts hi]
  refine ⟨hk, fun hc => plainInsn_ok hpre (shiftDoubleRM_idle hx hc), fun hc => ?_⟩
  by_cases hn : c.toNat % 32 ≤ s.opWidth.bits
  · obtain ⟨o, af, k, hr, ho⟩ := shiftDouble_ok (left := left) (a := a) (b := u.reg s.opWidth reg) (u := u) hn rfl
    obtain ⟨t, ht, hputs⟩ := hput _ _ k
    refine ⟨_, _, k, t, plainInsn_ok hpre ((shiftDoubleRM_ok hx hc hr).trans ht), hputs, doubleShifted_lt _ _ _ _ _,
      ⟨rfl, rfl, rfl, rfl, rfl, rfl, rfl⟩, fun _ => ⟨?_, ?_, ho, af, o, _, rfl⟩⟩
    · rw [hreg]
      exact doubleShifted_toNat (s.regs.read_lt _ _) hn ha
    · rw [← bit_eq, ← bit_eq]
      rfl
  · obtain ⟨t, ht, hputs⟩ := hput _ _ _
    exact ⟨_, _, _, t, plainInsn_ok hpre ((shiftDoubleRM_ok hx hc (shiftDouble_beyond (Nat.lt_of_not_le hn))).trans ht),
      hputs, s.opWidth.trunc_lt _, ⟨rfl, rfl, rfl, rfl, rfl, rfl, rfl⟩, fun h => absurd h hn⟩

end Sys2Proof.Claims
end

section
/-! PROOF. Bit tests and bit scans. -/

namespace Sys2Proof.Machine

open Sys2Proof.Claims

variable {s t u : State} {i : Instr} {w : Width} {rm : RM} {reg : RegNo} {m : Mem} {v o unit : Word} {k : Nat}
  {a : RegNo ⊕ (SegNo × Word)} {p : Place} {g : Bool → Bool}

/-! ### The unit that holds a bit (41 R430; log 46) -/

theorem unitRead_keeps (w : Width) (a : RegNo ⊕ (SegNo × Word)) : Preserves AccessKeeps (unitRead w a) := by
  cases a with
  | inl n => exact readRM_keeps w (.reg n)
  | inr a => exact Preserves.bind .trans (memRead_keeps _ _ _) fun _ => Preserves.pure .refl _

theorem unitModify_keeps (w : Width) (a : RegNo ⊕ (SegNo × Word)) : Preserves AccessKeeps (unitModify w a) := by
  cases a with
  | inl n => exact modifyRM_keeps w (.reg n)
  | inr a =>
    exact Preserves.bind .trans (memAddrs_keeps _ _ _ _ _) fun _ =>
      Preserves.bind .trans (physReadList_keeps _) fun _ => Preserves.pure .refl _

theorem unitModify_place (h : unitModify w a s = .ok (p, v) u) :
    (∃ n, p = .reg n) ∨ ∃ pas, p = .bytes pas ∧ pas.Nodup ∧ pas.length = w.bytes := by
  cases a with
  | inl n => exact modifyRM_place (rm := .reg n) h
  | inr a => exact .inr (modifyMem_place h)

/-- The operand `rm`, with `unit` to find the unit by and `o` to find the bit in it, names bit `k` of unit `a`. -/
def NamesBit (s : State) (rm : RM) (unit o : Word) (a : RegNo ⊕ (SegNo × Word)) (k : Nat) : Prop :=
  readBitUnit s.opWidth rm unit s.started = unitRead s.opWidth a s.started ∧
  modifyBitUnit s.opWidth rm unit s.started = unitModify s.opWidth a s.started ∧
  bitIndex s.opWidth o = k ∧ rm.isMem = a.isRight

theorem bitIndex_imm (w : Width) (imm : Byte) : bitIndex w (imm.setWidth 32) = imm.toNat % w.bits := by
  rw [bitIndex, BitVec.toNat_setWidth, Nat.mod_eq_of_lt (imm.isLt.trans (by decide))]

/-- Offset 0 names the operand itself. -/
theorem bitUnit_zero (s : State) (w : Width) (m : Mem) :
    s.bitUnit w m 0#32 = ((s.ea m).1, s.adWidth.trunc (s.ea m).2) := by
  have hzero : w.signed 0#32 = 0 := by cases w <;> rfl
  simp [State.bitUnit, hzero]

theorem namesBit_reg (s : State) (n : RegNo) (unit o : Word) :
    NamesBit s (.reg n) unit o (.inl n) (bitIndex s.opWidth o) := ⟨rfl, rfl, rfl, rfl⟩

theorem namesBit_mem (s : State) (m : Mem) (unit o : Word) :
    NamesBit s (.mem m) unit o (.inr (s.bitUnit s.opWidth m unit)) (bitIndex s.opWidth o) := ⟨rfl, rfl, rfl, rfl⟩

theorem namesBit_immReg (s : State) (n : RegNo) (imm : Byte) :
    NamesBit s (.reg n) 0#32 (imm.setWidth 32) (.inl n) (imm.toNat % s.opWidth.bits) :=
  bitIndex_imm s.opWidth imm ▸ namesBit_reg s n 0#32 (imm.setWidth 32)

theorem namesBit_immMem (s : State) (m : Mem) (imm : Byte) : NamesBit s (.mem m) 0#32 (imm.setWidth 32)
    (.inr ((s.ea m).1, s.adWidth.trunc (s.ea m).2)) (imm.toNat % s.opWidth.bits) :=
  bitIndex_imm s.opWidth imm ▸ bitUnit_zero s s.opWidth m ▸ namesBit_mem s m 0#32 (imm.setWidth 32)

theorem NamesBit.lt (h : NamesBit s rm unit o a k) : k < 32 := by
  obtain ⟨-, -, rfl, -⟩ := h
  exact (Nat.mod_lt _ s.opWidth.bits_pos).trans_le s.opWidth.bits_bounds.2

/-! ### Bit tests (41 R430 to R433) -/

theorem bitFlags_apply (c : Bool) (s : State) : bitFlags c s = .ok () (bitFlagged s c) := rfl

/-- What BTS, BTR and BTC make of the bit. -/
def BitOp.onBit : BitOp → Bool → Bool
  | .set => fun _ => true
  | .reset => fun _ => false
  | .complement => not

theorem bit_one_shiftLeft (hk : k < 32) (j : Nat) : bit (1#32 <<< k) j = decide (j = k) :=
  (BitVec.getLsbD_twoPow k j).trans (by simp [hk, eq_comm])

theorem bit_and_not (v x : Word) (j : Nat) : bit (v &&& ~~~x) j = (bit v j && !bit x j) := by
  simp only [bit, BitVec.getLsbD_and, BitVec.getLsbD_not]
  by_cases hj : j < 32
  · simp [hj]
  · simp [BitVec.getLsbD_of_ge v j (Nat.le_of_not_lt hj)]

theorem BitOp.bit_apply (op : BitOp) (v : Word) (hk : k < 32) (j : Nat) :
    bit (op.apply v k) j = if j = k then op.onBit (bit v k) else bit v j := by
  have happly : bit (op.apply v k) j = match op with
      | .set => bit v j || bit (1#32 <<< k) j
      | .reset => bit v j && !bit (1#32 <<< k) j
      | .complement => bit v j ^^ bit (1#32 <<< k) j := by
    cases op with
    | set => exact BitVec.getLsbD_or
    | reset => exact bit_and_not _ _ _
    | complement => exact BitVec.getLsbD_xor
  rw [happly, bit_one_shiftLeft hk]
  by_cases hj : j = k
  · subst hj
    cases op <;> simp [BitOp.onBit]
  · cases op <;> simp [hj]

theorem exec_testsBit (h : TestsBit s i a k) :
    ∃ rm unit o, exec i s = plainInsn (bitTest s.opWidth rm unit o) s ∧ NamesBit s rm unit o a k := by
  cases h with
  | btReg => exact ⟨_, _, _, rfl, namesBit_reg _ _ _ _⟩
  | btMem => exact ⟨_, _, _, rfl, namesBit_mem _ _ _ _⟩
  | btImmReg => exact ⟨_, _, _, rfl, namesBit_immReg _ _ _⟩
  | btImmMem => exact ⟨_, _, _, rfl, namesBit_immMem _ _ _⟩

theorem exec_changesBit (h : ChangesBit s i a k g) : ∃ op rm unit o,
    exec i s = lockInsn rm.isMem (bitChange op s.opWidth rm unit o) s ∧ g = op.onBit ∧ NamesBit s rm unit o a k := by
  cases h with
  | btsReg | btrReg | btcReg => exact ⟨_, _, _, _, rfl, rfl, namesBit_reg _ _ _ _⟩
  | btsMem | btrMem | btcMem => exact ⟨_, _, _, _, rfl, rfl, namesBit_mem _ _ _ _⟩
  | btsImmReg | btrImmReg | btcImmReg => exact ⟨_, _, _, _, rfl, rfl, namesBit_immReg _ _ _⟩
  | btsImmMem | btrImmMem | btcImmMem => exact ⟨_, _, _, _, rfl, rfl, namesBit_immMem _ _ _⟩

theorem bitTest_ok (hn : NamesBit s rm unit o a k) (hx : unitRead s.opWidth a s.started = .ok v u) :
    bitTest s.opWidth rm unit o s.started = .ok () (bitFlagged u (bit v k)) := by
  obtain ⟨hread, -, rfl, -⟩ := hn
  exact (bind_ok (hread.trans hx)).trans (bitFlags_apply _ _)

theorem bitChange_ok {op : BitOp} (hn : NamesBit s rm unit o a k)
    (hx : unitModify s.opWidth a s.started = .ok (p, v) u)
    (hp : putPlace s.opWidth p (op.apply v k) (bitFlagged u (bit v k)) = .ok () t) :
    bitChange op s.opWidth rm unit o s.started = .ok () t := by
  obtain ⟨-, hmodify, rfl, -⟩ := hn
  exact (bind_ok (hmodify.trans hx)).trans ((bind_ok (bitFlags_apply _ _)).trans hp)

/-! ### Bit scans (41 R434, R435) -/

theorem exists_bit_of_ne_zero (h : v ≠ 0#32) : ∃ j < 32, bit v j = true := by
  by_contra hnone
  push Not at hnone
  refine h (word_ext fun i hi => ?_)
  rw [Bool.eq_false_of_not_eq_true (hnone i hi)]
  simp [bit]

theorem lowestBit_spec {j : Nat} (i : Nat) (hi : i ≤ j) (hj : j < i + k) (hb : bit v j = true) :
    bit v (lowestBit v k i) = true ∧ lowestBit v k i ≤ j := by
  induction k generalizing i with
  | zero => omega
  | succ k ih =>
    rw [lowestBit]
    split
    · exact ⟨‹_›, hi⟩
    · have hne : i ≠ j := fun h => absurd (h ▸ hb) ‹_›
      exact ih (i + 1) (by omega) (by omega)

theorem highestBit_spec {j : Nat} (hj : j < k) (hb : bit v j = true) :
    bit v (highestBit v k) = true ∧ j ≤ highestBit v k ∧ highestBit v k < k := by
  induction k with
  | zero => omega
  | succ k ih =>
    rw [highestBit]
    split
    · exact ⟨‹_›, by omega, by omega⟩
    · have hne : j ≠ k := fun h => absurd (h ▸ hb) ‹_›
      obtain ⟨hbit, hle, hlt⟩ := ih (by omega)
      exact ⟨hbit, hle, by omega⟩

/-- The number BSF or BSR looks for. -/
def scanned (low : Bool) (v : Word) : Nat := if low then lowestBit v 32 0 else highestBit v 32

theorem scanned_spec (low : Bool) {j : Nat} (hj : j < 32) (hb : bit v j = true) :
    bit v (scanned low v) = true ∧ scanned low v < 32 ∧ if low then scanned low v ≤ j else j ≤ scanned low v := by
  cases low with
  | true =>
    obtain ⟨hbit, hle⟩ := lowestBit_spec (k := 32) 0 (Nat.zero_le j) (by omega) hb
    exact ⟨hbit, hle.trans_lt hj, hle⟩
  | false =>
    obtain ⟨hbit, hle, hlt⟩ := highestBit_spec hj hb
    exact ⟨hbit, hlt, hle⟩

theorem exec_bitScan (low : Bool) (reg : RegNo) (rm : RM) (s : State) :
    exec (if low then .bsfGvEv reg rm else .bsrGvEv reg rm) s =
      plainInsn (bitScan (scanned low) s.opWidth reg rm) s := by
  cases low <;> rfl

/-- The index goes to the register; where there is none, a free value. -/
theorem bitScan_ok {index : Word → Nat} (hx : readRM w rm s = .ok v u) : ∃ f k r, bitScan index w reg rm s =
      .ok () ({ u with flags := f, draws := k }.setReg w reg r) ∧
    (∃ o sf a p c, f = { u.flags with OF := o, SF := sf, ZF := v == 0#32, AF := a, PF := p, CF := c }) ∧
    (v ≠ 0#32 → r = BitVec.ofNat 32 (index v)) :=
  ⟨_, u.draws + 6, _, (bind_ok hx).trans rfl, ⟨_, _, _, _, _, rfl⟩, fun h => if_neg (mt beq_iff_eq.mp h)⟩

end Sys2Proof.Machine

namespace Sys2Proof.Claims

open Sys2Proof.Machine

/-- Settles O15: the operands name the bit, the unit is read or put back, and a scan finds its one bit. -/
theorem bitInstructionsComplete : Obligations.BitInstructionsComplete := by
  refine ⟨fun s u i a k v hi hpre hx => ⟨?test, (unitRead_keeps _ _).ok hx⟩,
    fun s u i a k g v p hi hpre hm hx => ?change, fun s u reg rm v low hpre hx => ?scan⟩
  case test =>
    obtain ⟨rm, unit, o, hexec, hn⟩ := exec_testsBit hi
    rw [hexec]
    exact plainInsn_ok hpre (bitTest_ok hn hx)
  case change =>
    obtain ⟨op, rm, unit, o, hexec, rfl, hn⟩ := exec_changesBit hi
    have hk := (unitModify_keeps _ _).ok hx
    obtain ⟨t, ht, hputs⟩ := putPlace_ok (u := bitFlagged u (bit v k)) (hk.wf hm) (unitModify_place hx) (op.apply v k)
    have hlock : s.prefixOk rm.isMem false := by
      obtain ⟨-, -, -, hmem⟩ := hn
      rw [hmem]
      cases a <;> exact hpre
    rw [hexec]
    exact ⟨t, _, lockInsn_ok hlock (bitChange_ok hn hx ht), hputs, op.bit_apply v hn.lt, hk⟩
  case scan =>
    obtain ⟨f, k, r, hok, hf, hr⟩ := bitScan_ok (index := scanned low) (reg := reg) hx
    rw [exec_bitScan]
    refine ⟨f, k, r, plainInsn_ok hpre hok, hf, fun hv => ?_, (readRM_keeps _ _).ok hx⟩
    obtain ⟨j, hj, hb⟩ := exists_bit_of_ne_zero hv
    obtain ⟨hbit, hlt, -⟩ := scanned_spec low hj hb
    have hnum : r.toNat = scanned low v := by
      rw [hr hv, BitVec.toNat_ofNat, Nat.mod_eq_of_lt (by omega)]
    rw [hnum]
    exact ⟨hbit, fun j hj hb => (scanned_spec low hj hb).2.2⟩

end Sys2Proof.Claims
end

section
/-! PROOF. Decimal adjustment, and BOUND. -/

namespace Sys2Proof.Machine

open Sys2Proof.Claims

variable {s u u' : State} {v : Word} {b : Byte} {m : Mem} {reg : RegNo} {x y n : Nat}

/-! ### AL and AH -/

theorem byte_toNat (b : Byte) : (b.setWidth 32).toNat = b.toNat := by
  rw [BitVec.toNat_setWidth, Nat.mod_eq_of_lt (b.isLt.trans (by decide))]

theorem reg_al (s : State) : s.reg .w8 .eax = (s.regs.eax.setWidth 8).setWidth 32 := by
  show s.regs.eax &&& 0xFF#32 = _
  refine word_ext fun i hi => ?_
  interval_cases i <;> simp [bit]

theorem reg_ah (s : State) : s.reg .w8 .esp = (s.regs.eax.extractLsb' 8 8).setWidth 32 := by
  show (s.regs.eax >>> 8) &&& 0xFF#32 = _
  refine word_ext fun i hi => ?_
  interval_cases i <;> simp [bit]

theorem reg_al_toNat (s : State) : (s.reg .w8 .eax).toNat = (s.regs.eax.setWidth 8).toNat := by
  rw [reg_al, byte_toNat]

theorem reg_ah_toNat (s : State) : (s.reg .w8 .esp).toNat = (s.regs.eax.extractLsb' 8 8).toNat := by
  rw [reg_ah, byte_toNat]

/-- AH and AL written one after the other are AX written. -/
theorem putByte_putByte (x v : Word) :
    putByte false (putByte true x (v >>> 8)) v = (x &&& 0xFFFF0000#32) ||| (v &&& 0xFFFF#32) := by
  refine word_ext fun i hi => ?_
  interval_cases i <;> simp [putByte, bit]

theorem setReg_ah_al (s : State) (v : Word) :
    (s.setReg .w8 .esp (v >>> 8)).setReg .w8 .eax v = s.setReg .w16 .eax v := by
  show { s with regs := { s.regs with eax := putByte false (putByte true s.regs.eax (v >>> 8)) v } } = _
  rw [putByte_putByte]
  rfl

theorem setReg_ah_al_ofNat (s : State) (x : Nat) (hy : y < 256) :
    (s.setReg .w8 .esp (BitVec.ofNat 32 x)).setReg .w8 .eax (BitVec.ofNat 32 y) =
      s.setReg .w16 .eax (BitVec.ofNat 32 (x * 256 + y)) := by
  have hhigh : s.setReg .w8 .esp (BitVec.ofNat 32 x) = s.setReg .w8 .esp (BitVec.ofNat 32 (x * 256 + y) >>> 8) := by
    refine s.setReg_congr _ (BitVec.eq_of_toNat_eq ?_)
    rw [Width.trunc_toNat, Width.trunc_toNat, BitVec.toNat_ushiftRight, Nat.shiftRight_eq_div_pow, BitVec.toNat_ofNat,
      BitVec.toNat_ofNat]
    simp only [Width.bits]
    omega
  rw [← setReg_ah_al, hhigh]
  refine State.setReg_congr _ _ (BitVec.eq_of_toNat_eq ?_)
  rw [Width.trunc_ofNat_toNat, Width.trunc_ofNat_toNat]
  simp only [Width.bits]
  omega

/-! ### DAA and DAS (41 R436, R437; log 42) -/

theorem adjustPacked_ok {g : Word → Bool → Bool → Word × Bool × Bool} {al : Word} {af cf : Bool}
    (hg : g (s.reg .w8 .eax) s.flags.AF s.flags.CF = (al, af, cf)) : adjustPacked g s =
      .ok () (State.setReg { s with draws := s.draws + 1, flags := packedFlags s al af cf } .w8 .eax al) := by
  rw [adjustPacked, bind_ok (get_apply s), hg]
  rfl

theorem ite_eq_mul_toNat (b : Bool) (k : Nat) : (if b then k else 0) = k * b.toNat := by cases b <;> simp

/-- The adjustment of the low digit and of the high one. -/
theorem daaResult_eq (hv : v.toNat = n) (af cf : Bool) :
    let low := decide (9 < n % 16) || af
    let high := decide (0x99 < n) || cf
    daaResult v af cf = (BitVec.ofNat 32 ((n + 6 * low.toNat + 0x60 * high.toNat) % 256), low, high) := by
  subst hv
  simp only [daaResult, ite_eq_mul_toNat, gt_iff_lt]

theorem dasResult_eq (hv : v.toNat = n) (af cf : Bool) :
    let low := decide (9 < n % 16) || af
    let high := decide (0x99 < n) || cf
    dasResult v af cf = (BitVec.ofInt 32 (((n : Int) - 6 * low.toNat - 0x60 * high.toNat) % 256), low,
      high || low && decide (n < 6)) := by
  subst hv
  intro low high
  have hl := low.toNat_le
  have hh := high.toNat_le
  have hdiff : (((v.toNat : Int) - 6 * low.toNat - 0x60 * high.toNat) % 256) =
      ((v.toNat + 512 - 6 * low.toNat - 0x60 * high.toNat) % 256 : Nat) := by omega
  rw [hdiff, BitVec.ofInt_natCast]
  simp only [dasResult, ite_eq_mul_toNat, gt_iff_lt, low, high]

/-! ### AAA and AAS (41 R438, R439; log 43) -/

/-- A correction by 1, and by 6, of a byte kept in a word. -/
theorem trunc_corrected (up adj : Bool) (b : Byte) :
    let d : Byte := if adj then 1#8 else 0#8
    Width.w8.trunc (if adj then (if up then b.setWidth 32 + 1#32 else b.setWidth 32 - 1#32) else b.setWidth 32) =
      Width.w8.trunc ((if up then b + d else b - d).setWidth 32) := by
  refine BitVec.eq_of_toNat_eq ?_
  rw [Width.trunc_toNat, Width.trunc_toNat, byte_toNat]
  cases up <;> cases adj <;> simp only [Bool.false_eq_true, if_true, if_false, BitVec.toNat_add, BitVec.toNat_sub,
    byte_toNat, BitVec.toNat_ofNat, Width.bits] <;> omega

theorem low_digit_corrected (up adj : Bool) (b : Byte) :
    let d : Byte := if adj then 1#8 else 0#8
    (if adj then (if up then b.setWidth 32 + 6#32 else b.setWidth 32 - 6#32) else b.setWidth 32) &&& 0xF#32 =
      ((if up then b + 6#8 * d else b - 6#8 * d) &&& 15#8).setWidth 32 := by
  refine BitVec.eq_of_toNat_eq ?_
  rw [byte_toNat, BitVec.toNat_and, BitVec.toNat_and]
  rw [show (0xF#32).toNat = 2 ^ 4 - 1 from rfl, show (15#8).toNat = 2 ^ 4 - 1 from rfl,
    Nat.and_two_pow_sub_one_eq_mod, Nat.and_two_pow_sub_one_eq_mod]
  cases up <;> cases adj <;> simp only [Bool.false_eq_true, if_true, if_false, BitVec.toNat_add, BitVec.toNat_sub,
    BitVec.toNat_mul, byte_toNat, BitVec.toNat_ofNat] <;> omega

/-- AL and AH after AAA (`up`) and AAS, and the flags, where `adj` tells whether there is a correction. -/
theorem adjustUnpacked_eq (up : Bool) (s : State) :
    let al : Byte := s.regs.eax.setWidth 8
    let ah : Byte := s.regs.eax.extractLsb' 8 8
    let adj := decide (9 < al.toNat % 16) || s.flags.AF
    let d : Byte := if adj then 1#8 else 0#8
    adjustUnpacked up s = .ok () ((State.setReg { s with
        draws := s.draws + 4
        flags := { s.flags with AF := adj, CF := adj, OF := freeBit s 0, SF := freeBit s 1, ZF := freeBit s 2,
                                PF := freeBit s 3 } }
      .w8 .eax (((if up then al + 6#8 * d else al - 6#8 * d) &&& 15#8).setWidth 32)).setReg
      .w8 .esp ((if up then ah + d else ah - d).setWidth 32)) := by
  intro al ah adj d
  rw [← State.setReg_congr _ _ (trunc_corrected up adj ah), ← low_digit_corrected up adj al, ← reg_al, ← reg_ah]
  simp only [adj, al, ← reg_al_toNat]
  rfl

/-! ### AAM and AAD (41 R440, R441; log 12) -/

theorem setSZP_byte (f : Flags) (hn : n < 256) : f.setSZP .w8 (BitVec.ofNat 32 n) =
    { f with SF := decide (128 ≤ n), ZF := decide (n = 0), PF := parity (BitVec.ofNat 32 n) } := by
  have hnat : (BitVec.ofNat 32 n).toNat = n := Nat.mod_eq_of_lt (by omega)
  have hzero : (BitVec.ofNat 32 n == 0#32) = decide (n = 0) := by
    rw [beq_eq_decide, decide_eq_decide, ← BitVec.toNat_inj, hnat]
    rfl
  have hsign : Width.w8.msb (BitVec.ofNat 32 n) = decide (128 ≤ n) := by
    rw [Width.msb_eq (by rwa [hnat]), hnat]
    rfl
  rw [Flags.setSZP, hzero, hsign]

theorem adjustFlags_apply (s : State) (hn : n < 256) : adjustFlags (BitVec.ofNat 32 n) s = .ok () { s with
    draws := s.draws + 3
    flags := { s.flags with OF := freeBit s 0, AF := freeBit s 1, CF := freeBit s 2, SF := decide (128 ≤ n),
                            ZF := decide (n = 0), PF := parity (BitVec.ofNat 32 n) } } := by
  have hszp := setSZP_byte { s.flags with OF := freeBit s 0, AF := freeBit s 1, CF := freeBit s 2 } hn
  rw [← hszp]
  rfl

theorem adjustMul_zero (s : State) : adjustMul 0#8 s = .error (.exc (plainExc 0#8)) s := rfl

theorem adjustMul_ok (hb : b ≠ 0#8) (hv : (s.reg .w8 .eax).toNat = n) : adjustMul b s = .ok () (State.setReg { s with
    draws := s.draws + 3
    flags := { s.flags with OF := freeBit s 0, AF := freeBit s 1, CF := freeBit s 2,
                            SF := decide (128 ≤ n % b.toNat), ZF := decide (n % b.toNat = 0),
                            PF := parity (BitVec.ofNat 32 (n % b.toNat)) } }
    .w16 .eax (BitVec.ofNat 32 (n / b.toNat * 256 + n % b.toNat))) := by
  subst hv
  have hal : (s.reg .w8 .eax).toNat < 256 := s.regs.read_lt .w8 .eax
  have hrem : (s.reg .w8 .eax).toNat % b.toNat < 256 := (Nat.mod_le _ _).trans_lt hal
  refine (bind_ok (get_apply s)).trans ((congrFun (if_neg (mt beq_iff_eq.mp hb)) s).trans ?_)
  refine (bind_ok setReg_apply).trans ((bind_ok setReg_apply).trans ?_)
  rw [adjustFlags_apply _ hrem, setReg_ah_al_ofNat s _ hrem]
  rfl

theorem adjustDiv_ok (hv : ((s.reg .w8 .eax).toNat + (s.reg .w8 .esp).toNat * b.toNat) % 256 = n) :
    adjustDiv b s = .ok () (State.setReg { s with
      draws := s.draws + 3
      flags := { s.flags with OF := freeBit s 0, AF := freeBit s 1, CF := freeBit s 2, SF := decide (128 ≤ n),
                              ZF := decide (n = 0), PF := parity (BitVec.ofNat 32 n) } }
      .w16 .eax (BitVec.ofNat 32 n)) := by
  subst hv
  refine (bind_ok (get_apply s)).trans ((bind_ok setReg_apply).trans ?_)
  rw [adjustFlags_apply _ (Nat.mod_lt _ (by decide))]
  rfl

/-! ### BOUND (41 R442; log 38) -/

/-- Both bounds are read, then the index is compared with them. -/
theorem checkBounds_eq (hx : memRead (s.ea m).1 (s.ea m).2 s.opWidth.bytes s = .ok x u)
    (hy : memRead (s.ea m).1 ((s.ea m).2 + BitVec.ofNat 32 s.opWidth.bytes) s.opWidth.bytes u = .ok y u') :
    checkBounds reg m s =
      if s.opWidth.signed (BitVec.ofNat 32 x) ≤ s.opWidth.signed (s.reg s.opWidth reg) ∧
        s.opWidth.signed (s.reg s.opWidth reg) ≤ s.opWidth.signed (BitVec.ofNat 32 y)
      then .ok () u' else .error (.exc (plainExc 5#8)) u' := by
  rw [checkBounds, bind_ok (get_apply s), bind_ok (memReadW_ok hx), bind_ok (memReadW_ok hy), ite_apply]
  simp only [Bool.or_eq_true, decide_eq_true_eq, ← not_le, ← not_and_or, ite_not]
  rfl

end Sys2Proof.Machine

namespace Sys2Proof.Claims

open Sys2Proof.Machine

/-- Settles O22: the digits as numbers of a byte, in each direction, and the two halves of AX. -/
theorem decimalAdjustCompletes : Obligations.DecimalAdjustCompletes := by
  refine ⟨fun s hpre => ?packed, fun s hpre => ?unpacked, fun s k hpre => ?based⟩
  case packed =>
    have hal := reg_al_toNat s
    exact ⟨plainInsn_ok hpre (adjustPacked_ok (daaResult_eq hal s.flags.AF s.flags.CF)),
      plainInsn_ok hpre (adjustPacked_ok (dasResult_eq hal s.flags.AF s.flags.CF))⟩
  case unpacked =>
    exact ⟨plainInsn_ok hpre (adjustUnpacked_eq true s.started), plainInsn_ok hpre (adjustUnpacked_eq false s.started)⟩
  case based =>
    refine ⟨fun hk => plainInsn_ok hpre (adjustMul_ok hk (reg_al_toNat s)), plainInsn_exc hpre (adjustMul_zero _),
      plainInsn_ok hpre (adjustDiv_ok ?_)⟩
    rw [started_reg, started_reg, reg_al_toNat, reg_ah_toNat]

/-- Settles O23: the check is the comparison with the two bounds. -/
theorem boundChecksIndex : Obligations.BoundChecksIndex := by
  intro s u u' reg m x y hpre w hx hy lo hi i
  have hbody : checkBounds reg m s.started = if lo ≤ i ∧ i ≤ hi then .ok () u' else .error (.exc (plainExc 5#8)) u' :=
    checkBounds_eq hx hy
  exact ⟨((memRead_keeps _ _ _).ok hx).trans ((memRead_keeps _ _ _).ok hy),
    fun h => plainInsn_ok hpre (hbody.trans (if_pos h)), fun h => plainInsn_exc hpre (hbody.trans (if_neg h))⟩

end Sys2Proof.Claims
end

section
/-! PROOF. The condition codes as flags and as bytes. -/

namespace Sys2Proof.Claims

/-- The condition codes in the order of their numbers. -/
def condCodes : List Cond := [.o, .no, .b, .nb, .z, .nz, .be, .nbe, .s, .ns, .p, .np, .l, .nl, .le, .nle]

theorem num4_condCodes : ∀ k : Fin 16, (condCodes[k]).num4.zeroExtend 8 = BitVec.ofNat 8 k := by decide

/-- An opcode byte that holds the number of a condition code. -/
theorem plus_num4_condCodes (b : Byte) (k : Fin 16) : plus b (condCodes[k]).num4 = b + BitVec.ofNat 8 k := by
  rw [plus, num4_condCodes]

/-- Settles O44: each condition as a statement about flags, each word as the encoding of its instruction. -/
theorem conditionCodes : Obligations.ConditionCodes := by
  intro f
  refine ⟨?conditions, fun z rest k d n => ?words⟩
  case conditions => simp [Cond.holds, Bool.beq_eq_decide_eq, bne]
  case words =>
    simp only [← plus_num4_condCodes]
    exact ⟨decode_of_encode_eq (i := .jccJb condCodes[k] d) rfl rfl,
      decode_of_encode_eq (i := .setccEb condCodes[k] (.reg n)) rfl rfl,
      fun rel => decode_of_encode_eq (i := .jccJv condCodes[k] (.v16 rel)) rfl rfl⟩

end Sys2Proof.Claims
end

section
/-! PROOF. Jumps, calls and returns within the code segment. -/

namespace Sys2Proof.Machine

open Sys2Proof.Claims

variable {s t u u' : State} {body : M Unit} {e : Exc} {i : Instr} {c : Bool} {d v : Word} {rm : RM} {imm : Nat}

/-! ### How an instruction that sets EIP itself ends -/

section
variable {a : Answer} {r : EStateM.Result Stop State Unit} (ha : a = settle s r)
include ha

theorem settled_ok (h : r = .ok () u) : a = .next (complete s u) := by rw [ha, h]; rfl

/-- A fault undoes the instruction. -/
theorem settled_exc (h : r = .error (.exc e) u) : a = takeException e (rollback s u) := by rw [ha, h]; rfl

/-- An exception in a new task is taken there (42 R548). -/
theorem settled_excHere (h : r = .error (.excHere e) u) : a = takeException e (idled u) := by rw [ha, h]; rfl

end

section
variable (h : s.prefixOk false false)
include h

theorem transferInsn_ok (hb : body s.started = .ok () u) : transferInsn body s = .next (complete s u) :=
  settled_ok (transferInsn_eq h) hb

theorem transferInsn_exc (hb : body s.started = .error (.exc e) u) :
    transferInsn body s = takeException e (rollback s u) := settled_exc (transferInsn_eq h) hb

end

/-! ### Near targets (42 R491) -/

/-- State `u` has what near transfers from `s` are made with: the operand size, the offset of the next instruction, the
code segment, the error code of #GP(0). -/
structure SameCode (s u : State) : Prop where
  opWidth : u.opWidth = s.opWidth
  nextEip : u.nextEip = s.nextEip
  segs : u.segs = s.segs
  gpZero : gpZero u = gpZero s

theorem AccessKeeps.sameCode (h : AccessKeeps s u) : SameCode s u := ⟨h.opWidth, h.nextEip, h.segs, h.gpZero⟩

section
variable (h : SameCode s u)
include h

theorem nearTarget_ok (hle : s.opWidth.trunc v ≤ s.segs.cs.limit) : nearTarget v u = .ok (s.opWidth.trunc v) u := by
  rw [← h.segs, ← h.opWidth] at hle
  rw [← h.opWidth]
  exact (bind_ok (get_apply u)).trans (bind_ok (checkEip_ok hle))

theorem nearTarget_beyond (hlt : s.segs.cs.limit < s.opWidth.trunc v) :
    nearTarget v u = .error (.exc (Claims.gpZero s)) u := by
  rw [← h.segs, ← h.opWidth] at hlt
  rw [← h.gpZero]
  exact (bind_ok (get_apply u)).trans (bind_error (checkEip_beyond hlt))

theorem branch_taken (hle : s.opWidth.trunc (s.nextEip + d) ≤ s.segs.cs.limit) :
    branch true d u = .ok () (u.jumped (s.opWidth.trunc (s.nextEip + d))) := by
  rw [← h.nextEip] at hle ⊢
  exact bind_ok (nearTarget_ok h hle)

theorem branch_beyond (hlt : s.segs.cs.limit < s.opWidth.trunc (s.nextEip + d)) :
    branch true d u = .error (.exc (Claims.gpZero s)) u := by
  rw [← h.nextEip] at hlt
  exact (bind_ok (get_apply u)).trans (bind_error (nearTarget_beyond h hlt))

theorem callNear_ok (hle : s.opWidth.trunc v ≤ s.segs.cs.limit)
    (hp : push s.opWidth.bytes s.nextEip u = .ok () u') :
    callNear v u = .ok () (u'.jumped (s.opWidth.trunc v)) := by
  rw [← h.opWidth, ← h.nextEip] at hp
  exact (bind_ok (nearTarget_ok h hle)).trans ((bind_ok (get_apply u)).trans (bind_ok hp))

end

/-! ### Relative jumps (42 R495 to R501) -/

theorem loopWhile_eq (c : Bool) (d : Word) (s : State) : loopWhile c d s =
    branch (s.adWidth.trunc (s.reg s.adWidth .ecx - 1#32) != 0#32 && c) d
      (s.setReg s.adWidth .ecx (s.reg s.adWidth .ecx - 1#32)) := by
  rw [← State.setReg_trunc]
  rfl

/-- A relative jump is a branch, from the state with its counter moved. -/
theorem exec_branches (h : Branches s i c d t) (hpre : s.prefixOk false false) :
    exec i s = settle s (branch c d t) := by
  suffices H : ∃ body, exec i s = transferInsn body s ∧ body s.started = branch c d t by
    obtain ⟨body, hexec, hbody⟩ := H
    rw [hexec, transferInsn_eq hpre, hbody]
  cases h with
  | jmpJb | jmpJv | jccJb | jccJv | jcxz => exact ⟨_, rfl, rfl⟩
  | loop => exact ⟨_, rfl, (loopWhile_eq true _ _).trans (by rw [Bool.and_true]; rfl)⟩
  | loope | loopne => exact ⟨_, rfl, loopWhile_eq _ _ _⟩

theorem branches_sameCode (h : Branches s i c d t) : SameCode s t := by
  cases h <;> exact ⟨rfl, rfl, rfl, rfl⟩

/-! ### Jumps and calls through an operand (42 R496, R503) -/

theorem jumpRM_eq (h : readRM s.opWidth rm s = .ok v u) : jumpRM rm s = setEip v u :=
  (bind_ok (get_apply s)).trans (bind_ok h)

theorem callRM_eq (h : readRM s.opWidth rm s = .ok v u) : callRM rm s = callNear v u :=
  (bind_ok (get_apply s)).trans (bind_ok h)

/-! ### Near returns (42 R504, R505) -/

section
variable (h : peek s.opWidth.bytes 0 s = .ok v u)
include h

theorem returnNear_eq : returnNear imm s =
    (nearTarget v >>= fun t => dropBytes (s.opWidth.bytes + imm) >>= fun _ => jumpTo t) u :=
  (bind_ok (get_apply s)).trans (bind_ok h)

theorem returnNear_ok (hle : s.opWidth.trunc v ≤ s.segs.cs.limit) :
    returnNear imm s = .ok () ((dropped u (s.opWidth.bytes + imm)).jumped (s.opWidth.trunc v)) :=
  (returnNear_eq h).trans ((bind_ok (nearTarget_ok ((peek_keeps _ _).ok h).sameCode hle)).trans
    (bind_ok (dropBytes_eq _ _)))

theorem returnNear_beyond (hlt : s.segs.cs.limit < s.opWidth.trunc v) :
    returnNear imm s = .error (.exc (gpZero s)) u :=
  (returnNear_eq h).trans (bind_error (nearTarget_beyond ((peek_keeps _ _).ok h).sameCode hlt))

end

end Sys2Proof.Machine

namespace Sys2Proof.Claims

open Sys2Proof.Machine

/-- Settles O28: a branch not taken, taken within the limit, and beyond it. -/
theorem relativeJumpsComplete : Obligations.RelativeJumpsComplete := by
  intro s t i c d hi hpre target
  have hexec := exec_branches hi hpre
  have hcode := branches_sameCode hi
  refine ⟨?_, ?_, ?_⟩
  · rintro rfl
    exact settled_ok hexec rfl
  · rintro rfl hle
    exact settled_ok hexec (branch_taken hcode hle)
  · rintro rfl hlt
    exact settled_exc hexec (branch_beyond hcode hlt)

/-- Settles O29: the operand is read first, then the target is checked, then the stack is used. -/
theorem nearTransfersComplete : Obligations.NearTransfersComplete := by
  intro s u u' rm v rel imm hpre n target called
  have hcode : SameCode s s.started := ⟨rfl, rfl, rfl, rfl⟩
  refine ⟨fun hv => ?operand, fun hle hp => transferInsn_ok hpre (callNear_ok hcode hle hp),
    fun hlt => transferInsn_exc hpre (bind_error (nearTarget_beyond hcode hlt)), fun hv => ?popped⟩
  case operand =>
    have hk := (readRM_keeps _ _).ok hv
    have hcode : SameCode s u := { hk.sameCode with }
    have hjump := jumpRM_eq (s := s.started) hv
    have hcall := callRM_eq (s := s.started) hv
    refine ⟨hk, fun hle => ⟨?_, fun hp => ?_⟩, fun hlt => ?_⟩
    · exact transferInsn_ok hpre (hjump.trans (bind_ok (nearTarget_ok hcode hle)))
    · exact transferInsn_ok hpre (hcall.trans (callNear_ok hcode hle hp))
    · have hdenied := nearTarget_beyond hcode hlt
      exact ⟨transferInsn_exc hpre (hjump.trans (bind_error hdenied)),
        transferInsn_exc hpre (hcall.trans (bind_error hdenied))⟩
  case popped =>
    have hv' : peek s.started.opWidth.bytes 0 s.started = .ok v u := hv
    exact ⟨(peek_keeps _ _).ok hv,
      fun hle => ⟨transferInsn_ok hpre (returnNear_ok hv' hle), transferInsn_ok hpre (returnNear_ok hv' hle)⟩,
      fun hlt => ⟨transferInsn_exc hpre (returnNear_beyond hv' hlt), transferInsn_exc hpre (returnNear_beyond hv' hlt)⟩⟩

end Sys2Proof.Claims
end

section
/-! PROOF. Far jumps, calls and returns: what they read first, and what they do in real and V86 mode. -/

namespace Sys2Proof.Machine

open Sys2Proof.Claims

variable {s u u' : State} {i : Instr} {call : Bool} {sel : Half} {off ip cs : Word} {k : Nat}

/-! ### The pointer, and the return address (42 R506 to R511) -/

/-- A far JMP or CALL once its pointer has been read. -/
def farGo (call : Bool) (sel : Half) (off : Word) : M Unit := if call then farCall sel off else farJump sel off

/-- The pointer is read first, which is an access like any other. -/
theorem exec_farGoes (h : FarGoes s i call sel off u) (hpre : s.prefixOk false false) :
    AccessKeeps s.started u ∧ exec i s = settle s (farGo call sel off u) := by
  cases h with
  | jmpAp | callAp => exact ⟨.refl _, transferInsn_eq hpre⟩
  | jmpMp m x y u v hx hy | callMp m x y u v hx hy =>
    have hread := farPointer_ok (s := s.started) hx hy
    exact ⟨(farPointer_keeps m).ok hread, (transferInsn_eq hpre).trans (congrArg (settle s) (bind_ok hread))⟩

theorem exec_farReturns (h : FarReturns i k) : exec i s = transferInsn (farReturn k) s := by
  cases h <;> rfl

/-- The two items of a far return's address. -/
theorem returnAddress_keeps {n : Nat} (hip : peek n 0 s = .ok ip u) (hcs : peek n n u = .ok cs u') : AccessKeeps s u' :=
  ((peek_keeps _ _).ok hip).trans ((peek_keeps _ _).ok hcs)

/-! ### Real and V86 mode (42 R520) -/

theorem farReal_ok (h : off ≤ 0xFFFF#32) : farReal sel off u = .ok () (farTo u sel off) :=
  (bind_ok (get_apply u)).trans (bind_ok (checkEip_ok h))

theorem farReal_beyond (h : 0xFFFF#32 < off) : farReal sel off u = .error (.exc (gpZero u)) u :=
  (bind_ok (get_apply u)).trans (bind_error (checkEip_beyond h))

section
variable (hp : u.protMode = false)
include hp

theorem farJump_real : farJump sel off u = farReal sel off u := by simp [farJump, hp]

theorem farCall_real : farCall sel off u = (do
    checkEip 0xFFFF#32 off
    pushReturn u.opWidth.bytes u.segs.cs.selector u.nextEip
    farReal sel off : M Unit) u := by simp [farCall, hp]

theorem farGo_real_beyond (h : 0xFFFF#32 < off) : farGo call sel off u = .error (.exc (gpZero u)) u := by
  cases call with
  | false => exact (farJump_real hp).trans (farReal_beyond h)
  | true => exact (farCall_real hp).trans (bind_error (checkEip_beyond h))

/-- The return address is pushed before CS is loaded. -/
theorem farCall_real_ok (h : off ≤ 0xFFFF#32)
    (hpush : pushReturn u.opWidth.bytes u.segs.cs.selector u.nextEip u = .ok () u') :
    farCall sel off u = .ok () (farTo u' sel off) :=
  (farCall_real hp).trans ((bind_ok (checkEip_ok h)).trans ((bind_ok hpush).trans (farReal_ok h)))

end

section
variable (hp : s.protMode = false) (hip : peek s.opWidth.bytes 0 s = .ok ip u)
  (hcs : peek s.opWidth.bytes s.opWidth.bytes u = .ok cs u')
include hp hip hcs

theorem farReturn_real : farReturn k s =
    (do farReal (cs.setWidth 16) ip; dropBytes (2 * s.opWidth.bytes + k) : M Unit) u' := by
  have hreal : farReturn k s = returnFarReal k s := by simp [farReturn, hp]
  exact hreal.trans ((bind_ok (get_apply s)).trans ((bind_ok hip).trans (bind_ok hcs)))

theorem farReturn_real_ok (h : ip ≤ 0xFFFF#32) : farReturn k s =
    .ok () (dropped (farTo u' (cs.setWidth 16) ip) (2 * s.opWidth.bytes + k)) :=
  (farReturn_real hp hip hcs).trans (bind_ok (farReal_ok h))

theorem farReturn_real_beyond (h : 0xFFFF#32 < ip) : farReturn k s = .error (.exc (gpZero s)) u' := by
  rw [← (returnAddress_keeps hip hcs).gpZero]
  exact (farReturn_real hp hip hcs).trans (bind_error (farReal_beyond h))

end

end Sys2Proof.Machine

namespace Sys2Proof.Claims

open Sys2Proof.Machine

/-- Settles O30: the pointer or the return address is read, then its offset is checked, then CS is loaded. -/
theorem realFarTransfersComplete : Obligations.RealFarTransfersComplete := by
  refine ⟨fun s u u' i call sel off hi hpre hreal => ?goes, fun s u u' i k ip cs hi hpre hreal => ?returns⟩
  case goes =>
    obtain ⟨hk, hexec⟩ := exec_farGoes hi hpre
    have hp : u.protMode = false := hk.protMode.trans hreal
    have hsize : u.opWidth = s.opWidth := hk.opWidth
    have hsegs : u.segs = s.segs := hk.segs
    have hnext : u.nextEip = s.nextEip := hk.nextEip
    have hgp : gpZero u = gpZero s := hk.gpZero
    refine ⟨hk, ?_, ?_, fun h => ?_⟩
    · rintro h rfl
      exact settled_ok hexec ((farJump_real hp).trans (farReal_ok h))
    · rintro h rfl hpush
      rw [← hsize, ← hsegs, ← hnext] at hpush
      exact settled_ok hexec (farCall_real_ok hp h hpush)
    · rw [← hgp]
      exact settled_exc hexec (farGo_real_beyond hp h)
  case returns =>
    intro n hip hcs
    rw [exec_farReturns hi]
    exact ⟨returnAddress_keeps hip hcs, fun h => transferInsn_ok hpre (farReturn_real_ok (s := s.started) hreal hip hcs h),
      fun h => transferInsn_exc hpre (farReturn_real_beyond (s := s.started) hreal hip hcs h)⟩

end Sys2Proof.Claims
end

section
/-! PROOF. Far jumps, calls and returns in protected mode: what a selector names, code segments, call gates. -/

namespace Sys2Proof.Machine

open Sys2Proof.Claims

variable {s t u u' v w : State} {i : Instr} {call : Bool} {sel cs : Half} {off ip la : Word} {d gate : Desc} {k n g : Nat}
variable {level : BitVec 2} {e : Exc}

theorem AccessKeeps.room (h : AccessKeeps s u) : u.room g k = s.room g k := by rw [h.1]; rfl

theorem AccessKeeps.v86 (h : AccessKeeps s u) : u.v86 = s.v86 := by rw [h.1]; rfl

/-! ### What a selector names (42 R521) -/

/-- A far JMP or CALL to what the descriptor of `sel` is of. -/
def farNamed (call : Bool) (sel : Half) (off la : Word) (d : Desc) : M Unit :=
  if d.isCode then farToCode call sel off la d
  else if d.availableTss then farToTss call sel la d
  else if d.sysType == 4 || d.sysType == 12 then farThroughGate call sel d
  else if d.sysType == 5 then farToTaskGate call sel d
  else raiseSel vecGP sel

theorem farGo_protected (hp : s.protMode = true) : farGo call sel off s = farProtected call sel off s := by
  cases call <;> simp [farGo, farJump, farCall, hp]

theorem farProtected_null (hz : sel.toNat < 4) : farProtected call sel off s = .error (.exc (gpZero s)) s := by
  rw [farProtected, if_pos (selNull_iff.mpr hz)]
  exact bind_error (raiseGP0_eq s)

section
variable (hz : 4 ≤ sel.toNat)
include hz

theorem farProtected_eq : farProtected call sel off s =
    (fetchDesc vecGP sel >>= fun x => farNamed call sel off x.1 x.2) s := by
  rw [farProtected, selNull_eq_false hz, if_neg Bool.false_ne_true]
  rfl

theorem farProtected_outside (ha : s.descAddr sel = none) :
    farProtected call sel off s = .error (.exc (selExc s vecGP sel)) s :=
  (farProtected_eq hz).trans (bind_error (fetchDesc_none ha))

theorem farProtected_named (ha : s.descAddr sel = some la) (hd : readDesc la s = .ok d u) :
    farProtected call sel off s = farNamed call sel off la d u := by
  rw [farProtected_eq hz, bind_ok (fetchDesc_some ha hd)]

end

/-- Only a segment descriptor has type 0. -/
theorem isCode_of_sysType {n : Nat} (h : d.sysType = n) (hn : n ≠ 0) : d.isCode = false := by
  rw [Desc.isCode]
  cases hseg : d.isSegment with
  | false => rfl
  | true => exact absurd (h.symm.trans (if_pos hseg)) hn

theorem farNamed_code (h : d.isCode = true) : farNamed call sel off la d = farToCode call sel off la d := if_pos h

theorem farNamed_tss (h : d.sysType = 1 ∨ d.sysType = 9) : farNamed call sel off la d = farToTss call sel la d := by
  rcases h with h | h <;> simp [farNamed, Desc.availableTss, isCode_of_sysType h, h]

theorem farNamed_gate (h : d.sysType = 4 ∨ d.sysType = 12) : farNamed call sel off la d = farThroughGate call sel d := by
  rcases h with h | h <;> simp [farNamed, Desc.availableTss, isCode_of_sysType h, h]

theorem farNamed_taskGate (h : d.sysType = 5) : farNamed call sel off la d = farToTaskGate call sel d := by
  simp [farNamed, Desc.availableTss, isCode_of_sysType h, h]

theorem farNamed_other (hcode : d.isCode = false) (h : d.sysType ∉ [1, 4, 5, 9, 12]) :
    farNamed call sel off la d s = .error (.exc (selExc s vecGP sel)) s := by
  simp only [List.mem_cons, List.not_mem_nil, or_false, not_or] at h
  simp [farNamed, Desc.availableTss, hcode, h, raiseSel_eq, -raiseSel_apply]

/-- A far JMP or CALL in protected mode whose selector has a descriptor. -/
theorem exec_farGoes_named (hi : FarGoes s i call sel off t) (hpre : s.prefixOk false false) (hp : s.protMode = true)
    (hz : 4 ≤ sel.toNat) (ha : s.descAddr sel = some la) (hd : readDesc la t = .ok d u) :
    AccessKeeps s.started u ∧ exec i s = settle s (farNamed call sel off la d u) := by
  obtain ⟨hk, hexec⟩ := exec_farGoes hi hpre
  refine ⟨hk.trans ((readDesc_keeps _).ok hd), ?_⟩
  rw [hexec, farGo_protected (hk.protMode.trans hp), farProtected_named hz (hk.descAddr.trans ha) hd]

/-! ### Code segments (42 R522, R523) -/

theorem reachable_iff (d : Desc) (sel : Half) (cpl : BitVec 2) :
    d.reachable sel cpl = true ↔ d.isCode = true ∧ enterable d sel cpl := by
  rw [Desc.reachable, enterable, Bool.and_eq_true]
  cases d.conforming <;> simp [selRpl, BitVec.le_def]

theorem not_true_iff {b : Bool} : (!b) = true ↔ ¬b = true := by simp

theorem needRoom_ok (h : s.room g k = true) : needRoom g k s = .ok () s := by
  rw [needRoom, bind_ok (get_apply s), if_pos h]
  rfl

theorem needRoom_denied (h : s.room g k = false) :
    needRoom g k s = .error (.exc { gpZero s with vector := vecSS }) s := by
  rw [needRoom, bind_ok (get_apply s), h, if_neg Bool.false_ne_true, raiseCode_zero]

/-- Continue in a code segment at privilege level `cpl`. -/
def enterCode (sel : Half) (off la : Word) (d : Desc) (cpl : BitVec 2) : M Unit := do
  loadCS sel la d cpl
  jumpTo off

theorem enterCode_ok (h : markAccessed la d s = .ok () u) :
    enterCode sel off la d level s = .ok () ((withCS u sel d level).jumped off) := bind_ok (loadCS_eq h)

/-- A call to the same level from state `s`, in items of `g` bytes. -/
def callCode (g : Nat) (sel : Half) (off la : Word) (d : Desc) (s : State) : M Unit := do
  needRoom g 2
  pushReturn g s.segs.cs.selector s.nextEip
  enterCode sel off la d s.cpl

section
variable (hk : AccessKeeps s u)
include hk

theorem callCode_denied (h : s.room g 2 = false) :
    callCode g sel off la d s u = .error (.exc { gpZero s with vector := vecSS }) u := by
  rw [← hk.room] at h
  rw [← hk.gpZero]
  exact bind_error (needRoom_denied h)

theorem callCode_ok (h : s.room g 2 = true) (hpush : pushReturn g s.segs.cs.selector s.nextEip u = .ok () v)
    (hmark : markAccessed la d v = .ok () w) :
    callCode g sel off la d s u = .ok () ((withCS w sel d s.cpl).jumped off) :=
  (bind_ok (needRoom_ok (hk.room.trans h))).trans ((bind_ok hpush).trans (enterCode_ok hmark))

theorem checkEip_after (limit off : Word) (f : PUnit → M Unit) : (checkEip limit off >>= f) u =
    if off ≤ limit then f ⟨⟩ u else .error (.exc (gpZero s)) u := by
  by_cases h : off ≤ limit
  · rw [if_pos h, bind_ok (checkEip_ok h)]
  · rw [if_neg h, bind_error (checkEip_beyond (BitVec.not_le.mp h)), hk.gpZero]

/-- The checks on a code segment, in their order. -/
theorem farToCode_eq : farToCode call sel off la d u =
    if d.reachable sel s.cpl = true then
      if d.present = true then
        if off ≤ d.limit then
          (if call then callCode s.opWidth.bytes sel off la d s else enterCode sel off la d s.cpl) u
        else .error (.exc (gpZero s)) u
      else .error (.exc (selExc s vecNP sel)) u
    else .error (.exc (selExc s vecGP sel)) u := by
  rw [farToCode, bind_ok (get_apply u), hk.cpl, hk.opWidth, hk.segs, hk.nextEip, ← hk.selExc, ← hk.selExc]
  refine (check_raiseSel not_true_iff).trans (if_congr Iff.rfl ((check_raiseSel not_true_iff).trans ?_) rfl)
  exact if_congr Iff.rfl (checkEip_after hk _ _ _) rfl

end

/-! ### Far returns (42 R530) -/

/-- A check that stops where it fails. -/
theorem Preserves.check {α : Type} {R : State → State → Prop} {c : Prop} [Decidable c] {stop : M PUnit}
    {f : PUnit → M α} (ht : ∀ {a b c}, R a b → R b c → R a c) (hs : Preserves R stop) (hf : ∀ x, Preserves R (f x)) :
    Preserves R (if c then stop >>= f else f ⟨⟩) := .ite (.bind ht hs hf) (hf ⟨⟩)

theorem raiseCode_keeps {α : Type} (vec : Byte) (c : Half) : Preserves AccessKeeps (raiseCode vec c : M α) :=
  fun s => .refl s

theorem returnDesc_keeps (sel : Half) : Preserves AccessKeeps (returnDesc sel) :=
  .bind .trans (.get .refl) fun _ => .check .trans (raiseCode_keeps _ _) fun _ =>
    .check .trans (raiseCode_keeps _ _) fun _ => .bind .trans (fetchDesc_keeps vecGP sel) fun (_, _) =>
      check_keeps (check_keeps (.pure .refl _))

section
variable {csw : Word} (hp : s.protMode = true) (hip : peek s.opWidth.bytes 0 s = .ok ip u)
  (hcs : peek s.opWidth.bytes s.opWidth.bytes u = .ok csw u') (hsel : csw.setWidth 16 = cs)
include hp hip hcs hsel

theorem farReturn_bad (h : returnDesc cs u' = .error (.exc e) v) : farReturn k s = .error (.exc e) v := by
  have hfar : farReturn k s = returnFar k s := by simp [farReturn, hp]
  rw [hfar, returnFar, bind_ok (get_apply s), bind_ok hip, bind_ok hcs, hsel, bind_error h]

variable (hd : returnDesc cs u' = .ok (la, d) v)
include hd

/-- The level to return to is the RPL of the popped selector. -/
theorem farReturn_eq : farReturn k s = (if selRpl cs == s.cpl then do
      checkEip d.limit ip
      loadCS cs la d s.cpl
      dropBytes (2 * s.opWidth.bytes + k)
      jumpTo ip
    else returnOuter s.opWidth.bytes (2 * s.opWidth.bytes + k) k cs ip la d : M Unit) v := by
  have hfar : farReturn k s = returnFar k s := by simp [farReturn, hp]
  rw [hfar, returnFar, bind_ok (get_apply s), bind_ok hip, bind_ok hcs, hsel, bind_ok hd]

theorem farReturn_outer (h : selRpl cs ≠ s.cpl) : farReturn k s =
    returnOuter s.opWidth.bytes (2 * s.opWidth.bytes + k) k cs ip la d v := by
  rw [farReturn_eq hp hip hcs hsel hd, if_neg (by simpa using h)]

section
variable (hsame : selRpl cs = s.cpl)
include hsame

theorem farReturn_beyond (h : d.limit < ip) : farReturn k s = .error (.exc (gpZero s)) v := by
  have hk := (returnAddress_keeps hip hcs).trans ((returnDesc_keeps cs).ok hd)
  rw [farReturn_eq hp hip hcs hsel hd, if_pos (by simpa using hsame), bind_error (checkEip_beyond h), hk.gpZero]

theorem farReturn_same (h : ip ≤ d.limit) (hmark : markAccessed la d v = .ok () w) : farReturn k s =
    .ok () ((dropped (withCS w cs d s.cpl) (2 * s.opWidth.bytes + k)).jumped ip) := by
  rw [farReturn_eq hp hip hcs hsel hd, if_pos (by simpa using hsame), bind_ok (checkEip_ok h),
    bind_ok (loadCS_eq hmark), bind_ok (dropBytes_eq _ _), jumpTo_apply]

end

end

end Sys2Proof.Machine

namespace Sys2Proof.Claims

open Sys2Proof.Machine

/-- Settles O31: what the selector names is found, then checked, then entered. -/
theorem protectedFarTransfersComplete : Obligations.ProtectedFarTransfersComplete := by
  refine ⟨fun s u u1 u2 u3 i call sel off la d hi hpre hp => ?goes,
    fun s u u' v v' i k ip cs la d e hi hpre hp => ?returns⟩
  case goes =>
    intro n
    obtain ⟨hk, hexec⟩ := exec_farGoes hi hpre
    have hgp : gpZero u = gpZero s := hk.gpZero
    have hsel : selExc u 13#8 sel = selExc s 13#8 sel := hk.selExc
    rw [farGo_protected (hk.protMode.trans hp)] at hexec
    refine ⟨fun hz => ?_, fun hz ha => ?_, fun hz ha hd => ?_⟩
    · rw [← hgp]
      exact settled_exc hexec (farProtected_null hz)
    · rw [← hsel]
      exact settled_exc hexec (farProtected_outside hz (hk.descAddr.trans ha))
    obtain ⟨hk, hexec⟩ := exec_farGoes_named hi hpre hp hz ha hd
    have hsel : selExc u1 13#8 sel = selExc s 13#8 sel := hk.selExc
    refine ⟨hk, fun hcode htype => ?_, fun hcode hbad => ?_, fun hcode hgood habs => ?_,
      fun hcode hgood hpres hlt => ?_, fun hcode hgood hpres hle => ?_⟩
    · rw [← hsel]
      exact settled_exc hexec (farNamed_other hcode htype)
    all_goals rw [farNamed_code hcode, farToCode_eq hk] at hexec
    · exact settled_exc hexec (if_neg fun h => hbad ((reachable_iff _ _ _).mp h).2)
    all_goals
      have hreach : d.reachable sel s.started.cpl = true := (reachable_iff _ _ _).mpr ⟨hcode, hgood⟩
      rw [if_pos hreach] at hexec
    · exact settled_exc hexec (if_neg (Bool.eq_false_iff.mp habs))
    all_goals rw [if_pos hpres] at hexec
    · exact settled_exc hexec (if_neg (BitVec.not_le.mpr hlt))
    · rw [if_pos hle] at hexec
      refine ⟨?_, ?_, ?_⟩
      · rintro rfl hmark
        exact settled_ok hexec (enterCode_ok hmark)
      · rintro rfl hno
        exact settled_exc hexec (callCode_denied hk hno)
      · rintro rfl hroom hpush hmark
        exact settled_ok hexec (callCode_ok hk hroom hpush hmark)
  case returns =>
    intro n sel hip hcs
    have hexec := (exec_farReturns hi).trans (transferInsn_eq hpre)
    have hp : s.started.protMode = true := hp
    refine ⟨returnAddress_keeps hip hcs, fun h => ?_, fun hd => ⟨fun hsame h => ?_, fun hsame h hmark => ?_,
      fun hne => ?_⟩⟩
    · exact settled_exc hexec (farReturn_bad hp hip hcs rfl h)
    · exact settled_exc hexec (farReturn_beyond hp hip hcs rfl hd hsame h)
    · exact settled_ok hexec (farReturn_same hp hip hcs rfl hd hsame h hmark)
    · have houter := farReturn_outer (k := k) hp hip hcs rfl hd hne
      exact ⟨fun h => settled_ok hexec (houter.trans h), fun h => settled_exc hexec (houter.trans h)⟩

end Sys2Proof.Claims
end

section
/-! PROOF. Call gates: the checks on the gate and on the segment it names, the entry at the same level and at an inner
one. -/

namespace Sys2Proof.Machine

open Sys2Proof.Claims

variable {s u v w : State} {call : Bool} {sel tsel : Half} {off la : Word} {d gate : Desc} {g k c : Nat} {e : Stop}
variable {level : BitVec 2} {stack : InnerStack}

theorem raiseSel_keeps {α : Type} (vec : Byte) (sel : Half) : Preserves AccessKeeps (raiseSel vec sel : M α) :=
  raiseCode_keeps vec _

theorem stackTop_keeps (big : Bool) (n : Nat) (v : Word) : Preserves AccessKeeps (stackTop big n v) :=
  .ite (.bind .trans (fun s => .draws s _) fun _ => .pure .refl _) (.pure .refl _)

theorem innerStack_keeps (level : BitVec 2) (g k : Nat) : Preserves AccessKeeps (innerStack level g k) :=
  .bind .trans (.get .refl) fun _ => .check .trans (raiseSel_keeps _ _) fun _ =>
    .bind .trans (linRead_keeps _ _) fun _ => .bind .trans (linRead_keeps _ _) fun _ =>
      .check .trans (raiseCode_keeps _ _) fun _ => .bind .trans (stackDesc_keeps _ _ _) fun (_, _) =>
        .bind .trans (stackTop_keeps _ _ _) fun _ => .check .trans (raiseCode_keeps _ _) fun _ => .pure .refl _

/-! ### The gate (42 R524) -/

/-- Through a gate to the code segment of `d`, from state `s`, at the same level. -/
def gateSame (call : Bool) (gate : Desc) (la : Word) (d : Desc) (s : State) : M Unit :=
  if call then do
    needRoom (gateSize gate) 2
    checkEip d.limit gate.gateOff
    pushReturn (gateSize gate) s.segs.cs.selector s.nextEip
    enterCode gate.gateSel gate.gateOff la d s.cpl
  else do
    checkEip d.limit gate.gateOff
    enterCode gate.gateSel gate.gateOff la d s.cpl

/-- The same, at whichever level the segment asks for. -/
def gateTarget (call : Bool) (gate : Desc) (la : Word) (d : Desc) (s : State) : M Unit :=
  if d.conforming || d.dpl == s.cpl then gateSame call gate la d s
  else if call then callInner (gateSize gate) gate.gateCount gate.gateSel gate.gateOff la d
  else raiseSel vecGP gate.gateSel

/-- The checks on the segment a gate names. -/
def gateNamed (call : Bool) (gate : Desc) (la : Word) (d : Desc) (s : State) : M Unit := do
  if !d.isCode || decide (s.cpl < d.dpl) then raiseSel vecGP gate.gateSel
  if !d.present then raiseSel vecNP gate.gateSel
  gateTarget call gate la d s

theorem gateTarget_same (h : d.conforming = true ∨ d.dpl = s.cpl) :
    gateTarget call gate la d s = gateSame call gate la d s := if_pos (by simpa using h)

theorem gateTarget_inner (h : ¬(d.conforming = true ∨ d.dpl = s.cpl)) : gateTarget call gate la d s =
    if call then callInner (gateSize gate) gate.gateCount gate.gateSel gate.gateOff la d
    else raiseSel vecGP gate.gateSel := if_neg (by simpa using h)

section
variable (hk : AccessKeeps s u)
include hk

/-- The checks on a gate, in their order. -/
theorem farThroughGate_eq : farThroughGate call sel gate u =
    if s.cpl ≤ gate.dpl ∧ selRpl sel ≤ gate.dpl then
      if gate.present = true then
        if ¬gate.gateSel.toNat < 4 then
          (fetchDesc vecGP gate.gateSel >>= fun x => gateNamed call gate x.1 x.2 s) u
        else .error (.exc (gpZero s)) u
      else .error (.exc (selExc s vecNP sel)) u
    else .error (.exc (selExc s vecGP sel)) u := by
  have husable : (decide (gate.dpl < s.cpl) || decide (gate.dpl < selRpl sel)) = true ↔
      ¬(s.cpl ≤ gate.dpl ∧ selRpl sel ≤ gate.dpl) := by
    rw [Bool.or_eq_true, decide_eq_true_eq, decide_eq_true_eq, not_and_or, BitVec.not_le, BitVec.not_le]
  have hnull : selNull gate.gateSel = true ↔ ¬¬gate.gateSel.toNat < 4 := by rw [not_not, selNull_iff]
  rw [farThroughGate, bind_ok (get_apply u), hk.cpl, hk.segs, hk.nextEip, ← hk.selExc, ← hk.selExc, ← hk.gpZero]
  refine (check_raiseSel husable).trans (if_congr Iff.rfl ((check_raiseSel not_true_iff).trans ?_) rfl)
  refine if_congr Iff.rfl ((check_raiseCode hnull).trans (if_congr Iff.rfl ?_ rfl)) rfl
  rfl

/-- The segment a gate names is code at least as privileged as the caller, and present (42 R525). -/
theorem gateNamed_eq : gateNamed call gate la d s u =
    if d.isCode = true ∧ d.dpl ≤ s.cpl then
      if d.present = true then gateTarget call gate la d s u
      else .error (.exc (selExc s vecNP gate.gateSel)) u
    else .error (.exc (selExc s vecGP gate.gateSel)) u := by
  have hcheck : (!d.isCode || decide (s.cpl < d.dpl)) = true ↔ ¬(d.isCode = true ∧ d.dpl ≤ s.cpl) := by
    rw [Bool.or_eq_true, not_true_iff, decide_eq_true_eq, not_and_or, BitVec.not_le]
  rw [gateNamed, ← hk.selExc, ← hk.selExc]
  exact (check_raiseSel hcheck).trans (if_congr Iff.rfl (check_raiseSel not_true_iff) rfl)

/-! ### The same level (42 R526) -/

theorem gateSame_jump (hle : gate.gateOff ≤ d.limit) (hmark : markAccessed la d u = .ok () v) :
    gateSame false gate la d s u = .ok () ((withCS v gate.gateSel d s.cpl).jumped gate.gateOff) :=
  (checkEip_after hk _ _ _).trans ((if_pos hle).trans (enterCode_ok hmark))

theorem gateSame_jump_beyond (hlt : d.limit < gate.gateOff) :
    gateSame false gate la d s u = .error (.exc (gpZero s)) u :=
  (checkEip_after hk _ _ _).trans (if_neg (BitVec.not_le.mpr hlt))

theorem gateSame_call_denied (h : s.room (gateSize gate) 2 = false) :
    gateSame true gate la d s u = .error (.exc { gpZero s with vector := vecSS }) u := by
  rw [← hk.room] at h
  rw [← hk.gpZero]
  exact bind_error (needRoom_denied h)

section
variable (hroom : s.room (gateSize gate) 2 = true)
include hroom

theorem gateSame_call_beyond (hlt : d.limit < gate.gateOff) :
    gateSame true gate la d s u = .error (.exc (gpZero s)) u :=
  (bind_ok (needRoom_ok (hk.room.trans hroom))).trans
    ((checkEip_after hk _ _ _).trans (if_neg (BitVec.not_le.mpr hlt)))

theorem gateSame_call (hle : gate.gateOff ≤ d.limit)
    (hpush : pushReturn (gateSize gate) s.segs.cs.selector s.nextEip u = .ok () v)
    (hmark : markAccessed la d v = .ok () w) :
    gateSame true gate la d s u = .ok () ((withCS w gate.gateSel d s.cpl).jumped gate.gateOff) :=
  (bind_ok (needRoom_ok (hk.room.trans hroom))).trans
    ((checkEip_after hk _ _ _).trans ((if_pos hle).trans ((bind_ok hpush).trans (enterCode_ok hmark))))

end

/-! ### An inner level (42 R527) -/

omit hk in
theorem callInner_error (h : innerStack d.dpl g (4 + c) u = .error e v) :
    callInner g c sel off la d u = .error e v :=
  (bind_ok (get_apply u)).trans (bind_error h)

variable (h : innerStack d.dpl g (4 + c) u = .ok stack v)
include h

theorem callInner_beyond (hlt : d.limit < off) : callInner g c sel off la d u = .error (.exc (gpZero s)) v :=
  (bind_ok (get_apply u)).trans ((bind_ok h).trans
    ((checkEip_after (hk.trans ((innerStack_keeps _ _ _).ok h)) _ _ _).trans (if_neg (BitVec.not_le.mpr hlt))))

/-- Once the new stack and the offset have been checked: the level is entered, then all is pushed on its stack. -/
theorem callInner_ok {v0 v1 v2 v3 v4 v5 : State} (hle : off ≤ d.limit) (henter : enterLevel d.dpl stack v = .ok () v0)
    (hss : pushSel g s.segs.ss.selector v0 = .ok () v1) (hesp : push g s.regs.esp v1 = .ok () v2)
    (hcopy : copyParams g s.segs.ss s.regs.esp c v2 = .ok () v3)
    (hret : pushReturn g s.segs.cs.selector s.nextEip v3 = .ok () v4) (hmark : markAccessed la d v4 = .ok () v5) :
    callInner g c sel off la d u = .ok () ((withCS v5 sel d d.dpl).jumped off) := by
  rw [callInner, bind_ok (get_apply u), hk.segs, hk.regs, hk.nextEip, bind_ok h, bind_ok (checkEip_ok hle),
    bind_ok henter, bind_ok hss, bind_ok hesp, bind_ok hcopy, bind_ok hret]
  exact enterCode_ok hmark

end

end Sys2Proof.Machine

namespace Sys2Proof.Claims

open Sys2Proof.Machine

/-- Settles O59: the checks on the gate, then those on the segment it names, then the entry its level asks for. -/
theorem callGates : Obligations.CallGates := by
  intro s u u1 u2 i call sel off lg la gate d hi hpre hp hz hg hread htype g usable noRoom
  obtain ⟨hk, hexec⟩ := exec_farGoes_named hi hpre hp hz hg hread
  rw [farNamed_gate htype, farThroughGate_eq hk] at hexec
  refine ⟨fun hbad => settled_exc hexec (if_neg hbad), fun hok habs => ?_, fun hok hpres hnull => ?_,
    fun hok hpres hsel ha => ?_, fun hok hpres hsel ha hd => ?_⟩
  all_goals
    have hok : s.started.cpl ≤ gate.dpl ∧ selRpl sel ≤ gate.dpl := hok
    rw [if_pos hok] at hexec
  · exact settled_exc hexec (if_neg (Bool.eq_false_iff.mp habs))
  all_goals rw [if_pos hpres] at hexec
  · exact settled_exc hexec (if_neg (not_not.mpr hnull))
  all_goals
    have ha := hk.descAddr.trans ha
    rw [if_pos (Nat.not_lt.mpr hsel)] at hexec
  · have hbad : selExc u1 13#8 gate.gateSel = selExc s 13#8 gate.gateSel := hk.selExc
    rw [← hbad]
    exact settled_exc hexec (bind_error (fetchDesc_none ha))
  intro same
  replace hk := hk.trans ((readDesc_keeps _).ok hd)
  rw [bind_ok (fetchDesc_some ha hd)] at hexec
  dsimp only at hexec
  rw [gateNamed_eq hk] at hexec
  refine ⟨fun hbad => settled_exc hexec (if_neg hbad), fun hcode hdpl habs => ?_, fun hcode hdpl hpres => ?_⟩
  all_goals
    have hgood : d.isCode = true ∧ d.dpl ≤ s.started.cpl := ⟨hcode, hdpl⟩
    rw [if_pos hgood] at hexec
  · exact settled_exc hexec (if_neg (Bool.eq_false_iff.mp habs))
  rw [if_pos hpres] at hexec
  have hbad : selExc u2 13#8 gate.gateSel = selExc s 13#8 gate.gateSel := hk.selExc
  by_cases hsame : same
  · rw [gateTarget_same (s := s.started) hsame] at hexec
    refine ⟨fun _ hne => absurd hsame hne, ?_, ?_, ?_, ?_, ?_, fun _ hne => absurd hsame hne,
      fun _ hne => absurd hsame hne⟩
    · rintro rfl _ hlt
      exact settled_exc hexec (gateSame_jump_beyond hk hlt)
    · rintro rfl _ hle v hmark
      exact settled_ok hexec (gateSame_jump hk hle hmark)
    · rintro rfl _ hno
      exact settled_exc hexec (gateSame_call_denied hk hno)
    · rintro rfl _ hroom hlt
      exact settled_exc hexec (gateSame_call_beyond hk hroom hlt)
    · rintro rfl _ hroom hle v w hpush hmark
      exact settled_ok hexec (gateSame_call hk hroom hle hpush hmark)
  · rw [gateTarget_inner (s := s.started) hsame] at hexec
    refine ⟨?_, fun _ h => absurd h hsame, fun _ h => absurd h hsame, fun _ h => absurd h hsame,
      fun _ h => absurd h hsame, fun _ h => absurd h hsame, ?_, ?_⟩
    · rintro rfl _
      rw [← hbad]
      exact settled_exc hexec (raiseSel_eq _ _ _)
    · rintro rfl _ v e hstack
      exact settled_exc hexec (callInner_error hstack)
    · rintro rfl _ stack v hstack
      exact ⟨fun hlt => settled_exc hexec (callInner_beyond (s := s.started) hk hstack hlt),
        fun hle v0 v1 v2 v3 v4 v5 henter hss hesp hcopy hret hmark =>
          settled_ok hexec (callInner_ok (s := s.started) hk hstack hle henter hss hesp hcopy hret hmark)⟩

end Sys2Proof.Claims
end

section
/-! PROOF. Blocks of memory as numbers and as lists of words; what a task switch saves in a TSS and reads from one. -/

namespace Sys2Proof.Machine

open Sys2Proof.Claims

variable {s t u : State} {la a : Word} {n k i : Nat} {vs : List Word} {bs : List Byte} {pas : List Word}
variable {image : Flags} {eip base : Word}

/-! ### Values laid out as bytes (20 R135) -/

theorem dwords_eq (vs : List Word) : dwords vs = layout 4 vs := by
  induction vs with
  | nil => rfl
  | cons v vs ih => rw [dwords, ih]; rfl

theorem halves_eq (vs : List Word) : halves vs = layout 2 vs := by
  induction vs with
  | nil => rfl
  | cons v vs ih => rw [halves, ih]; rfl

theorem layout_cons (n : Nat) (v : Word) (vs : List Word) : layout n (v :: vs) = toBytes n v.toNat ++ layout n vs := rfl

theorem layout_length (n : Nat) (vs : List Word) : (layout n vs).length = n * vs.length := by
  induction vs with
  | nil => rfl
  | cons v vs ih => rw [layout_cons, List.length_append, toBytes_length, ih, List.length_cons, Nat.mul_succ, Nat.add_comm]

theorem ofBytes_append (as bs : List Byte) : ofBytes (as ++ bs) = ofBytes as + 256 ^ as.length * ofBytes bs := by
  induction as with
  | nil => simp [ofBytes]
  | cons b as ih => rw [List.cons_append, ofBytes, ih, ofBytes, List.length_cons, Nat.pow_succ]; ring

theorem ofBytes_drop (bs : List Byte) (k : Nat) : ofBytes bs / 256 ^ k = ofBytes (bs.drop k) := by
  induction k generalizing bs with
  | zero => simp
  | succ k ih =>
    cases bs with
    | nil => simp [ofBytes]
    | cons b bs =>
      have hb := b.isLt
      rw [List.drop_succ_cons, ← ih, Nat.pow_succ', ← Nat.div_div_eq_div_mul, ofBytes]
      congr 1
      omega

theorem field_ofBytes (w k : Nat) (bs : List Byte) : field w (ofBytes bs) k = BitVec.ofNat w (ofBytes (bs.drop k)) := by
  rw [field, Nat.pow_mul, ← ofBytes_drop]

/-- The `i`-th of the values laid out. -/
theorem field_layout (h : i < vs.length) : field (8 * n) (ofBytes (layout n vs)) (n * i) = BitVec.ofNat (8 * n) vs[i].toNat := by
  rw [field_ofBytes]
  induction vs generalizing i with
  | nil => simp at h
  | cons v vs ih =>
    cases i with
    | zero =>
      have hmod (x y : Nat) : BitVec.ofNat (8 * n) (x % 256 ^ n + 256 ^ n * y) = BitVec.ofNat (8 * n) x := by
        apply BitVec.eq_of_toNat_eq
        simp [Nat.pow_mul]
      simp [layout_cons, ofBytes_append, ofBytes_toBytes, toBytes_length, hmod]
    | succ i =>
      have hdrop : (layout n (v :: vs)).drop (n * (i + 1)) = (layout n vs).drop (n * i) := by
        rw [layout_cons, Nat.mul_succ, Nat.add_comm, ← List.drop_drop, List.drop_left' (toBytes_length n _)]
      rw [hdrop]
      exact ih (by simpa using h)

/-! ### Blocks of memory -/

/-- The `n` bytes from address `a` on. -/
def memBytes (m : List Host.Cell) (a n : Nat) : List Byte := (List.range' a n).map (Memory.read m)

theorem memBytes_drop (m : List Host.Cell) (a n k : Nat) : (memBytes m a n).drop k = memBytes m (a + k) (n - k) := by
  rw [memBytes, ← List.map_drop, List.drop_range', Nat.mul_one, memBytes]

theorem memBytes_succ (m : List Host.Cell) (a n : Nat) :
    memBytes m a (n + 1) = Memory.read m a :: memBytes m (a + 1) n := by
  rw [memBytes, List.range'_succ, List.map_cons, memBytes]

theorem map_addrsFrom (m : List Host.Cell) (h : a.toNat + n ≤ 2 ^ 32) :
    ((addrsFrom a n).map fun p => Memory.read m p.toNat) = memBytes m a.toNat n := by
  rw [addrsFrom_eq, memBytes, List.range'_eq_map_range, List.map_map, List.map_map]
  refine List.map_congr_left fun k hk => ?_
  have hlt := List.mem_range.mp hk
  have haddr : (a + BitVec.ofNat 32 k).toNat = a.toNat + k := by
    rw [BitVec.toNat_add, BitVec.toNat_ofNat]
    omega
  simp [haddr]

theorem field_memWord (m : List Host.Cell) (a : Nat) (h : k + 4 ≤ n) :
    field 32 (ofBytes (memBytes m a n)) k = memWord m (a + k) := by
  obtain ⟨j, rfl⟩ := Nat.exists_eq_add_of_le h
  rw [field_ofBytes, memBytes_drop, show k + 4 + j - k = j + 1 + 1 + 1 + 1 by omega]
  generalize a + k = b
  apply BitVec.eq_of_toNat_eq
  simp only [memBytes_succ, ofBytes, Nat.add_assoc, Nat.reduceAdd]
  simp only [memWord, toNat_append_eq, BitVec.toNat_ofNat]
  omega

theorem field_memHalf (m : List Host.Cell) (a : Nat) (h : k + 2 ≤ n) :
    field 16 (ofBytes (memBytes m a n)) k = memHalf m (a + k) := by
  obtain ⟨j, rfl⟩ := Nat.exists_eq_add_of_le h
  rw [field_ofBytes, memBytes_drop, show k + 2 + j - k = j + 1 + 1 by omega]
  simp only [memBytes_succ, ofBytes, memHalf]
  apply BitVec.eq_of_toNat_eq
  simp only [toNat_append_eq, BitVec.toNat_ofNat]
  omega

theorem memHalf_eq (m : List Host.Cell) (a : Nat) : memHalf m a = (memWord m a).setWidth 16 := by
  apply BitVec.eq_of_toNat_eq
  simp only [memHalf, memWord, BitVec.toNat_setWidth, toNat_append_eq]
  omega

section
variable {m : List Host.Cell} {b : Nat}

/-- Dwords laid out in memory. -/
theorem memWord_layout (hm : memBytes m b (4 * vs.length) = layout 4 vs) (hi : i < vs.length) :
    memWord m (b + 4 * i) = vs[i] := by
  rw [← field_memWord m b (k := 4 * i) (n := 4 * vs.length) (by omega), hm]
  exact (field_layout (n := 4) hi).trans ((BitVec.ofNat_toNat _ _).trans (BitVec.setWidth_eq _))

/-- The low halves of words laid out as 16-bit numbers. -/
theorem memHalf_layout (hm : memBytes m b (2 * vs.length) = layout 2 vs) (hi : i < vs.length) :
    memHalf m (b + 2 * i) = vs[i].setWidth 16 := by
  rw [← field_memHalf m b (k := 2 * i) (n := 2 * vs.length) (by omega), hm]
  exact (field_layout (n := 2) hi).trans (BitVec.ofNat_toNat _ _)

end

/-- A block read by the processor, where linear addresses are physical. -/
theorem linRead_plain (hp : Plain s) (h : la.toNat + n ≤ 2 ^ 32) :
    linRead la n s = .ok (ofBytes (memBytes s.mem la.toNat n)) s := by
  obtain ⟨-, -, hm, -⟩ := id hp
  rw [linRead, bind_ok (physAddrs_plain_eq hp _ _ _ _), bind_ok (physReadList_plain hm _), map_addrsFrom _ h]
  rfl

theorem Stores.block (h : Stores u (addrsFrom a n) bs t) (hm : u.physMap = []) (hn : n = bs.length)
    (ha : a.toNat + n ≤ 2 ^ 32) : memBytes t.mem a.toNat n = bs := by
  rw [← map_addrsFrom _ ha]
  exact h.read_back hm (by rw [addrsFrom_length, hn])

/-! ### Saving the old task (42 R542) -/

/-- Where there is nothing but RAM, stores of single items and of the whole block are the same. -/
theorem physWriteList_ram (hm : s.physMap = []) (m n : Nat) (pas : List Word) (bs : List Byte) :
    physWriteList m pas bs s = physWriteList n pas bs s := by
  induction pas generalizing s bs with
  | nil => rfl
  | cons p ps ih =>
    cases bs with
    | nil => rfl
    | cons b bs =>
      have hnone : physKind s.physMap p.toNat = none := by rw [hm]; rfl
      rw [physWriteList, physWriteList, bind_ok (physWrite_ok _ _ _ _), bind_ok (physWrite_ok _ _ _ _), hnone]
      exact ih (s := { noteStale p b s with mem := Memory.write s.mem p.toNat b }) hm bs

theorem linWriteBytes_stores (hm : s.physMap = []) (hwf : Memory.wf s.mem = true) (hlen : bs.length ≤ 4096)
    (hp : physAddrs la bs.length true false s = .ok pas u) :
    ∃ t, linWriteBytes la n bs s = .ok () t ∧ Stores u pas bs t := by
  have hk := (physAddrs_keeps _ _ _ _).ok hp
  obtain ⟨t, ht, hs⟩ := physWriteList_stores (hk.wf hwf) (physAddrs_nodup hlen hp) (physAddrs_length hp)
  rw [physWriteList_ram (hk.physMap.trans hm) _ n] at ht
  exact ⟨t, (bind_ok hp).trans ht, hs⟩

/-- The words of a 386 TSS from EIP on. -/
def tssWords (s : State) (image : Flags) (eip : Word) : List Word :=
  taskWords s image eip ++ [s.segs.fs.selector.setWidth 32, s.segs.gs.selector.setWidth 32]

theorem saveTask_386 (h : s.tr.is386 = true) : saveTask image eip s =
    linWriteBytes (s.tr.base + 0x20#32) 4 (layout 4 (tssWords s image eip)) s := by
  rw [saveTask, bind_ok (get_apply s), if_pos h, dwords_eq]
  rfl

theorem saveTask_286 (h : s.tr.is386 = false) : saveTask image eip s =
    linWriteBytes (s.tr.base + 0xE#32) 2 (layout 2 (taskWords s image eip)) s := by
  rw [saveTask, bind_ok (get_apply s), h, if_neg Bool.false_ne_true, halves_eq]
  rfl

/-- The words saved by a task whose linear addresses are physical, and the state they leave. -/
theorem saved_layout (hp : Plain s) (hwf : Memory.wf s.mem = true) (hla : la.toNat + n * vs.length ≤ 2 ^ 32)
    (hlen : n * vs.length ≤ 4096) (h : linWriteBytes la n (layout n vs) s = .ok () t) :
    Plain t ∧ memBytes t.mem la.toNat (n * vs.length) = layout n vs := by
  obtain ⟨-, -, hm, -⟩ := id hp
  have hl := layout_length n vs
  obtain ⟨t', ht, hs⟩ := linWriteBytes_stores (n := n) hm hwf (hl.trans_le hlen) (physAddrs_plain_eq hp _ _ _ _)
  rw [h] at ht
  cases ht
  rw [hl] at hs
  exact ⟨hs.plain hp, hs.block hm hl.symm hla⟩

/-! ### Reading the new task (42 R544, R547) -/

/-- The dword and the word at offset `k` of the TSS at `base`. -/
def tssWord (s : State) (base : Word) (k : Nat) : Word := memWord s.mem (base.toNat + k)

def tssHalf (s : State) (base : Word) (k : Nat) : Half := memHalf s.mem (base.toNat + k)

/-- An offset in a TSS that ends below 2^32. -/
theorem tssOffset (hb : base.toNat + 0x68 ≤ 2 ^ 32) (hk : k < 0x68) :
    (base + BitVec.ofNat 32 k).toNat = base.toNat + k := by
  rw [BitVec.toNat_add, BitVec.toNat_ofNat]
  omega

section
variable (hp : Plain s) (hb : base.toNat + 0x68 ≤ 2 ^ 32)
include hp hb

/-- The fields of a block read at offset `o` of a TSS lie at their offsets in the TSS. -/
theorem readTssBlock (o : Nat) (hn : 0 < n) (ho : o + n ≤ 0x68) : ∃ v, linRead (base + BitVec.ofNat 32 o) n s = .ok v s ∧
    (∀ k, o ≤ k → k + 4 ≤ o + n → field 32 v (k - o) = tssWord s base k) ∧
    (∀ k, o ≤ k → k + 2 ≤ o + n → field 16 v (k - o) = tssHalf s base k) := by
  have hbase := tssOffset hb (k := o) (by omega)
  refine ⟨_, linRead_plain hp (by omega), fun k hk hn => ?_, fun k hk hn => ?_⟩
  · rw [hbase, field_memWord _ _ (by omega), tssWord, Nat.add_assoc, Nat.add_sub_cancel' hk]
  · rw [hbase, field_memHalf _ _ (by omega), tssHalf, Nat.add_assoc, Nat.add_sub_cancel' hk]

theorem readTask_386 : readTask base true s = .ok
    { eip := tssWord s base 0x20, flags := Flags.ofWord (tssWord s base 0x24),
      regs := { eax := tssWord s base 0x28, ecx := tssWord s base 0x2C, edx := tssWord s base 0x30,
                ebx := tssWord s base 0x34, esp := tssWord s base 0x38, ebp := tssWord s base 0x3C,
                esi := tssWord s base 0x40, edi := tssWord s base 0x44 },
      es := tssHalf s base 0x48, cs := tssHalf s base 0x4C, ss := tssHalf s base 0x50, ds := tssHalf s base 0x54,
      fs := tssHalf s base 0x58, gs := tssHalf s base 0x5C, ldt := tssHalf s base 0x60,
      cr3 := some (tssWord s base 0x1C &&& 0xFFFFF000#32), trap := (tssHalf s base 0x64).getLsbD 0 } s := by
  obtain ⟨v, hv, hword, hhalf⟩ := readTssBlock hp hb 0x1C (n := 74) (by omega) (by omega)
  rw [readTask, if_pos rfl]
  refine (bind_ok hv).trans ?_
  simp (disch := decide) only [hword, hhalf, pure_apply]

/-- The word at each of eight offsets, with free values above it (42 R547). -/
theorem readTask_286 : readTask base false s = .ok
    { eip := (tssHalf s base 0xE).setWidth 32, flags := Flags.ofWord ((tssHalf s base 0x10).setWidth 32),
      regs := { eax := Config.free 16 s.draws ++ tssHalf s base 0x12,
                ecx := Config.free 16 (s.draws + 1) ++ tssHalf s base 0x14,
                edx := Config.free 16 (s.draws + 2) ++ tssHalf s base 0x16,
                ebx := Config.free 16 (s.draws + 3) ++ tssHalf s base 0x18,
                esp := Config.free 16 (s.draws + 4) ++ tssHalf s base 0x1A,
                ebp := Config.free 16 (s.draws + 5) ++ tssHalf s base 0x1C,
                esi := Config.free 16 (s.draws + 6) ++ tssHalf s base 0x1E,
                edi := Config.free 16 (s.draws + 7) ++ tssHalf s base 0x20 },
      es := tssHalf s base 0x22, cs := tssHalf s base 0x24, ss := tssHalf s base 0x26, ds := tssHalf s base 0x28,
      fs := 0#16, gs := 0#16, ldt := tssHalf s base 0x2A, cr3 := none, trap := false }
    { s with draws := s.draws + 8 } := by
  obtain ⟨v, hv, -, hhalf⟩ := readTssBlock hp hb 0xE (n := 30) (by omega) (by omega)
  rw [readTask, if_neg Bool.false_ne_true]
  refine (bind_ok hv).trans ?_
  simp (disch := decide) only [hhalf]
  rfl

end

/-! ### What has been saved is read back -/

theorem tssHalf_eq (s : State) (base : Word) (k : Nat) : tssHalf s base k = (tssWord s base k).setWidth 16 :=
  memHalf_eq _ _

theorem memHalf_bit (m : List Host.Cell) (a : Nat) : (memHalf m a).getLsbD 0 = (Memory.read m a).getLsbD 0 := by
  rw [memHalf, BitVec.getLsbD_append, if_pos (by decide)]

section
variable (hp : Plain s) (hwf : Memory.wf s.mem = true) (hb : s.tr.base.toNat + 0x68 ≤ 2 ^ 32)
  (h : saveTask image eip s = .ok () t)
include hp hwf hb h

theorem tssWords_saved (hkind : s.tr.is386 = true) : Plain t ∧
    [0x20, 0x24, 0x28, 0x2C, 0x30, 0x34, 0x38, 0x3C, 0x40, 0x44, 0x48, 0x4C, 0x50, 0x54, 0x58, 0x5C].map
      (tssWord t s.tr.base) = tssWords s image eip := by
  have hla := tssOffset hb (k := 0x20) (by omega)
  have hlen : (tssWords s image eip).length = 16 := rfl
  rw [saveTask_386 hkind] at h
  obtain ⟨hpt, hmem⟩ := saved_layout hp hwf (by rw [hla, hlen]; omega) (by rw [hlen]; omega) h
  refine ⟨hpt, (congrArg (List.map _) (show _ = List.range' 0x20 16 4 from rfl)).trans ?_⟩
  refine List.ext_getElem (by rw [hlen, List.length_map, List.length_range']) fun i _ hi => ?_
  rw [List.getElem_map, List.getElem_range', tssWord, ← Nat.add_assoc, ← hla]
  exact memWord_layout hmem hi

theorem taskWords_saved (hkind : s.tr.is386 = false) : Plain t ∧
    [0xE, 0x10, 0x12, 0x14, 0x16, 0x18, 0x1A, 0x1C, 0x1E, 0x20, 0x22, 0x24, 0x26, 0x28].map
      (tssHalf t s.tr.base) = (taskWords s image eip).map (BitVec.setWidth 16) := by
  have hla := tssOffset hb (k := 0xE) (by omega)
  have hlen : (taskWords s image eip).length = 14 := rfl
  rw [saveTask_286 hkind] at h
  obtain ⟨hpt, hmem⟩ := saved_layout hp hwf (by rw [hla, hlen]; omega) (by rw [hlen]; omega) h
  refine ⟨hpt, (congrArg (List.map _) (show _ = List.range' 0xE 14 2 from rfl)).trans ?_⟩
  refine List.ext_getElem (by simp only [hlen, List.length_map, List.length_range']) fun i _ hi => ?_
  rw [List.getElem_map, List.getElem_map, List.getElem_range', tssHalf, ← Nat.add_assoc, ← hla]
  exact memHalf_layout hmem (by simpa using hi)

/-- What a 386 task has saved is what it will be started with. -/
theorem readTask_saved_386 (hkind : s.tr.is386 = true) : readTask s.tr.base true t = .ok
    { eip := eip, flags := image, regs := s.regs, es := s.segs.es.selector, cs := s.segs.cs.selector,
      ss := s.segs.ss.selector, ds := s.segs.ds.selector, fs := s.segs.fs.selector, gs := s.segs.gs.selector,
      ldt := tssHalf t s.tr.base 0x60, cr3 := some (tssWord t s.tr.base 0x1C &&& 0xFFFFF000#32),
      trap := (tssHalf t s.tr.base 0x64).getLsbD 0 } t := by
  obtain ⟨hpt, hwords⟩ := tssWords_saved hp hwf hb h hkind
  simp only [tssWords, taskWords, List.map_cons, List.map_nil, List.cons_append, List.nil_append, List.cons.injEq,
    and_true] at hwords
  rw [readTask_386 hpt hb]
  simp only [tssHalf_eq _ _ 0x48, tssHalf_eq _ _ 0x4C, tssHalf_eq _ _ 0x50, tssHalf_eq _ _ 0x54, tssHalf_eq _ _ 0x58,
    tssHalf_eq _ _ 0x5C, hwords, Flags.ofWord_toWord]
  simp

end

/-! ### A TSS of the 80286 (42 R547) -/

theorem and_low_half_toNat (v : Word) : (v &&& 0xFFFF#32).toNat = v.toNat % 2 ^ 16 := Width.trunc_w16_toNat v

theorem setWidth_half (v : Word) : (v.setWidth 16).setWidth 32 = v &&& 0xFFFF#32 := by
  apply BitVec.eq_of_toNat_eq
  rw [and_low_half_toNat, BitVec.toNat_setWidth, BitVec.toNat_setWidth]
  omega

theorem append_low_half (x : Half) (v : Word) : (x ++ v.setWidth 16 : Word) &&& 0xFFFF#32 = v &&& 0xFFFF#32 := by
  apply BitVec.eq_of_toNat_eq
  rw [and_low_half_toNat, and_low_half_toNat]
  refine (congrArg (· % 2 ^ 16) (toNat_append_eq x _)).trans ?_
  simp

/-- The low half of an image has no RF and no VM. -/
theorem Flags.ofWord_low_half (v : Word) :
    Flags.ofWord (v &&& 0xFFFF#32) = { Flags.ofWord v with RF := false, VM := false } := by
  have hiopl : (v &&& 0xFFFF#32).extractLsb' 12 2 = v.extractLsb' 12 2 := by
    refine BitVec.eq_of_getLsbD_eq fun i hi => ?_
    interval_cases i <;> simp
  simp [Flags.ofWord, hiopl, bit]

section
variable (hp : Plain s) (hwf : Memory.wf s.mem = true) (hb : s.tr.base.toNat + 0x68 ≤ 2 ^ 32)
  (h : saveTask image eip s = .ok () t)
include hp hwf hb h

/-- An 80286 TSS has the low halves of the registers, and no FS, GS or CR3. -/
theorem readTask_saved_286 (hkind : s.tr.is386 = false) :
    ∃ x, readTask s.tr.base false t = .ok x { t with draws := t.draws + 8 } ∧
      x.eip = eip &&& 0xFFFF#32 ∧ x.flags = { image with RF := false, VM := false } ∧
      (∀ n, x.regs.read .w16 n = s.regs.read .w16 n) ∧ x.es = s.segs.es.selector ∧ x.cs = s.segs.cs.selector ∧
      x.ss = s.segs.ss.selector ∧ x.ds = s.segs.ds.selector ∧ x.fs = 0#16 ∧ x.gs = 0#16 ∧
      x.ldt = tssHalf t s.tr.base 0x2A ∧ x.cr3 = none ∧ x.trap = false := by
  obtain ⟨hpt, hwords⟩ := taskWords_saved hp hwf hb h hkind
  simp only [taskWords, List.map_cons, List.map_nil, List.cons.injEq, and_true] at hwords
  refine ⟨_, readTask_286 hpt hb, ?_⟩
  simp only [hwords, setWidth_half, Flags.ofWord_low_half, Flags.ofWord_toWord]
  refine ⟨trivial, trivial, fun n => ?_, ?_⟩
  · cases n <;> exact append_low_half _ _
  · simp

end

end Sys2Proof.Machine
end

section
/-! PROOF. The task switch: what it checks and writes, the checks of the new task's selectors, and what they leave of its
state. -/

namespace Sys2Proof.Machine

open Sys2Proof.Claims

variable {s t u v w : State} {kind : SwitchKind} {sel : Half} {la eip : Word} {d : Desc} {image : Flags} {x : TaskImage}

/-! ### The switch (42 R540 to R544) -/

theorem taskSwitch_small (h : d.limit.toNat < tssMinLimit d.isTss386) :
    taskSwitch kind sel la d image eip s = .error (.exc (selExc s vecTS sel)) s := by
  rw [taskSwitch, bind_ok (get_apply s)]
  simp only [h, if_true]
  exact bind_error (raiseSel_eq _ _ _)

section
variable (hnew : tssMinLimit d.isTss386 ≤ d.limit.toNat)
include hnew

theorem taskSwitch_small_old (h : s.tr.limit.toNat < tssMinLimit s.tr.is386) :
    taskSwitch kind sel la d image eip s = .error (.exc (selExc s vecTS s.tr.selector)) s := by
  rw [taskSwitch, bind_ok (get_apply s)]
  simp only [Nat.not_lt.mpr hnew, if_false, h, if_true]
  exact bind_error (raiseSel_eq _ _ _)

/-- What follows the commit: the checks in the new task, and the debug trap of its T bit. -/
def startTask (x : TaskImage) : M Unit := do
  inNewTask (validateTask x)
  if x.trap then modify fun s => { s with pendingDb := s.pendingDb ||| 0x8000#32 }
  flushQueue

/-- The task register of the new task. -/
def newTr (sel : Half) (d : Desc) : TaskReg := { selector := sel, base := d.base, limit := d.limit, is386 := d.isTss386 }

theorem taskSwitch_eq (hold : tssMinLimit s.tr.is386 ≤ s.tr.limit.toNat)
    (hw : SwitchWrites kind la d.base image eip s u) (hx : readTask d.base d.isTss386 u = .ok x v) :
    taskSwitch kind sel la d image eip s = startTask x (v.switched (kind == .nest) (newTr sel d) x) := by
  obtain ⟨u1, u2, u3, hsave, hold', hbusy, hlink⟩ := hw
  rw [taskSwitch, bind_ok (get_apply s)]
  simp only [Nat.not_lt.mpr hnew, Nat.not_lt.mpr hold, if_false]
  cases kind with
  | jump =>
    obtain ⟨old, ha, hclear⟩ := hold'
    obtain rfl : u = u3 := hlink
    simp only [ha]
    exact (bind_ok hsave).trans ((bind_ok hclear).trans ((bind_ok hbusy).trans (bind_ok hx)))
  | nest =>
    obtain rfl : u2 = u1 := hold'
    exact (bind_ok hsave).trans ((bind_ok hbusy).trans ((bind_ok hlink).trans (bind_ok hx)))
  | back =>
    obtain ⟨old, ha, hclear⟩ := hold'
    obtain rfl : u3 = u2 := hbusy
    obtain rfl : u = u3 := hlink
    simp only [ha]
    exact (bind_ok hsave).trans ((bind_ok hclear).trans (bind_ok hx))

end
end Sys2Proof.Machine

namespace Sys2Proof.Machine

open Sys2Proof.Claims

/-! ### What the accesses of a task switch leave of the pending debug traps

`AccessKeeps` leaves them open, for an operand access may meet a data breakpoint; those of the processor itself do not. -/

/-- The pending debug traps are the same. -/
def KeepsDb (s t : State) : Prop := t.pendingDb = s.pendingDb

theorem KeepsDb.refl (s : State) : KeepsDb s s := rfl

theorem KeepsDb.trans {s t u : State} (h : KeepsDb s t) (h' : KeepsDb t u) : KeepsDb s u := Eq.trans h' h

section

variable {pa la : Word} {pas : List Word} {b bits : Byte} {n k : Nat} {wr user : Bool} {vec : Byte} {sel : Half}
variable {d : Desc} {level : BitVec 2}

theorem physRead_keepsDb : Preserves KeepsDb (physRead pa) := by
  intro s
  obtain ⟨b, k, h⟩ := physRead_ok pa s
  rw [h]
  exact rfl

theorem physReadList_keepsDb : Preserves KeepsDb (physReadList pas) := by
  intro s
  obtain ⟨bs, k, h, -⟩ := physReadList_ok pas s
  rw [h]
  exact rfl

theorem physWrite_keepsDb : Preserves KeepsDb (physWrite n pa b) := by
  intro s
  rw [physWrite_ok]
  rcases physKind s.physMap pa.toNat with _ | _ | _ | _ <;> exact rfl

theorem physSetBits_keepsDb : Preserves KeepsDb (physSetBits pa bits) :=
  .bind .trans physRead_keepsDb fun _ =>
    .ite (.pure .refl _) (.bind .trans physWrite_keepsDb fun _ => .modify fun _ => rfl)

theorem walk_keepsDb : Preserves KeepsDb (walk la wr user) :=
  have read {pa} : Preserves KeepsDb (physRead32 pa) := .bind .trans physReadList_keepsDb fun _ => .pure .refl _
  .bind .trans (.get .refl) fun _ => .bind .trans read fun _ => .ite (.pure .refl _) <|
    .bind .trans read fun _ => .ite (.pure .refl _) (.ite (.pure .refl _) (.pure .refl _))

theorem chooseEntry_keepsDb {es : List TlbEntry} : Preserves KeepsDb (chooseEntry es) := by
  cases es with
  | nil => exact .pure .refl _
  | cons e es => exact fun _ => rfl

theorem markDirty_keepsDb {w : Walk} : Preserves KeepsDb (markDirty wr w) := by
  cases w with
  | absent => exact .pure .refl _
  | denied pte | ok pde pte => exact .ite physSetBits_keepsDb (.pure .refl _)

theorem cached_keepsDb (s : State) (e : TlbEntry) : KeepsDb s (s.cached e) := by
  unfold State.cached
  split <;> exact rfl

theorem translate_keepsDb : Preserves KeepsDb (translate la wr user) :=
  .bind .trans (.get .refl) fun _ => .ite
    (.bind .trans walk_keepsDb fun w => .bind .trans chooseEntry_keepsDb fun
      | some _ => .check .trans (.throw .refl _) fun _ => .bind .trans markDirty_keepsDb fun _ => .pure .refl _
      | none => by
        cases w with
        | absent | denied _ => exact .throw .refl _
        | ok _ _ pde pte =>
          exact .bind .trans physSetBits_keepsDb fun _ => .bind .trans physSetBits_keepsDb fun _ =>
            .bind .trans (.modify fun s => cached_keepsDb s _) fun _ => .pure .refl _)
    (.bind .trans chooseEntry_keepsDb fun
      | some _ => .pure .refl _
      | none => .pure .refl _)

theorem physAddrs_keepsDb : Preserves KeepsDb (physAddrs la n wr user) :=
  .bind .trans translate_keepsDb fun _ => .ite (.pure .refl _) (.bind .trans translate_keepsDb fun _ => .pure .refl _)

theorem linRead_keepsDb : Preserves KeepsDb (linRead la n) :=
  .bind .trans physAddrs_keepsDb fun _ => .bind .trans physReadList_keepsDb fun _ => .pure .refl _

theorem markAccessed_keepsDb : Preserves KeepsDb (markAccessed la d) :=
  .ite (.pure .refl _) <| .bind .trans linRead_keepsDb fun _ =>
    .ite (.pure .refl _) (.bind .trans translate_keepsDb fun _ => physSetBits_keepsDb)

theorem raiseSel_keepsDb {α : Type} : Preserves KeepsDb (raiseSel vec sel : M α) := fun _ => rfl

theorem fetchDesc_keepsDb : Preserves KeepsDb (fetchDesc vec sel) :=
  .bind .trans (.get .refl) fun s => by
    cases s.descAddr sel with
    | none => exact raiseSel_keepsDb
    | some la => exact .bind .trans (.bind .trans linRead_keepsDb fun _ => .pure .refl _) fun _ => .pure .refl _

theorem stackDesc_keepsDb : Preserves KeepsDb (stackDesc vec sel level) :=
  .bind .trans fetchDesc_keepsDb fun (_, _) => .check .trans raiseSel_keepsDb fun _ =>
    .check .trans raiseSel_keepsDb fun _ => .pure .refl _

end

/-! ### What the checks in the new task leave of it (42 R545, R548) -/

/-- State `t` is one of the new task's, with no debug trap more pending than in `v`. -/
structure InTask (nest : Bool) (tr : TaskReg) (x : TaskImage) (v t : State) : Prop where
  task : OfTask nest tr x v t
  pendingDb : t.pendingDb = v.pendingDb
  keepRF : t.insn.keepRF = true

/-- The selector the new task has for a segment register. -/
def TaskImage.selector (x : TaskImage) : SegNo → Half
  | .es => x.es | .cs => x.cs | .ss => x.ss | .ds => x.ds | .fs => x.fs | .gs => x.gs

theorem selWithRpl_self (sel : Half) : selWithRpl sel (selRpl sel) = sel := by
  apply BitVec.eq_of_getLsbD_eq
  intro i hi
  simp only [selWithRpl, selRpl]
  interval_cases i <;> simp

section

variable {nest : Bool} {tr : TaskReg} {x : TaskImage} {v a b : State} {n : SegNo} {sel : Half}

theorem inTask_switched : InTask nest tr x v (v.switched nest tr x) := by
  refine ⟨⟨rfl, rfl, ?_, rfl, rfl, rfl, rfl, rfl, rfl, rfl, rfl, rfl, rfl, rfl⟩, ?_, rfl⟩
  all_goals
    rw [State.switched]
    cases x.cr3 <;> rfl

/-- An operation keeps the machine in the new task. -/
abbrev StaysInTask (nest : Bool) (tr : TaskReg) (x : TaskImage) (v a b : State) : Prop :=
  InTask nest tr x v a → InTask nest tr x v b

theorem StaysInTask.trans {c : State} (h : StaysInTask nest tr x v a b) (h' : StaysInTask nest tr x v b c) :
    StaysInTask nest tr x v a c := fun hi => h' (h hi)

theorem staysInTask_of_keeps (hk : AccessKeeps a b) (hdb : KeepsDb a b) : StaysInTask nest tr x v a b := by
  rintro ⟨htask, hp, hrf⟩
  refine ⟨?_, Eq.trans hdb hp, ?_⟩
  · rw [OfTask, hk.1]
    exact htask
  · rw [hk.1]
    exact hrf

/-- The accesses of the processor itself keep the machine in the new task. -/
theorem Preserves.staysInTask {α : Type} {y : M α} (hk : Preserves AccessKeeps y) (hdb : Preserves KeepsDb y) :
    Preserves (StaysInTask nest tr x v) y := by
  intro s
  cases h : y s with
  | ok a t => exact staysInTask_of_keeps (hk.ok h) (hdb.ok h)
  | error e t => exact staysInTask_of_keeps (hk.error h) (hdb.error h)

theorem InTask.set (h : InTask nest tr x v a) {r : SegReg} (hr : r.selector = x.selector n) :
    InTask nest tr x v { a with segs := a.segs.set n r } := by
  obtain ⟨⟨h1, h2, h3, h4, h5, h6, h7, hldt, hcs, hss, hds, hes, hfs, hgs⟩, hp, hrf⟩ := h
  refine ⟨⟨h1, h2, h3, h4, h5, h6, h7, hldt, ?_⟩, hp, hrf⟩
  cases n <;> refine ⟨?_, ?_, ?_, ?_, ?_, ?_⟩ <;> assumption

theorem InTask.withV86Segs (h : InTask nest tr x v a) : InTask nest tr x v { a with segs := v86Segs x } := by
  obtain ⟨⟨h1, h2, h3, h4, h5, h6, h7, hldt, -⟩, hp, hrf⟩ := h
  exact ⟨⟨h1, h2, h3, h4, h5, h6, h7, hldt, rfl, rfl, rfl, rfl, rfl, rfl⟩, hp, hrf⟩

theorem InTask.withLdtr (h : InTask nest tr x v a) {r : LdtReg} (hr : r.selector = x.ldt) :
    InTask nest tr x v { a with ldtr := r } := by
  obtain ⟨⟨h1, h2, h3, h4, h5, h6, h7, -, hsegs⟩, hp, hrf⟩ := h
  exact ⟨⟨h1, h2, h3, h4, h5, h6, h7, hr, hsegs⟩, hp, hrf⟩

theorem putSeg_staysInTask {r : SegReg} (hr : r.selector = x.selector n) :
    Preserves (StaysInTask nest tr x v) (putSeg n r) := .modify fun _ h => h.set hr

theorem setCpl_staysInTask {level : BitVec 2} : Preserves (StaysInTask nest tr x v) (setCpl level) :=
  .modify fun _ h => { h with }

theorem raiseSel_staysInTask {α : Type} {vec : Byte} :
    Preserves (StaysInTask nest tr x v) (raiseSel vec sel : M α) := fun _ h => h

theorem refl_staysInTask (a : State) : StaysInTask nest tr x v a a := id

theorem loadCS_staysInTask {la : Word} {d : Desc} :
    Preserves (StaysInTask nest tr x v) (loadCS x.cs la d (selRpl x.cs)) :=
  .bind .trans (.staysInTask (markAccessed_keeps _ _) markAccessed_keepsDb) fun _ =>
    putSeg_staysInTask (selWithRpl_self x.cs)

theorem checkLdt_staysInTask : Preserves (StaysInTask nest tr x v) (checkLdt x.ldt) :=
  .ite (.pure refl_staysInTask _) <| .check .trans raiseSel_staysInTask fun _ =>
    .bind .trans (.staysInTask (fetchDesc_keeps _ _) fetchDesc_keepsDb) fun (_, _) =>
      .check .trans raiseSel_staysInTask fun _ => .modify fun _ h => h.withLdtr rfl

theorem checkTaskCS_staysInTask : Preserves (StaysInTask nest tr x v) (checkTaskCS x.cs) :=
  .check .trans raiseSel_staysInTask fun _ =>
    .bind .trans (.staysInTask (fetchDesc_keeps _ _) fetchDesc_keepsDb) fun (_, _) =>
      .check .trans raiseSel_staysInTask fun _ => .check .trans raiseSel_staysInTask fun _ => loadCS_staysInTask

theorem putStackSeg_staysInTask {la : Word} {d : Desc} :
    Preserves (StaysInTask nest tr x v) (putStackSeg x.ss la d) :=
  .bind .trans (.staysInTask (markAccessed_keeps _ _) markAccessed_keepsDb) fun _ => putSeg_staysInTask (n := .ss) rfl

theorem checkTaskSS_staysInTask : Preserves (StaysInTask nest tr x v) (checkTaskSS x.ss) := by
  unfold checkTaskSS
  exact .check .trans raiseSel_staysInTask fun _ => .bind .trans (.get refl_staysInTask) fun _ =>
    .bind .trans (.staysInTask (stackDesc_keeps _ _ _) stackDesc_keepsDb) fun (_, _) => putStackSeg_staysInTask

theorem loadDataSeg_staysInTask {vec : Byte} (h : sel = x.selector n) :
    Preserves (StaysInTask nest tr x v) (loadDataSeg vec n sel) :=
  .ite (.bind .trans (.get refl_staysInTask) fun _ => putSeg_staysInTask h) <|
    .bind .trans (.staysInTask (fetchDesc_keeps _ _) fetchDesc_keepsDb) fun (_, _) =>
      .check .trans raiseSel_staysInTask fun _ => .bind .trans (.get refl_staysInTask) fun _ =>
        .check .trans raiseSel_staysInTask fun _ => .check .trans raiseSel_staysInTask fun _ =>
          .bind .trans (.staysInTask (markAccessed_keeps _ _) markAccessed_keepsDb) fun _ => putSeg_staysInTask h

theorem validateTask_staysInTask : Preserves (StaysInTask nest tr x v) (validateTask x) :=
  .bind .trans checkLdt_staysInTask fun _ => .ite
    (.modify fun _ h => h.withV86Segs) <|
    .bind .trans setCpl_staysInTask fun _ => .bind .trans checkTaskCS_staysInTask fun _ =>
      .bind .trans checkTaskSS_staysInTask fun _ => .bind .trans (loadDataSeg_staysInTask (n := .ds) rfl) fun _ =>
        .bind .trans (loadDataSeg_staysInTask (n := .es) rfl) fun _ =>
          .bind .trans (loadDataSeg_staysInTask (n := .fs) rfl) fun _ => loadDataSeg_staysInTask (n := .gs) rfl

end

end Sys2Proof.Machine
end

section
/-! PROOF. The task switch as a whole, the checks of the new task's selectors, and the transfers that switch tasks. -/

namespace Sys2Proof.Machine

open Sys2Proof.Claims

variable {s t u u' v w : State} {i : Instr} {call nest : Bool} {kind : SwitchKind} {sel : Half} {la eip : Word}
variable {d gate : Desc} {image : Flags} {x : TaskImage} {tr : TaskReg} {e : Exc} {stop : Stop} {n : SegNo}

theorem tssHalf_bit (s : State) (base : Word) (k : Nat) :
    (tssHalf s base k).getLsbD 0 = (Memory.read s.mem (base.toNat + k)).getLsbD 0 := memHalf_bit _ _

/-! ### The start of the new task (42 R546, R548) -/

theorem inNewTask_ok {α : Type} {y : M α} {a : α} (h : y s = .ok a t) : inNewTask y s = .ok a t := by
  rw [inNewTask, h]

theorem inNewTask_exc {α : Type} {y : M α} (h : y s = .error (.exc e) t) :
    inNewTask y s = .error (.excHere e) t := by
  rw [inNewTask, h]

/-- The new task begins in state `w`: a debug trap is pending where its T bit is set. -/
def begun (x : TaskImage) (w : State) : State :=
  State.flushed { w with pendingDb := w.pendingDb ||| if x.trap then 0x8000#32 else 0#32 }

theorem startTask_ok (h : validateTask x s = .ok () w) : startTask x s = .ok () (begun x w) := by
  rw [startTask, bind_ok (inNewTask_ok h), begun]
  cases x.trap with
  | true => rfl
  | false =>
    rw [if_neg Bool.false_ne_true, if_neg Bool.false_ne_true, BitVec.or_zero]
    rfl

theorem startTask_error (h : validateTask x s = .error (.exc e) w) : startTask x s = .error (.excHere e) w :=
  bind_error (inNewTask_exc h)

theorem InTask.begun (h : InTask nest tr x v w) : OfTask nest tr x v (begun x w) := h.task

/-! ### The order of the checks (42 R545) -/

theorem validateTask_ldt (h : checkLdt x.ldt s = .error stop u) : validateTask x s = .error stop u := bind_error h

section
variable (h : checkLdt x.ldt s = .ok () u)
include h

theorem validateTask_v86 (hvm : x.flags.VM = true) : validateTask x s = .ok () { u with segs := v86Segs x } := by
  rw [validateTask, bind_ok h, if_pos hvm]
  rfl

theorem validateTask_segs (hvm : x.flags.VM = false) : validateTask x s = taskSegChecks x
    { u with segs := { u.segs with cs := { u.segs.cs with dpl := selRpl x.cs } } } := by
  rw [validateTask, bind_ok h, hvm, if_neg Bool.false_ne_true]
  rfl

end

/-! ### The selector of the LDT -/

theorem checkLdt_null (hz : sel.toNat < 4) : checkLdt sel s = .ok () s := by
  rw [checkLdt, if_pos (selNull_iff.mpr hz)]
  rfl

section
variable (hz : 4 ≤ sel.toNat)
include hz

theorem checkLdt_local (h : sel.getLsbD 2 = true) : checkLdt sel s = .error (.exc (selExc s vecTS sel)) s := by
  have hlocal : selLocal sel = true := h
  rw [checkLdt, selNull_eq_false hz, if_neg Bool.false_ne_true]
  exact (congrFun (if_pos hlocal) s).trans (bind_error (raiseSel_eq _ _ _))

theorem checkLdt_global (h : sel.getLsbD 2 = false) : checkLdt sel s = (do
    let (_, d) ← fetchDesc vecTS sel
    if d.sysType != 2 || !d.present then raiseSel vecTS sel
    modify fun s => { s with ldtr := { selector := sel, base := d.base, limit := d.limit, valid := true } } : M Unit)
    s := by
  have hlocal : ¬selLocal sel = true := by rw [selLocal, h]; exact Bool.false_ne_true
  rw [checkLdt, selNull_eq_false hz, if_neg Bool.false_ne_true]
  exact congrFun (if_neg hlocal) s

theorem checkLdt_none (ha : s.descAddr sel = none) : checkLdt sel s = .error (.exc (selExc s vecTS sel)) s := by
  cases h : sel.getLsbD 2 with
  | true => exact checkLdt_local hz h
  | false => exact (checkLdt_global hz h).trans (bind_error (fetchDesc_none ha))

theorem checkLdt_eq (hg : sel.getLsbD 2 = false) (ha : s.descAddr sel = some la) (hd : readDesc la s = .ok d u) :
    checkLdt sel s = if d.sysType = 2 ∧ d.present = true then
        .ok () { u with ldtr := { selector := sel, base := d.base, limit := d.limit, valid := true } }
      else .error (.exc (selExc s vecTS sel)) u := by
  have hcheck : (d.sysType != 2 || !d.present) = true ↔ ¬(d.sysType = 2 ∧ d.present = true) := by
    rw [Bool.or_eq_true, bne_iff_ne, not_true_iff, not_and_or]
  rw [checkLdt_global hz hg, bind_ok (fetchDesc_some ha hd), ← ((readDesc_keeps la).ok hd).selExc]
  exact check_raiseSel hcheck

end

/-! ### The selectors of CS and SS -/

theorem checkTaskCS_null (hz : sel.toNat < 4) : checkTaskCS sel s = .error (.exc (selExc s vecTS sel)) s := by
  rw [checkTaskCS, if_pos (selNull_iff.mpr hz)]
  exact bind_error (raiseSel_eq _ _ _)

theorem checkTaskSS_null (hz : sel.toNat < 4) : checkTaskSS sel s = .error (.exc (selExc s vecTS sel)) s := by
  rw [checkTaskSS, if_pos (selNull_iff.mpr hz)]
  exact bind_error (raiseSel_eq _ _ _)

section
variable (hz : 4 ≤ sel.toNat)
include hz

theorem checkTaskCS_none (ha : s.descAddr sel = none) :
    checkTaskCS sel s = .error (.exc (selExc s vecTS sel)) s := by
  rw [checkTaskCS, selNull_eq_false hz, if_neg Bool.false_ne_true]
  exact bind_error (fetchDesc_none ha)

theorem checkTaskCS_eq (ha : s.descAddr sel = some la) (hd : readDesc la s = .ok d u) : checkTaskCS sel s =
    if d.reachable sel (selRpl sel) = true then
      if d.present = true then loadCS sel la d (selRpl sel) u
      else .error (.exc (selExc s vecNP sel)) u
    else .error (.exc (selExc s vecTS sel)) u := by
  have hk := (readDesc_keeps la).ok hd
  rw [checkTaskCS, selNull_eq_false hz, if_neg Bool.false_ne_true, ← hk.selExc, ← hk.selExc]
  refine (bind_ok (fetchDesc_some ha hd)).trans ((check_raiseSel not_true_iff).trans ?_)
  exact if_congr Iff.rfl (check_raiseSel not_true_iff) rfl

theorem checkTaskSS_eq : checkTaskSS sel s =
    (stackDesc vecTS sel s.cpl >>= fun x => putStackSeg sel x.1 x.2) s := by
  rw [checkTaskSS, selNull_eq_false hz, if_neg Bool.false_ne_true]
  rfl

end

/-! ### Tasks as targets of JMP and CALL (42 R528, R529) -/

theorem switchFrom_eq (hk : AccessKeeps s u) : switchFrom call sel la d u =
    taskSwitch (if call then .nest else .jump) sel la d s.flags s.nextEip u := by
  rw [switchFrom, bind_ok (get_apply u), hk.flags, hk.nextEip]

/-- A switch to the task whose TSS or task gate has descriptor `d`. -/
def switchNamed (call : Bool) (sel : Half) (la : Word) (d : Desc) : M Unit :=
  if d.sysType = 5 then gateTss d >>= fun x => switchFrom call x.1 x.2.1 x.2.2 else switchFrom call sel la d

/-- The privilege check on a TSS or task gate. -/
theorem usable_iff {cpl : BitVec 2} : (decide (d.dpl < cpl) || decide (d.dpl < selRpl sel)) = true ↔
    ¬(cpl ≤ d.dpl ∧ selRpl sel ≤ d.dpl) := by
  rw [Bool.or_eq_true, decide_eq_true_eq, decide_eq_true_eq, not_and_or, BitVec.not_le, BitVec.not_le]

section
variable (hk : AccessKeeps s u)
include hk

theorem farToTss_eq : farToTss call sel la d u =
    if s.cpl ≤ d.dpl ∧ selRpl sel ≤ d.dpl then
      if d.present = true then switchFrom call sel la d u
      else .error (.exc (selExc s vecNP sel)) u
    else .error (.exc (selExc s vecGP sel)) u := by
  rw [farToTss, bind_ok (get_apply u), hk.cpl, ← hk.selExc, ← hk.selExc]
  refine (check_raiseSel usable_iff).trans (if_congr Iff.rfl ((check_raiseSel not_true_iff).trans ?_) rfl)
  rfl

theorem farToTaskGate_eq : farToTaskGate call sel gate u =
    if s.cpl ≤ gate.dpl ∧ selRpl sel ≤ gate.dpl then
      if gate.present = true then (gateTss gate >>= fun x => switchFrom call x.1 x.2.1 x.2.2) u
      else .error (.exc (selExc s vecNP sel)) u
    else .error (.exc (selExc s vecGP sel)) u := by
  rw [farToTaskGate, bind_ok (get_apply u), hk.cpl, ← hk.selExc, ← hk.selExc]
  refine (check_raiseSel usable_iff).trans (if_congr Iff.rfl ((check_raiseSel not_true_iff).trans ?_) rfl)
  rfl

/-- The checks on a task as a target, in their order. -/
theorem farNamed_task {off : Word} (h : d.sysType ∈ [1, 5, 9]) : farNamed call sel off la d u =
    if s.cpl ≤ d.dpl ∧ selRpl sel ≤ d.dpl then
      if d.present = true then switchNamed call sel la d u
      else .error (.exc (selExc s vecNP sel)) u
    else .error (.exc (selExc s vecGP sel)) u := by
  by_cases hgate : d.sysType = 5
  · rw [farNamed_taskGate hgate, farToTaskGate_eq hk, switchNamed, if_pos hgate]
  · have htss : d.sysType = 1 ∨ d.sysType = 9 := by simpa [hgate] using h
    rw [farNamed_tss htss, farToTss_eq hk, switchNamed, if_neg hgate]

end

/-! ### The TSS of a task gate (42 R528) -/

theorem gateTss_keeps (gate : Desc) : Preserves AccessKeeps (gateTss gate) :=
  .check .trans (raiseSel_keeps _ _) fun _ => .bind .trans (fetchDesc_keeps _ _) fun (_, _) =>
    .check .trans (raiseSel_keeps _ _) fun _ => .check .trans (raiseSel_keeps _ _) fun _ => .pure .refl _

/-- A selector that names no descriptor of the GDT. -/
theorem selNull_or_local_iff : (selNull sel || selLocal sel) = true ↔ ¬(4 ≤ sel.toNat ∧ sel.getLsbD 2 = false) := by
  rw [Bool.or_eq_true, selNull_iff, selLocal, not_and_or, Nat.not_le, Bool.not_eq_false]

theorem availableTss_iff : d.availableTss = true ↔ d.sysType ∈ [1, 9] := by
  simp [Desc.availableTss]

theorem gateTss_eq : gateTss gate s =
    if 4 ≤ gate.gateSel.toNat ∧ gate.gateSel.getLsbD 2 = false then
      (do
        let (la, d) ← fetchDesc vecGP gate.gateSel
        if !d.availableTss then raiseSel vecGP gate.gateSel
        if !d.present then raiseSel vecNP gate.gateSel
        return (gate.gateSel, la, d) : M (Half × Word × Desc)) s
    else .error (.exc (selExc s vecGP gate.gateSel)) s := by
  rw [gateTss]
  exact check_raiseSel selNull_or_local_iff

theorem gateTss_unnamed (h : gate.gateSel.toNat < 4 ∨ gate.gateSel.getLsbD 2 = true ∨ s.descAddr gate.gateSel = none) :
    gateTss gate s = .error (.exc (selExc s vecGP gate.gateSel)) s := by
  rw [gateTss_eq]
  split
  · rename_i hg
    rcases h with h | h | h
    · exact absurd h (Nat.not_lt.mpr hg.1)
    · rw [hg.2] at h
      exact absurd h Bool.false_ne_true
    · exact bind_error (fetchDesc_none h)
  · rfl

theorem gateTss_named (hz : 4 ≤ gate.gateSel.toNat) (hg : gate.gateSel.getLsbD 2 = false)
    (ha : s.descAddr gate.gateSel = some la) (hd : readDesc la s = .ok d u) : gateTss gate s =
    if d.sysType ∈ [1, 9] then
      if d.present = true then .ok (gate.gateSel, la, d) u
      else .error (.exc (selExc s vecNP gate.gateSel)) u
    else .error (.exc (selExc s vecGP gate.gateSel)) u := by
  have hk := (readDesc_keeps la).ok hd
  rw [gateTss_eq, if_pos ⟨hz, hg⟩, bind_ok (fetchDesc_some ha hd), ← hk.selExc, ← hk.selExc]
  refine (check_raiseSel (not_true_iff.trans (not_congr availableTss_iff))).trans ?_
  exact if_congr Iff.rfl (check_raiseSel not_true_iff) rfl

/-! ### The return to the task before (42 R533) -/

theorem resumed_eq (s : State) : s.resumed = released s := by
  simp [State.resumed, released]

theorem interruptReturn_eq (s : State) : interruptReturn s =
    if s.protMode = true then iretProtected (released s) else iretReal (released s) := by
  rw [interruptReturn, bind_ok (modify_apply _ s), resumed_eq, bind_ok (get_apply _)]
  exact ite_apply _ _ _ _

/-- IRET in a nested task. -/
theorem interruptReturn_task (hp : s.protMode = true) (hnt : s.flags.NT = true) :
    interruptReturn s = returnTask (released s) := by
  have hnt : (released s).flags.NT = true := hnt
  rw [interruptReturn_eq, if_pos hp, iretProtected, bind_ok (get_apply _), if_pos hnt]

section
variable {k : Nat} (h : linRead s.tr.base 2 s = .ok k u)
include h

/-- The link to the task before is checked like a task gate's selector. -/
theorem returnTask_eq {link : Half} (hlink : BitVec.ofNat 16 k = link) : returnTask s =
    if 4 ≤ link.toNat ∧ link.getLsbD 2 = false then
      (do
        let (la, d) ← fetchDesc vecTS link
        if !(d.sysType == 3 || d.sysType == 11) then raiseSel vecTS link
        if !d.present then raiseSel vecNP link
        taskSwitch .back link la d s.flags s.nextEip : M Unit) u
    else .error (.exc (selExc s vecTS link)) u := by
  rw [returnTask, bind_ok (get_apply s), bind_ok h, hlink, ← ((linRead_keeps _ _).ok h).selExc]
  exact check_raiseSel selNull_or_local_iff

theorem returnTask_unnamed {link : Half} (hlink : BitVec.ofNat 16 k = link)
    (hbad : link.toNat < 4 ∨ link.getLsbD 2 = true ∨ s.descAddr link = none) :
    returnTask s = .error (.exc (selExc s vecTS link)) u := by
  rw [returnTask_eq h hlink]
  have hk := (linRead_keeps _ _).ok h
  split
  · rename_i hg
    rcases hbad with hbad | hbad | hbad
    · exact absurd hbad (Nat.not_lt.mpr hg.1)
    · rw [hg.2] at hbad
      exact absurd hbad Bool.false_ne_true
    · rw [← hk.selExc]
      exact bind_error (fetchDesc_none (hk.descAddr.trans hbad))
  · rfl

theorem returnTask_named {link : Half} (hlink : BitVec.ofNat 16 k = link) (hz : 4 ≤ link.toNat)
    (hg : link.getLsbD 2 = false) (ha : s.descAddr link = some la) (hd : readDesc la u = .ok d v) : returnTask s =
    if d.sysType ∈ [3, 11] then
      if d.present = true then taskSwitch .back link la d s.flags s.nextEip v
      else .error (.exc (selExc s vecNP link)) v
    else .error (.exc (selExc s vecTS link)) v := by
  have hread := (linRead_keeps _ _).ok h
  have hk := hread.trans ((readDesc_keeps la).ok hd)
  have hbusy : (!(d.sysType == 3 || d.sysType == 11)) = true ↔ ¬d.sysType ∈ [3, 11] := by simp
  rw [returnTask_eq h hlink, if_pos ⟨hz, hg⟩, bind_ok (fetchDesc_some (hread.descAddr.trans ha) hd), ← hk.selExc,
    ← hk.selExc]
  exact (check_raiseSel hbusy).trans (if_congr Iff.rfl (check_raiseSel not_true_iff) rfl)

end

end Sys2Proof.Machine
namespace Sys2Proof.Claims

open Sys2Proof.Machine

/-- Settles O60: saving and reading a TSS, the switch and its checks, then the transfers that end in a switch. -/
theorem taskSwitches : Obligations.TaskSwitches := by
  refine ⟨fun s u image eip pas hm hwf => ⟨?save386, ?save286⟩,
    fun s t image eip hp hwf hb hsave => ⟨?read386, readTask_saved_286 hp hwf hb hsave⟩,
    fun s u v w kind sel la eip d image x e => ⟨taskSwitch_small, taskSwitch_small_old, ?switch⟩,
    fun s u x => ⟨fun e => validateTask_ldt, fun h => ⟨validateTask_v86 h, validateTask_segs h⟩⟩,
    fun s u u' n sel la d => ?selectors, fun s u u1 u2 t i call sel tsel off la lt d dt e hi hpre hp hz ha hd => ?goes,
    fun s u gate d la => ⟨gateTss_unnamed, ?gate⟩, fun s u u1 t k la d e hpre hp hnt hlink => ?returns⟩
  case save386 =>
    intro hkind hpas
    have hlen : 4 * (tssWords s image eip).length ≤ 4096 := show 4 * 16 ≤ 4096 by omega
    rw [saveTask_386 hkind]
    exact ⟨(physAddrs_keeps _ _ _ _).ok hpas, linWriteBytes_stores hm hwf ((layout_length _ _).trans_le hlen) hpas⟩
  case save286 =>
    intro hkind hpas
    have hlen : 2 * (taskWords s image eip).length ≤ 4096 := show 2 * 14 ≤ 4096 by omega
    rw [saveTask_286 hkind]
    exact ⟨(physAddrs_keeps _ _ _ _).ok hpas, linWriteBytes_stores hm hwf ((layout_length _ _).trans_le hlen) hpas⟩
  case read386 =>
    intro hkind
    refine (readTask_saved_386 hp hwf hb hsave hkind).trans ?_
    rw [tssHalf_bit]
    rfl
  case switch =>
    intro hnew hold hwrites hread nest
    have hnest : nest = (kind == .nest) := by cases kind <;> rfl
    have heq := taskSwitch_eq (sel := sel) hnew hold hwrites hread
    have hin := inTask_switched (nest := nest) (tr := newTr sel d) (x := x) (v := v)
    rw [← hnest] at heq
    refine ⟨fun h => ?_, fun h => ?_⟩
    · have hw := validateTask_staysInTask.ok h hin
      refine ⟨_, heq.trans (startTask_ok h), hw.begun, ?_, rfl, rfl, rfl, hw.keepRF⟩
      rw [← hw.pendingDb]
      rfl
    · exact ⟨heq.trans (startTask_error h), (validateTask_staysInTask.error h hin).task⟩
  case selectors =>
    intro bad absent goodCS goodData
    refine ⟨fun hz => ⟨checkLdt_null hz, checkTaskCS_null hz, checkTaskSS_null hz, loadDataSeg_null hz⟩,
      fun hz h => h.elim (checkLdt_local hz) (checkLdt_none hz),
      fun hz ha => ⟨checkTaskCS_none hz ha, loadDataSeg_none hz ha⟩, fun hz ha hd => ?_, fun hz => ?_⟩
    · have hk := (readDesc_keeps la).ok hd
      have hcs := checkTaskCS_eq hz ha hd
      have hdata := loadDataSeg_eq (bad := 10#8) (n := n) ha hd hz
      rw [← ite_and] at hdata
      have hreach : goodCS ↔ d.reachable sel (selRpl sel) = true := (reachable_iff _ _ _).symm
      have hldt := fun hg => checkLdt_eq hz hg ha hd
      refine ⟨hk, fun hg => ⟨fun h => ?_, fun htype hpres => (hldt hg).trans (if_pos ⟨htype, hpres⟩)⟩,
        fun h => hcs.trans (if_neg (mt hreach.mpr h)),
        fun h habs => hcs.trans ((if_pos (hreach.mp h)).trans (if_neg (Bool.eq_false_iff.mp habs))), fun h => ?_,
        fun h habs => ?_, fun hpres hmark => ⟨hk.trans ((markAccessed_keeps _ _).ok hmark), fun h => ?_, fun h => ?_⟩⟩
      · exact (hldt hg).trans (if_neg (not_and_or.mpr (h.imp_right Bool.eq_false_iff.mp)))
      · exact hdata.trans (if_neg h)
      · exact hdata.trans ((if_pos h).trans (if_neg (Bool.eq_false_iff.mp habs)))
      · exact hcs.trans ((if_pos (hreach.mp h)).trans ((if_pos hpres).trans (loadCS_eq hmark)))
      · exact hdata.trans ((if_pos h).trans ((if_pos hpres).trans (putSeg_marked hmark)))
    · rw [checkTaskSS_eq hz]
      exact ⟨fun e h => bind_error h, fun h hmark => (bind_ok h).trans (putSeg_marked hmark)⟩
  case goes =>
    intro kind usable
    obtain ⟨hk, hexec⟩ := exec_farGoes_named hi hpre hp hz ha hd
    have htask : d.sysType ∈ [1, 5, 9] → _ := fun htype => hexec.trans (congrArg (settle s) (farNamed_task hk htype))
    refine ⟨fun htype hbad => settled_exc (htask htype) (if_neg hbad),
      fun htype hok habs => settled_exc (htask htype) ((if_pos hok).trans (if_neg (Bool.eq_false_iff.mp habs))),
      fun htype hok hpres => ?_, fun htype hok hpres => ?_⟩
    all_goals have hok : s.started.cpl ≤ d.dpl ∧ selRpl sel ≤ d.dpl := hok
    · have hne : d.sysType ≠ 5 := by omega
      have hexec := htask (by simpa [hne] using htype)
      rw [if_pos hok, if_pos hpres, switchNamed, if_neg hne, switchFrom_eq hk] at hexec
      exact ⟨settled_ok hexec, settled_exc hexec, settled_excHere hexec⟩
    · have hexec := htask (by simp [htype])
      rw [if_pos hok, if_pos hpres, switchNamed, if_pos htype] at hexec
      refine ⟨fun h => settled_exc hexec (bind_error h), fun h => ?_⟩
      rw [bind_ok h, switchFrom_eq (hk.trans ((gateTss_keeps d).ok h))] at hexec
      exact ⟨settled_ok hexec, settled_exc hexec, settled_excHere hexec⟩
  case gate =>
    intro hz hg ha hd
    have heq := gateTss_named hz hg ha hd
    refine ⟨fun h => heq.trans (if_neg h), fun h habs => ?_, fun h hpres => ?_⟩
    · exact heq.trans ((if_pos h).trans (if_neg (Bool.eq_false_iff.mp habs)))
    · exact heq.trans ((if_pos h).trans (if_pos hpres))
  case returns =>
    intro link
    have hexec : exec .iret s = settle s (returnTask (released s.started)) := by
      rw [← interruptReturn_task (s := s.started) hp hnt]
      exact transferInsn_eq hpre
    refine ⟨fun hbad => settled_exc hexec (returnTask_unnamed hlink rfl hbad), fun hz hg ha hd => ?_⟩
    rw [returnTask_named hlink rfl hz hg ha hd] at hexec
    refine ⟨fun h => settled_exc hexec (if_neg h), fun h habs => ?_, fun h hpres => ?_⟩
    all_goals rw [if_pos h] at hexec
    · exact settled_exc hexec (if_neg (Bool.eq_false_iff.mp habs))
    · rw [if_pos hpres] at hexec
      exact ⟨settled_ok hexec, settled_exc hexec, settled_excHere hexec⟩

end Sys2Proof.Claims
end

section
/-! PROOF. Events in real mode: what the three pushes and the read of the vector need, and how they make up an entry. -/

namespace Sys2Proof.Machine

open Sys2Proof.Claims

variable {s t u v w : State} {ev : Event} {n g k x : Nat}

/-! ### What a push leaves -/

/-- Stores change memory, what has been noted of it, and what devices see. -/
def StoreKeeps (s t : State) : Prop := t = { s with staleBytes := t.staleBytes, mem := t.mem, trace := t.trace }

theorem StoreKeeps.refl (s : State) : StoreKeeps s s := rfl

theorem StoreKeeps.trans (h : StoreKeeps s u) (h' : StoreKeeps u t) : StoreKeeps s t := by
  rw [StoreKeeps, h', h]

theorem physWriteList_storeKeeps (n : Nat) (pas : List Word) (bs : List Byte) :
    Preserves StoreKeeps (physWriteList n pas bs) := by
  induction pas generalizing bs with
  | nil => exact .pure .refl ()
  | cons p ps ih =>
    cases bs with
    | nil => exact .pure .refl ()
    | cons b bs =>
      refine .bind .trans (.modify fun s => ?_) fun _ => ih bs
      obtain ⟨_, _, _, h⟩ := s.stored_eq n p b
      rw [StoreKeeps, h]

/-- The flags stay. -/
def KeepsFlags (s t : State) : Prop := t.flags = s.flags

theorem KeepsFlags.refl (s : State) : KeepsFlags s s := rfl

theorem KeepsFlags.trans (h : KeepsFlags s u) (h' : KeepsFlags u t) : KeepsFlags s t := Eq.trans h' h

theorem StoreKeeps.flags (h : StoreKeeps s t) : KeepsFlags s t := by rw [KeepsFlags, h]

theorem push_keepsFlags (n : Nat) (v : Word) : Preserves KeepsFlags (push n v) :=
  .bind .trans (.get .refl) fun _ =>
    .bind .trans (.bind .trans ((memAddrs_keeps _ _ _ _ _).mono AccessKeeps.flags) fun _ =>
      (physWriteList_storeKeeps _ _ _).mono StoreKeeps.flags) fun _ => .modify fun _ => rfl

/-! ### Pushes over plain memory -/

/-- Plain memory, and room for `k` items of `g` bytes. -/
def PlainRoom (g k : Nat) (s : State) : Prop := Plain s ∧ s.room g k = true

theorem PlainRoom.push (h : PlainRoom g (k + 1) s) (v : Word) : ∃ t, push g v s = .ok () t ∧ PlainRoom g k t := by
  obtain ⟨hp, hr⟩ := h
  have ha : s.segs.ss.allows (s.stackOff (s.sp - BitVec.ofNat 32 g)) g false true = true := by
    have h0 := (room_iff _ _ _ _).mp hr 0 k.succ_pos
    rwa [Nat.zero_add, Nat.mul_one] at h0
  obtain ⟨pas, hpas⟩ := memAddrs_plain (sg := .ss) hp ha
  obtain ⟨w, hw⟩ := physWriteList_ok g pas (toBytes g v.toNat) s
  have hk : StoreKeeps s w := (physWriteList_storeKeeps _ _ _).ok hw
  have hoff (v : Word) : w.stackOff (s.stackOff v) = s.stackOff v := by
    rw [hk]
    exact s.stackOff_stackOff v
  refine ⟨_, (bind_ok (get_apply s)).trans (bind_ok ((bind_ok hpas).trans hw)), ?_, ?_⟩
  · rw [hk]
    exact hp
  · rw [State.room, State.sp_setReg, State.setReg_segs, hoff, hk]
    exact room_pushed hr

/-! ### The entry (60 R769) -/

theorem acknowledged_eq (ev : Event) (s : State) : s.acknowledged ev = acked ev s := by
  rw [State.acknowledged, acked]
  cases ev.kind <;> simp [vecDB, DebugRegs.entered]

/-- What an event finds and saves is the same in `u` as in `s`. -/
structure SameTask (s u : State) : Prop where
  flags : u.flags = s.flags
  segs : u.segs = s.segs
  regs : u.regs = s.regs
  eip : u.eip = s.eip
  gdtr : u.gdtr = s.gdtr
  idtr : u.idtr = s.idtr
  ldtr : u.ldtr = s.ldtr
  peNow : u.peNow = s.peNow

theorem SameTask.trans (h : SameTask s u) (h' : SameTask u t) : SameTask s t :=
  ⟨h'.flags.trans h.flags, h'.segs.trans h.segs, h'.regs.trans h.regs, h'.eip.trans h.eip, h'.gdtr.trans h.gdtr,
    h'.idtr.trans h.idtr, h'.ldtr.trans h.ldtr, h'.peNow.trans h.peNow⟩

theorem AccessKeeps.sameTask (h : AccessKeeps s u) : SameTask s u :=
  ⟨h.flags, h.segs, h.regs, h.eip, by rw [h.1], by rw [h.1], h.ldtr, by rw [h.1]; rfl⟩

theorem acked_sameTask (ev : Event) (s : State) : SameTask s (acked ev s) := by
  rw [acked]
  split
  · exact ⟨rfl, rfl, rfl, rfl, rfl, rfl, rfl, rfl⟩
  · exact ⟨rfl, rfl, rfl, rfl, rfl, rfl, rfl, rfl⟩
  · split <;> exact ⟨rfl, rfl, rfl, rfl, rfl, rfl, rfl, rfl⟩
  · exact ⟨rfl, rfl, rfl, rfl, rfl, rfl, rfl, rfl⟩

theorem SameTask.image (h : SameTask s u) (ev : Event) : u.eventImage ev = imageOf s ev := by
  rw [State.eventImage, h.flags, imageOf]

theorem deliverOnce_eq (ev : Event) (s : State) : deliverOnce ev s =
    if s.peNow = true then deliverProtected ev (acked ev s) else deliverReal ev (acked ev s) := by
  rw [deliverOnce, bind_ok (modify_apply _ s), bind_ok (get_apply _), acknowledged_eq, (acked_sameTask ev s).peNow]
  exact ite_apply _ _ _ _

theorem setWidth_ofNat_half (x : Nat) : (BitVec.ofNat 16 x).setWidth 32 = BitVec.ofNat 32 (x % 2 ^ 16) := by
  apply BitVec.eq_of_toNat_eq
  simp only [BitVec.toNat_setWidth, BitVec.toNat_ofNat]

/-- A vector is an offset of 16 bits. -/
theorem vectorOffset_le (x : Nat) : BitVec.ofNat 32 (x % 2 ^ 16) ≤ 0xFFFF#32 := by
  rw [BitVec.le_def, BitVec.toNat_ofNat, BitVec.toNat_ofNat]
  omega

theorem deliverOnce_of_realEntry (h : RealEntry ev s t) : deliverOnce ev s = .ok () t := by
  obtain ⟨x, u, u1, u2, u3, hreal, hlimit, hflags, hcs, hip, hvec, rfl⟩ := h
  have hsame := acked_sameTask ev s
  have hu : u.flags = s.flags := Eq.trans ((push_keepsFlags _ _).ok hflags) hsame.flags
  rw [← hu] at hcs
  rw [deliverOnce_eq, hreal, if_neg Bool.false_ne_true, deliverReal, bind_ok (get_apply _), hsame.idtr, hsame.segs,
    hsame.eip, hsame.image, if_neg (Nat.not_lt.mpr hlimit), ← setWidth_ofNat_half]
  refine (bind_ok hflags).trans ((bind_ok (modify_apply _ u)).trans ((bind_ok hcs).trans ((bind_ok hip).trans
    ((bind_ok hvec).trans (farReal_ok ?_)))))
  rw [setWidth_ofNat_half]
  exact vectorOffset_le x

/-- Over plain memory an event needs its vector in the table and room for three words. -/
theorem exists_realEntry (hreal : s.peNow = false) (h : PlainRoom 2 3 (acked ev s))
    (hlimit : 4 * ev.vector.toNat + 3 ≤ s.idtr.limit.toNat) : ∃ t, RealEntry ev s t := by
  obtain ⟨u, hu, hr⟩ := h.push (imageOf s ev).toWord
  have hr : PlainRoom 2 2 { u with flags := { s.flags with IF := false, TF := false } } := hr
  obtain ⟨u1, hu1, hr⟩ := hr.push (s.segs.cs.selector.setWidth 32)
  obtain ⟨u2, hu2, hp, -⟩ := hr.push s.eip
  obtain ⟨pas, hpas⟩ := physAddrs_plain hp (s.idtr.base + BitVec.ofNat 32 (4 * ev.vector.toNat)) 4 false false
  obtain ⟨bs, d, hbs, -⟩ := physReadList_ok pas u2
  exact ⟨_, _, u, u1, u2, _, hreal, hlimit, hu, hu1, hu2, (bind_ok hpas).trans (bind_ok hbs), rfl⟩

end Sys2Proof.Machine
end

section
/-! PROOF. Events through a gate: the checks on the gate, then the entry of its kind. -/

namespace Sys2Proof.Machine

open Sys2Proof.Claims

variable {s t u v w w' : State} {ev : Event} {gate d : Desc} {la : Word} {g : Nat} {level : BitVec 2}
variable {stack : InnerStack} {sel : Half}

section
variable (h : SameTask s u)
include h

theorem SameTask.cpl : u.cpl = s.cpl := by rw [State.cpl, h.peNow, h.flags, h.segs, State.cpl]

theorem SameTask.v86 : u.v86 = s.v86 := by rw [State.v86, h.peNow, h.flags, State.v86]

theorem SameTask.descAddr : u.descAddr sel = s.descAddr sel := by
  rw [State.descAddr, h.gdtr, h.ldtr, State.descAddr]

theorem SameTask.room {k : Nat} : u.room g k = s.room g k := by
  rw [State.room, State.sp, State.reg, State.stackWidth, h.segs, h.regs]
  rfl

end

/-! ### The gate (60 R760, R761) -/

theorem acked_insn (ev : Event) (s : State) : (acked ev s).insn = s.insn := by
  rw [acked]
  split
  · rfl
  · rfl
  · split <;> rfl
  · rfl

/-- The state in which the gate of event `ev` is read, at supervisor level. -/
def atGate (ev : Event) (s : State) : State := { acked ev s with insn := { (acked ev s).insn with system := true } }

theorem atGate_sameTask (ev : Event) (s : State) : SameTask s (atGate ev s) := { acked_sameTask ev s with }

/-- The checks on a gate, all passed: what it names is entered. -/
theorem deliverOnce_of_gate (h : GateOf ev s gate u) : SameTask s u ∧
    deliverOnce ev s = (if gate.sysType == 5 then enterTask ev gate else enterProcedure ev gate) u := by
  obtain ⟨hpe, hlimit, hread, htype, hdpl, hpres⟩ := h
  have hsys := atGate_sameTask ev s
  rw [← acked_insn ev s, ← hsys.idtr] at hread
  rw [← hsys.idtr] at hlimit
  rw [← hsys.cpl] at hdpl
  have hkind : ¬(!(gate.sysType == 5 || gate.sysType == 6 || gate.sysType == 7 || gate.sysType == 14 ||
      gate.sysType == 15)) = true := by
    simp only [List.mem_cons, List.not_mem_nil, or_false] at htype
    rcases htype with h | h | h | h | h <;> simp [h]
  have hpriv : ¬(ev.kind == .software && decide (gate.dpl < (atGate ev s).cpl)) = true := by
    simpa [BitVec.not_lt] using hdpl
  refine ⟨hsys.trans ((readDesc_keeps _).ok hread).sameTask, ?_⟩
  rw [deliverOnce_eq, if_pos hpe]
  refine (bind_ok (modify_apply _ _)).trans ((bind_ok (get_apply (atGate ev s))).trans ?_)
  refine (congrFun (if_neg (Nat.not_lt.mpr hlimit)) _).trans ((bind_ok hread).trans ?_)
  refine (congrFun (if_neg hkind) u).trans ((congrFun (if_neg hpriv) u).trans ?_)
  exact congrFun (if_neg (by rw [hpres]; exact Bool.false_ne_true)) u

/-! ### The handler (60 R762, R766) -/

/-- The frame on the stack that the privilege of the handler asks for. -/
def handlerStack (ev : Event) (gate d : Desc) (s : State) : M Unit :=
  if s.v86 then enterFromV86 ev s
  else if d.conforming || d.dpl == s.cpl then enterSame (gateSize gate) ev s
  else enterInner (gateSize gate) ev s d.dpl

/-- The handler begins once its frame has been made. -/
def enterHandler (gate : Desc) (la : Word) (d : Desc) (level : BitVec 2) : M Unit := do
  loadCS gate.gateSel la d level
  modifyFlags fun f => f.entered (gate.sysType % 2 == 0)
  jumpTo gate.gateOff

theorem enterHandler_ok (htype : gate.sysType ∈ [6, 7, 14, 15]) (hmark : markAccessed la d w = .ok () w') :
    enterHandler gate la d level w = .ok () (entered w' gate d level) := by
  have hkind : (!(gate.sysType % 2 == 0)) = decide (gate.sysType = 7 ∨ gate.sysType = 15) := by
    simp only [List.mem_cons, List.not_mem_nil, or_false] at htype
    rcases htype with h | h | h | h <;> rw [h] <;> rfl
  rw [enterHandler, bind_ok (loadCS_eq hmark), entered, ← hkind]
  rfl

/-- The checks on the handler's segment, all passed. -/
theorem enterProcedure_eq (hs : SameTask s u) (hh : HandlerOf s gate u la d v)
    (hv : s.v86 = true → d.conforming = false ∧ d.dpl = 0#2 ∧ gate.gate386 = true) : enterProcedure ev gate u =
      (handlerStack ev gate d u >>= fun _ => enterHandler gate la d
        (if d.conforming || d.dpl == s.cpl then s.cpl else d.dpl)) v := by
  obtain ⟨-, hz, ha, hd, hcode, hdpl, hpres, hle⟩ := hh
  have hcheck : ¬(!d.isCode || decide (u.cpl < d.dpl)) = true := by
    rw [hs.cpl, hcode]
    simpa using hdpl
  have hv86 : ¬(u.v86 && (d.conforming || d.dpl != 0#2)) = true := by
    rw [hs.v86]
    intro h
    obtain ⟨hvm, h⟩ := Bool.and_eq_true_iff.mp h
    obtain ⟨hconf, hzero, -⟩ := hv hvm
    simp [hconf, hzero] at h
  rw [enterProcedure, bind_ok (get_apply u), selNull_eq_false hz, if_neg Bool.false_ne_true]
  refine (bind_ok (fetchDesc_some (hs.descAddr.trans ha) hd)).trans ((congrFun (if_neg hcheck) v).trans ?_)
  refine (congrFun (if_neg (by rw [hpres]; exact Bool.false_ne_true)) v).trans ((congrFun (if_neg hv86) v).trans ?_)
  refine (bind_ok (checkEip_ok hle)).trans ?_
  rw [handlerStack, ← hs.cpl]
  by_cases hvm : u.v86 = true
  · obtain ⟨-, -, h386⟩ := hv (hs.v86.symm.trans hvm)
    rw [if_pos hvm, if_pos hvm, h386]
    rfl
  · rw [if_neg hvm, if_neg hvm]
    by_cases hsame : (d.conforming || d.dpl == u.cpl) = true
    · simp only [if_pos hsame]
      rfl
    · simp only [if_neg hsame]
      rfl

theorem handlerOf_keeps (h : HandlerOf s gate u la d v) : AccessKeeps u v := by
  obtain ⟨-, -, -, hd, -⟩ := h
  exact (readDesc_keeps _).ok hd

/-! ### The frames (60 R763 to R765) -/

theorem codeItems_length (code : ErrCode) : (codeItems code).length = code.items := by
  cases code <;> rfl

section
variable {v0 v1 v2 v3 v4 v5 : State} (hs : SameTask s u) (hk : AccessKeeps u v)
include hs hk

theorem enterSame_ok (hroom : s.room g (3 + (codeItems ev.code).length) = true)
    (hframe : pushFrame g (imageOf s ev) s.segs.cs.selector s.eip v = .ok () v1)
    (hcode : pushCode g ev.code v1 = .ok () v2) : enterSame g ev u v = .ok () v2 := by
  rw [← (hs.trans hk.sameTask).room, codeItems_length] at hroom
  rw [enterSame, bind_ok (needRoom_ok hroom), hs.image, hs.segs, hs.eip, bind_ok hframe, hcode]

omit hk in
theorem enterInner_ok (hstack : innerStack level g (5 + (codeItems ev.code).length) v = .ok stack v0)
    (henter : enterLevel level stack v0 = .ok () v1) (hss : pushSel g s.segs.ss.selector v1 = .ok () v2)
    (hesp : push g s.regs.esp v2 = .ok () v3)
    (hframe : pushFrame g (imageOf s ev) s.segs.cs.selector s.eip v3 = .ok () v4)
    (hcode : pushCode g ev.code v4 = .ok () v5) : enterInner g ev u level v = .ok () v5 := by
  rw [codeItems_length] at hstack
  rw [enterInner, hs.image, hs.segs, hs.eip, hs.regs, bind_ok hstack, bind_ok henter, bind_ok hss, bind_ok hesp,
    bind_ok hframe, hcode]

/-- What is pushed of the V86 task besides its frame. -/
def pushOldSegs (s : State) : M Unit := do
  pushSel 4 s.segs.gs.selector
  pushSel 4 s.segs.fs.selector
  pushSel 4 s.segs.ds.selector
  pushSel 4 s.segs.es.selector
  pushSel 4 s.segs.ss.selector
  push 4 s.regs.esp

theorem enterFromV86_ok (hstack : innerStack 0#2 4 (9 + (codeItems ev.code).length) v = .ok stack v0)
    (henter : enterLevel 0#2 stack { v0 with flags := { s.flags with VM := false } } = .ok () v1)
    (hold : pushOldSegs s (if stack.wide then v1.setReg .w32 .esp stack.esp else v1) = .ok () v2)
    (hframe : pushFrame 4 (imageOf s ev) s.segs.cs.selector s.eip v2 = .ok () v3)
    (hcode : pushCode 4 ev.code v3 = .ok () v4) :
    enterFromV86 ev u v = .ok () { v4 with segs := nulledSegs v4.segs } := by
  have hflags : v0.flags = s.flags := (hs.trans (hk.trans ((innerStack_keeps _ _ _).ok hstack)).sameTask).flags
  rw [← hflags] at henter
  rw [codeItems_length] at hstack
  rw [enterFromV86, hs.image, hs.segs, hs.eip, hs.regs, bind_ok hstack]
  refine (bind_ok (modify_apply _ v0)).trans ((bind_ok henter).trans ?_)
  have htail : (do
      pushOldSegs s
      pushFrame 4 (imageOf s ev) s.segs.cs.selector s.eip
      pushCode 4 ev.code
      modify fun t => { t with segs := nulledSegs t.segs } : M Unit)
      (if stack.wide then v1.setReg .w32 .esp stack.esp else v1) = .ok () { v4 with segs := nulledSegs v4.segs } := by
    rw [bind_ok hold, bind_ok hframe, bind_ok hcode]
    rfl
  simp only [pushOldSegs, bind_assoc] at htail
  cases hwide : stack.wide with
  | true =>
    rw [hwide] at htail
    exact htail
  | false =>
    rw [hwide] at htail
    exact htail

end

/-! ### The four kinds of entry -/

/-- Where the handler is a procedure: its frame is made, then it begins. -/
theorem deliverOnce_procedure (hg : GateOf ev s gate u) (hh : HandlerOf s gate u la d v)
    (hv : s.v86 = true → d.conforming = false ∧ d.dpl = 0#2 ∧ gate.gate386 = true)
    (hlevel : (if d.conforming || d.dpl == s.cpl then s.cpl else d.dpl) = level)
    (hstack : handlerStack ev gate d u v = .ok () w) (hmark : markAccessed la d w = .ok () w') :
    deliverOnce ev s = .ok () (entered w' gate d level) := by
  obtain ⟨hs, heq⟩ := deliverOnce_of_gate hg
  obtain ⟨-, -, -, htype, -, -⟩ := hg
  have hne : gate.sysType ≠ 5 := hh.1
  have htype : gate.sysType ∈ [6, 7, 14, 15] := List.mem_of_ne_of_mem hne htype
  rw [heq, if_neg (by simpa using hne), enterProcedure_eq hs hh hv, bind_ok hstack, hlevel]
  exact enterHandler_ok htype hmark

theorem enterTask_ok {v1 v2 : State} (hs : SameTask s u) (htss : gateTss gate u = .ok (sel, la, d) v)
    (hswitch : taskSwitch .nest sel la d (imageOf s ev) s.eip v = .ok () v1)
    (hcode : pushCode (gateSize d) ev.code v1 = .ok () v2) (hle : v2.eip ≤ v2.segs.cs.limit) :
    enterTask ev gate u = .ok () v2.flushed := by
  have hnew : (do
      pushCode (gateSize d) ev.code
      let t ← get
      checkEip t.segs.cs.limit t.eip : M Unit) v1 = .ok () v2 :=
    (bind_ok hcode).trans ((bind_ok (get_apply v2)).trans (checkEip_ok hle))
  rw [enterTask, bind_ok (get_apply u), hs.image, hs.eip, bind_ok htss]
  exact (bind_ok hswitch).trans (bind_ok (inNewTask_ok hnew))

theorem deliverOnce_of_gateEntry (h : GateEntry ev s t) : deliverOnce ev s = .ok () t := by
  cases h with
  | same gate d la u v v1 v2 v3 hg hh hvm hsame hroom hframe hcode hmark =>
    obtain ⟨hs, -⟩ := deliverOnce_of_gate hg
    have hv86 : s.v86 = false := by rw [State.v86, hvm, Bool.and_false]
    have hsame : (d.conforming || d.dpl == s.cpl) = true := by simpa using hsame
    refine deliverOnce_procedure hg hh (fun h => absurd (hv86.symm.trans h) Bool.false_ne_true) (if_pos hsame) ?_ hmark
    rw [handlerStack, hs.v86, hv86, hs.cpl, if_neg Bool.false_ne_true, if_pos hsame]
    exact enterSame_ok hs (handlerOf_keeps hh) hroom hframe hcode
  | inner gate d la stack u v v0 v1 v2 v3 v4 v5 v6 hg hh hvm hconf hdpl hstack henter hss hesp hframe hcode hmark =>
    obtain ⟨hs, -⟩ := deliverOnce_of_gate hg
    have hv86 : s.v86 = false := by rw [State.v86, hvm, Bool.and_false]
    have hinner : ¬(d.conforming || d.dpl == s.cpl) = true := by simp [hconf, hdpl]
    refine deliverOnce_procedure hg hh (fun h => absurd (hv86.symm.trans h) Bool.false_ne_true) (if_neg hinner) ?_ hmark
    rw [handlerStack, hs.v86, hv86, hs.cpl, if_neg Bool.false_ne_true, if_neg hinner]
    exact enterInner_ok hs hstack henter hss hesp hframe hcode
  | v86 gate d la stack u v v0 v1 v2 v3 v4 v5 hg hh hvm hconf hdpl h386 hstack henter hold hframe hcode hmark =>
    obtain ⟨hs, -⟩ := deliverOnce_of_gate hg
    have hv86 : s.v86 = true := by rw [State.v86, hvm, hg.1, Bool.and_true]
    have hcpl : s.cpl = 3#2 := by simp [State.cpl, hg.1, hvm]
    have hlevel : (if d.conforming || d.dpl == s.cpl then s.cpl else d.dpl) = 0#2 := by
      rw [hconf, hdpl, hcpl]
      rfl
    refine deliverOnce_procedure hg hh (fun _ => ⟨hconf, hdpl, h386⟩) hlevel ?_ hmark
    rw [handlerStack, hs.v86, hv86, if_pos rfl]
    exact enterFromV86_ok hs (handlerOf_keeps hh) hstack henter hold hframe hcode
  | task gate d la sel u v v1 v2 hg htype htss hswitch hcode hle =>
    obtain ⟨hs, heq⟩ := deliverOnce_of_gate hg
    rw [heq, if_pos (by simpa using htype)]
    exact enterTask_ok hs htss hswitch hcode hle

end Sys2Proof.Machine
end

section
/-! PROOF. INT n, INT 3, INTO, and IRET in each mode. -/

namespace Sys2Proof.Machine

open Sys2Proof.Claims

variable {s t u u1 u2 u3 v w : State} {i : Instr} {vec : Byte} {ip cs fl la : Word} {sel : Half} {d : Desc} {e : Stop}
variable {n k imm : Nat}

/-! ### Software interrupts (42 R512 to R514) -/

theorem denied_eq_not_v86Allows (s : State) : (s.v86 && s.flags.IOPL != 3#2) = !v86Allows s := by
  rw [v86Allows, Bool.not_or, Bool.not_not]
  rfl

/-- A software interrupt is delivered from the next instruction. -/
theorem exec_interrupts (h : Interrupts s i vec) (hpre : s.prefixOk false false) :
    exec i s = settle s (deliverOnce (softEvent vec) s.started.advanced) := by
  cases h with
  | intIb v hall =>
    have hall : ¬(s.started.v86 && s.started.flags.IOPL != 3#2) = true := by
      rw [denied_eq_not_v86Allows, not_true_iff, not_not]
      exact hall
    exact (transferInsn_eq hpre).trans (congrArg (settle s) (congrFun (if_neg hall) s.started))
  | int3 => exact transferInsn_eq hpre
  | into hof =>
    have hof : s.started.flags.OF = true := hof
    exact (transferInsn_eq hpre).trans (congrArg (settle s) (congrFun (if_pos hof) s.started))

theorem interruptN_denied (h : v86Allows s = false) : interruptN vec s = .error (.exc (gpZero s)) s := by
  have hdenied : (s.v86 && s.flags.IOPL != 3#2) = true := by rw [denied_eq_not_v86Allows, h]; rfl
  rw [interruptN, bind_ok (get_apply s), if_pos hdenied]
  exact bind_error (raiseGP0_eq s)

theorem interruptOverflow_idle (h : s.flags.OF = false) : interruptOverflow s = .ok () s.advanced := by
  rw [interruptOverflow, bind_ok (get_apply s), h]
  rfl

/-! ### The flags IRET loads (42 R533) -/

theorem load_eq_loadedFlags (s : State) (v : Word) (rf : Bool) : s.flags.load v s.cpl rf = loadedFlags s v rf := by
  simp [Flags.load, loadedFlags, Flags.ofWord]

/-- State `u` with the flags of an IRET of state `s` from the image `fl`; a loaded RF lasts. -/
def reflagged (s : State) (fl : Word) (u : State) : State :=
  { u with flags := loadedFlags s fl s.sizes.op32, insn := { u.insn with keepRF := u.insn.keepRF || s.sizes.op32 } }

theorem loadReturnFlags_ok (h : KeepsFlags s u) :
    loadReturnFlags s.opWidth.bytes fl s.cpl u = .ok () (reflagged s fl u) := by
  rw [loadReturnFlags, reflagged, ← load_eq_loadedFlags, ← h]
  refine (bind_ok (modify_apply _ u)).trans ?_
  cases hop : s.sizes.op32 with
  | false =>
    rw [opWidth_w16 hop, Bool.or_false]
    rfl
  | true =>
    rw [opWidth_w32 hop, Bool.or_true]
    rfl

/-! ### IRET in real and V86 mode (42 R515) -/

theorem iretReal_denied (h : v86Allows s = false) : iretReal s = .error (.exc (gpZero s)) s := by
  have hdenied : (s.v86 && s.flags.IOPL != 3#2) = true := by rw [denied_eq_not_v86Allows, h]; rfl
  rw [iretReal, bind_ok (get_apply s), if_pos hdenied]
  exact bind_error (raiseGP0_eq s)

section
variable (hip : peek s.opWidth.bytes 0 s = .ok ip u1) (hcs : peek s.opWidth.bytes s.opWidth.bytes u1 = .ok cs u2)
  (hfl : peek s.opWidth.bytes (2 * s.opWidth.bytes) u2 = .ok fl u3)
include hip hcs hfl

/-- The three items of an interrupt's frame. -/
theorem frame_keeps : AccessKeeps s u3 := (returnAddress_keeps hip hcs).trans ((peek_keeps _ _).ok hfl)

section
variable (hall : v86Allows s = true)
include hall

theorem iretReal_eq : iretReal s = (do
    farReal (cs.setWidth 16) ip
    dropBytes (3 * s.opWidth.bytes)
    loadReturnFlags s.opWidth.bytes fl s.cpl : M Unit) u3 := by
  have hallowed : ¬(s.v86 && s.flags.IOPL != 3#2) = true := by
    rw [denied_eq_not_v86Allows, not_true_iff, not_not]
    exact hall
  rw [iretReal, bind_ok (get_apply s), if_neg hallowed]
  exact (bind_ok hip).trans ((bind_ok hcs).trans (bind_ok hfl))

theorem iretReal_ok (h : ip ≤ 0xFFFF#32) : iretReal s =
    .ok () (reflagged s fl (dropped (farTo u3 (cs.setWidth 16) ip) (3 * s.opWidth.bytes))) := by
  rw [iretReal_eq hip hcs hfl hall, bind_ok (farReal_ok h), bind_ok (dropBytes_eq _ _)]
  exact loadReturnFlags_ok (frame_keeps hip hcs hfl).flags

theorem iretReal_beyond (h : 0xFFFF#32 < ip) : iretReal s = .error (.exc (gpZero s)) u3 := by
  rw [iretReal_eq hip hcs hfl hall, bind_error (farReal_beyond h), (frame_keeps hip hcs hfl).gpZero]

end

/-! ### IRET in protected mode (42 R533) -/

/-- A return to the level that the RPL of the selector says. -/
def iretLevel (s : State) (ip fl : Word) (sel : Half) (la : Word) (d : Desc) : M Unit :=
  if selRpl sel == s.cpl then do
    checkEip d.limit ip
    loadCS sel la d s.cpl
    dropBytes (3 * s.opWidth.bytes)
    jumpTo ip
    loadReturnFlags s.opWidth.bytes fl s.cpl
  else do
    returnOuter s.opWidth.bytes (3 * s.opWidth.bytes) 0 sel ip la d
    loadReturnFlags s.opWidth.bytes fl s.cpl

variable (hnt : s.flags.NT = false) (hsel : cs.setWidth 16 = sel)
include hnt hsel

theorem iretProtected_eq : iretProtected s = (if s.opWidth.bytes == 4 && bit fl 17 && s.cpl == 0#2
    then iretToV86 ip fl sel else returnDesc sel >>= fun x => iretLevel s ip fl sel x.1 x.2) u3 := by
  rw [iretProtected, bind_ok (get_apply s), hnt, if_neg Bool.false_ne_true]
  refine (bind_ok hip).trans ((bind_ok hcs).trans ((bind_ok hfl).trans ?_))
  rw [hsel]
  rfl

theorem iretProtected_v86 (h : s.opWidth.bytes = 4 ∧ bit fl 17 = true ∧ s.cpl = 0#2) :
    iretProtected s = iretToV86 ip fl sel u3 := by
  rw [iretProtected_eq hip hcs hfl hnt hsel, if_pos (by simpa [and_assoc] using h)]

variable (h : ¬(s.opWidth.bytes = 4 ∧ bit fl 17 = true ∧ s.cpl = 0#2))
include h

theorem iretProtected_level : iretProtected s =
    (returnDesc sel >>= fun x => iretLevel s ip fl sel x.1 x.2) u3 := by
  rw [iretProtected_eq hip hcs hfl hnt hsel, if_neg (by simpa [and_assoc] using h)]

end

section
variable (hk : AccessKeeps s u)
include hk

theorem iretLevel_beyond (hsame : selRpl sel = s.cpl) (h : d.limit < ip) :
    iretLevel s ip fl sel la d u = .error (.exc (gpZero s)) u := by
  rw [iretLevel, if_pos (by simpa using hsame), bind_error (checkEip_beyond h), hk.gpZero]

theorem iretLevel_same (hsame : selRpl sel = s.cpl) (h : ip ≤ d.limit) (hmark : markAccessed la d u = .ok () w) :
    iretLevel s ip fl sel la d u = .ok () (reflagged s fl
      ((dropped (withCS w sel d s.cpl) (3 * s.opWidth.bytes)).jumped ip)) := by
  rw [iretLevel, if_pos (by simpa using hsame), bind_ok (checkEip_ok h), bind_ok (loadCS_eq hmark),
    bind_ok (dropBytes_eq _ _), bind_ok jumpTo_apply]
  exact loadReturnFlags_ok (hk.trans ((markAccessed_keeps _ _).ok hmark)).flags

end

/-- A return to an outer level leaves the flags to IRET. -/
theorem returnOuter_keepsFlags (n k imm : Nat) (sel : Half) (ip la : Word) (d : Desc) :
    Preserves KeepsFlags (returnOuter n k imm sel ip la d) :=
  have access {α : Type} {x : M α} (h : Preserves AccessKeeps x) : Preserves KeepsFlags x := h.mono AccessKeeps.flags
  have marked (la : Word) (d : Desc) (n : SegNo) (r : SegReg) :
      Preserves KeepsFlags (do markAccessed la d; putSeg n r) :=
    .bind .trans (access (markAccessed_keeps _ _)) fun _ => .modify fun _ => rfl
  .bind .trans (.bind .trans (.get .refl) fun _ => .ite (.pure .refl _) (access (raiseCode_keeps _ _))) fun _ =>
    .bind .trans (access (peek_keeps _ _)) fun _ => .bind .trans (access (peek_keeps _ _)) fun _ =>
      .check .trans (access (raiseCode_keeps _ _)) fun _ => .bind .trans (access (stackDesc_keeps _ _ _)) fun (_, _) =>
        .bind .trans (.ite (access (raiseCode_keeps _ _)) (.pure .refl _)) fun _ =>
          .bind .trans (marked _ _ _ _) fun _ => .bind .trans (marked _ _ _ _) fun _ =>
            .bind .trans (.bind .trans (.get .refl) fun _ => .bind .trans (access (stackTop_keeps _ _ _)) fun _ =>
              .modify fun _ => rfl) fun _ =>
              .bind .trans (.bind .trans (.get .refl) fun _ => .modify fun _ => rfl) fun _ =>
                .bind .trans (.modify fun _ => rfl) fun _ => .modify fun _ => rfl

section
variable (hne : selRpl sel ≠ s.cpl)
include hne

theorem iretLevel_outer (hf : KeepsFlags s u)
    (h : returnOuter s.opWidth.bytes (3 * s.opWidth.bytes) 0 sel ip la d u = .ok () w) :
    iretLevel s ip fl sel la d u = .ok () (reflagged s fl w) := by
  rw [iretLevel, if_neg (by simpa using hne), bind_ok h]
  exact loadReturnFlags_ok (hf.trans ((returnOuter_keepsFlags _ _ _ _ _ _ _).ok h))

theorem iretLevel_outer_error
    (h : returnOuter s.opWidth.bytes (3 * s.opWidth.bytes) 0 sel ip la d u = .error e w) :
    iretLevel s ip fl sel la d u = .error e w := by
  rw [iretLevel, if_neg (by simpa using hne), bind_error h]

end

/-! ### IRET to V86 mode -/

/-- A segment register of V86 mode. -/
def v86Seg (sel : Half) : SegReg := .real sel (realBase sel) 3#2

theorem iretToV86_ok {w1 w2 w3 w4 w5 w6 : State} {esp ss es ds fs gs : Word} (hesp : peek 4 12 u = .ok esp w1)
    (hss : peek 4 16 w1 = .ok ss w2) (hes : peek 4 20 w2 = .ok es w3) (hds : peek 4 24 w3 = .ok ds w4)
    (hfs : peek 4 28 w4 = .ok fs w5) (hgs : peek 4 32 w5 = .ok gs w6) : iretToV86 ip fl sel u = .ok () { w6 with
      regs := { w6.regs with esp := esp }, flags := Flags.ofWord fl, eip := ip &&& 0xFFFF#32,
      segs := { es := v86Seg (es.setWidth 16), cs := v86Seg sel, ss := v86Seg (ss.setWidth 16),
                ds := v86Seg (ds.setWidth 16), fs := v86Seg (fs.setWidth 16), gs := v86Seg (gs.setWidth 16) },
      staleBytes := [], staleModes := [], repeating := none, insn := { w6.insn with keepRF := true } } := by
  rw [iretToV86, bind_ok hesp, bind_ok hss, bind_ok hes, bind_ok hds, bind_ok hfs, bind_ok hgs]
  rfl

end Sys2Proof.Machine

namespace Sys2Proof.Claims

open Sys2Proof.Machine

/-- Settles O32: delivery of the event, the cases where there is none, and the three returns. -/
theorem interruptsAndReturnComplete : Obligations.InterruptsAndReturnComplete := by
  refine ⟨fun s i v hi hpre hreal hp hlimit hroom => ?plain, fun s t i v e hi hpre => ?delivered,
    fun s v hpre => ⟨fun h => ?idle, fun h => ?denied⟩, fun s u1 u2 u3 ip cs fl hpre hp => ?real,
    fun s u1 u2 u3 u4 u5 ip cs fl la d e hpre hp hnt => ?prot⟩
  case plain =>
    have hsize : s.room 2 3 = true := by
      refine (room_iff_allowed _ _ _ _).mpr fun j h1 h3 => ?_
      rw [← SegReg.trunc_stackWidth]
      exact hroom _ (by interval_cases j <;> simp)
    obtain ⟨t, ht⟩ := exists_realEntry (ev := softEvent v) (s := s.started.advanced) hreal ⟨hp, hsize⟩ hlimit
    exact ⟨t, ht, settled_ok (exec_interrupts hi hpre) (deliverOnce_of_realEntry ht)⟩
  case delivered =>
    have hexec := exec_interrupts hi hpre
    exact ⟨fun h => settled_ok hexec (deliverOnce_of_realEntry h),
      fun h => settled_ok hexec (deliverOnce_of_gateEntry h), settled_exc hexec, settled_excHere hexec⟩
  case idle => exact transferInsn_ok hpre (interruptOverflow_idle (s := s.started) h)
  case denied => exact transferInsn_exc hpre (interruptN_denied (s := s.started) h)
  case real =>
    intro n s0
    have hexec : exec .iret s = settle s (iretReal s0) := by
      refine (transferInsn_eq hpre).trans (congrArg (settle s) ((interruptReturn_eq s.started).trans (if_neg ?_)))
      exact Bool.eq_false_iff.mp hp
    refine ⟨fun hall hip hcs hfl => ⟨frame_keeps (s := s0) hip hcs hfl, fun h => ?_, fun h => ?_⟩, fun h => ?_⟩
    · exact settled_ok hexec (iretReal_ok (s := s0) hip hcs hfl hall h)
    · exact settled_exc hexec (iretReal_beyond (s := s0) hip hcs hfl hall h)
    · exact settled_exc hexec (iretReal_denied (s := s0) h)
  case prot =>
    intro n sel back v86 hip hcs hfl
    have hexec : exec .iret s = settle s (iretProtected (released s.started)) :=
      (transferInsn_eq hpre).trans (congrArg (settle s) ((interruptReturn_eq s.started).trans (if_pos hp)))
    have hframe := frame_keeps (s := released s.started) hip hcs hfl
    refine ⟨fun hno h => ?_, fun hno hd => ?_, fun hv w1 w2 w3 w4 w5 w6 esp ss es ds fs gs hesp hss hes hds hfs hgs => ?_⟩
    · rw [iretProtected_level (s := released s.started) hip hcs hfl hnt rfl hno] at hexec
      exact settled_exc hexec (bind_error h)
    · have hk := hframe.trans ((returnDesc_keeps sel).ok hd)
      rw [iretProtected_level (s := released s.started) hip hcs hfl hnt rfl hno, bind_ok hd] at hexec
      refine ⟨fun hsame h => ?_, fun hsame h hmark => ?_, fun hne => ⟨fun h => ?_, fun h => ?_⟩⟩
      · exact settled_exc hexec (iretLevel_beyond hk hsame h)
      · exact settled_ok hexec (iretLevel_same hk hsame h hmark)
      · exact settled_ok hexec (iretLevel_outer (s := released s.started) hne hk.flags h)
      · exact settled_exc hexec (iretLevel_outer_error (s := released s.started) hne h)
    · rw [iretProtected_v86 (s := released s.started) hip hcs hfl hnt rfl hv] at hexec
      exact settled_ok hexec (iretToV86_ok hesp hss hes hds hfs hgs)

end Sys2Proof.Claims
end

section
/-! PROOF. PUSHF and POPF. -/

namespace Sys2Proof.Machine

open Sys2Proof.Claims

variable {s u : State} {x : Nat}

/-! ### The image (10 R36, 43 R592) -/

theorem Flags.testBit_toWord (f : Flags) (i : Nat) : f.toWord.toNat.testBit i = f.bits.getD i false := by
  by_cases hi : i < 32
  · exact f.bit_toWord hi
  · have hlen : f.bits.length ≤ i := by
      simp only [Flags.bits, List.length_cons, List.length_nil]
      omega
    rw [List.getD_eq_default _ _ hlen]
    exact BitVec.getLsbD_of_ge _ _ (by omega)

/-- Bits 31 to 18 are clear. -/
theorem Flags.toWord_lt (f : Flags) : f.toWord.toNat < 2 ^ 18 := by
  refine Nat.lt_pow_two_of_testBit _ fun i hi => ?_
  rw [f.testBit_toWord, List.getD_eq_default]
  exact hi

/-- VM and RF lie above the low half. -/
theorem Flags.toWord_low_half (f : Flags) (vm rf : Bool) :
    { f with VM := vm, RF := rf }.toWord.toNat % 2 ^ 16 = f.toWord.toNat % 2 ^ 16 := by
  refine Nat.eq_of_testBit_eq fun i => ?_
  rw [Nat.testBit_mod_two_pow, Nat.testBit_mod_two_pow, Flags.testBit_toWord, Flags.testBit_toWord]
  by_cases hi : i < 16
  · interval_cases i <;> rfl
  · rw [decide_eq_false hi, Bool.false_and, Bool.false_and]

/-! ### The two instructions (43 R592, R593, 60 R800) -/

theorem needV86Iopl_ok (h : v86Allows s = true) : needV86Iopl s = .ok () s := by
  rw [needV86Iopl, bind_ok (get_apply s), denied_eq_not_v86Allows, h]
  rfl

theorem needV86Iopl_denied (h : v86Allows s = false) : needV86Iopl s = .error (.exc (gpZero s)) s := by
  rw [needV86Iopl, bind_ok (get_apply s), denied_eq_not_v86Allows, h]
  exact raiseGP0_eq s

/-- The image is the flags with two free values in the places of VM and RF. -/
theorem pushFlags_eq (h : v86Allows s = true) : ∃ vm rf : Bool,
    pushFlags s = push s.opWidth.bytes { s.flags with VM := vm, RF := rf }.toWord { s with draws := s.draws + 2 } := by
  refine ⟨s.nextFree, State.nextFree { s with draws := s.draws + 1 }, ?_⟩
  rw [pushFlags, bind_ok (needV86Iopl_ok h), bind_ok (get_apply s), bind_ok (drawBool_apply s),
    bind_ok (drawBool_apply _), pushV_eq]
  rfl

theorem popFlags_ok (h : v86Allows s = true) (hx : memRead .ss s.sp s.opWidth.bytes s = .ok x u) :
    popFlags s = .ok () { dropped u s.opWidth.bytes with flags := loadedFlags s (BitVec.ofNat 32 x) false } := by
  have hk := (memRead_keeps _ _ _).ok hx
  have hcpl : (dropped u s.opWidth.bytes).cpl = s.cpl := hk.cpl
  have hflags : (dropped u s.opWidth.bytes).flags = s.flags := hk.flags
  rw [popFlags, bind_ok (needV86Iopl_ok h), bind_ok (popV_ok hx), bind_ok (get_apply _), modifyFlags_apply, hcpl,
    hflags, load_eq_loadedFlags]

end Sys2Proof.Machine

namespace Sys2Proof.Claims

open Sys2Proof.Machine

/-- Settles O19: past the check of IOPL, a push of the image and a pop into the flags. -/
theorem flagsOnStackComplete : Obligations.FlagsOnStackComplete := by
  refine ⟨fun s hpre hm => ⟨fun hall u pas hp => ?pushf, fun hno => ?pushfDenied⟩,
    fun s hpre => ⟨fun hall u x hx => ?popf, fun hno => ?popfDenied⟩⟩
  case pushf =>
    obtain ⟨vm, rf, himage⟩ := pushFlags_eq (s := s.started) hall
    obtain ⟨t, ht, hs⟩ := push_ok (v := { s.flags with VM := vm, RF := rf }.toWord)
      (s := { s.started with draws := s.draws + 2 }) (bytes_le s.opWidth) hm hp
    exact ⟨t, _, plainInsn_ok hpre (himage.trans ht), hs, s.flags.toWord_low_half vm rf,
      Nat.div_eq_of_lt (Flags.toWord_lt _)⟩
  case popf => exact ⟨plainInsn_ok hpre (popFlags_ok (s := s.started) hall hx), (memRead_keeps _ _ _).ok hx⟩
  case pushfDenied => exact plainInsn_exc hpre (bind_error (needV86Iopl_denied (s := s.started) hno))
  case popfDenied => exact plainInsn_exc hpre (bind_error (needV86Iopl_denied (s := s.started) hno))

end Sys2Proof.Claims
end

section
/-! PROOF. One element of each string instruction. -/

namespace Sys2Proof.Machine

open Sys2Proof.Claims

variable {s u u' : State} {w : Width} {n : RegNo} {sg : SegNo} {off v : Word} {k x y : Nat} {pas : List Word}

/-! ### Numbers read from memory (20 R135) -/

theorem ofBytes_lt (bs : List Byte) : ofBytes bs < 256 ^ bs.length := by
  induction bs with
  | nil => exact Nat.one_pos
  | cons b bs ih =>
    have hb := b.isLt
    rw [ofBytes, List.length_cons, Nat.pow_succ]
    omega

theorem memRead_lt (h : memRead sg off k s = .ok x u) : x < 256 ^ k := by
  simp only [memRead] at h
  obtain ⟨pas, t, hp, h⟩ := bind_eq_ok h
  obtain ⟨bs, t', hb, h⟩ := bind_eq_ok h
  obtain ⟨bs', _, hb', hl⟩ := physReadList_ok pas t
  rw [hb] at hb'
  cases hb'
  cases h
  rw [← memAddrs_length hp, ← hl]
  exact ofBytes_lt bs

theorem Width.pow_bytes (w : Width) : 256 ^ w.bytes = 2 ^ w.bits := by cases w <;> rfl

section
variable (h : memRead sg off w.bytes s = .ok x u)
include h

theorem memRead_trunc : w.trunc (BitVec.ofNat 32 x) = BitVec.ofNat 32 x := by
  have hlt : x < 2 ^ w.bits := Width.pow_bytes w ▸ memRead_lt h
  have hle : 2 ^ w.bits ≤ 2 ^ 32 := Nat.le_of_dvd (by decide) w.pow_bits_dvd
  refine BitVec.eq_of_toNat_eq ?_
  rw [Width.trunc_ofNat_toNat, BitVec.toNat_ofNat, Nat.mod_eq_of_lt hlt, Nat.mod_eq_of_lt (hlt.trans_le hle)]

theorem memRead_toNat : (BitVec.ofNat 32 x).toNat = x := by
  have hlt : x < 2 ^ w.bits := Width.pow_bytes w ▸ memRead_lt h
  rw [← memRead_trunc h, Width.trunc_ofNat_toNat, Nat.mod_eq_of_lt hlt]

end

/-! ### Index registers, source and destination (43 R560) -/

theorem stepIndex_apply : stepIndex w n s = .ok () (stepped s w.bytes n) := rfl

theorem AccessKeeps.index (h : AccessKeeps s u) : u.reg u.adWidth n = s.reg s.adWidth n := by rw [h.adWidth, h.reg]

theorem AccessKeeps.overridden (h : AccessKeeps s u) : u.overridden sg = s.overridden sg := by rw [h.1]; rfl

theorem sourceElement_ok (h : memRead (s.overridden .ds) (s.reg s.adWidth .esi) w.bytes s = .ok x u) :
    sourceElement w s = .ok (BitVec.ofNat 32 x) u := (bind_ok (get_apply s)).trans (memReadW_ok h)

theorem destElement_ok (h : memRead .es (s.reg s.adWidth .edi) w.bytes s = .ok x u) :
    destElement w s = .ok (BitVec.ofNat 32 x) u := (bind_ok (get_apply s)).trans (memReadW_ok h)

theorem putDest_ok (hm : Memory.wf s.mem = true)
    (h : memAddrs .es (s.reg s.adWidth .edi) w.bytes false true s = .ok pas u) (v : Word) :
    ∃ t, putDest w v s = .ok () t ∧ Stores u pas (toBytes w.bytes v.toNat) t := by
  obtain ⟨t, ht, hs⟩ := memWrite_ok (v := v.toNat) (bytes_le w) h (((memAddrs_keeps _ _ _ _ _).ok h).wf hm)
  exact ⟨t, (bind_ok (get_apply s)).trans ht, hs⟩

/-! ### The elements (43 R564 to R570) -/

section
variable (hx : memRead (s.overridden .ds) (s.reg s.adWidth .esi) w.bytes s = .ok x u)
include hx

theorem loadElement_ok :
    loadElement w s = .ok () (stepped (u.setReg w .eax (BitVec.ofNat 32 x)) w.bytes .esi) := by
  rw [loadElement, bind_ok (sourceElement_ok hx), bind_ok setReg_apply, stepIndex_apply]

theorem moveElement_ok (hm : Memory.wf s.mem = true)
    (hp : memAddrs .es (s.reg s.adWidth .edi) w.bytes false true u = .ok pas u') :
    ∃ t, Stores u' pas (toBytes w.bytes x) t ∧
      moveElement w s = .ok () (stepped (stepped t w.bytes .esi) w.bytes .edi) := by
  have hk := (memRead_keeps _ _ _).ok hx
  rw [← hk.index] at hp
  obtain ⟨t, ht, hs⟩ := putDest_ok (hk.wf hm) hp (BitVec.ofNat 32 x)
  rw [memRead_toNat hx] at hs
  refine ⟨t, hs, ?_⟩
  rw [moveElement, bind_ok (sourceElement_ok hx), bind_ok ht, bind_ok stepIndex_apply, stepIndex_apply]

theorem compareElement_ok (hy : memRead .es (s.reg s.adWidth .edi) w.bytes u = .ok y u') :
    compareElement w s = .ok () (stepped (stepped
      (u'.aluState .cmp w (BitVec.ofNat 32 x) (BitVec.ofNat 32 y)) w.bytes .esi) w.bytes .edi) := by
  rw [← ((memRead_keeps _ _ _).ok hx).index] at hy
  rw [compareElement, bind_ok (sourceElement_ok hx), bind_ok (destElement_ok hy), bind_ok alu_apply,
    bind_ok stepIndex_apply, stepIndex_apply]

end

theorem scanElement_ok (hx : memRead .es (s.reg s.adWidth .edi) w.bytes s = .ok x u) :
    scanElement w s = .ok () (stepped (u.aluState .cmp w (s.reg w .eax) (BitVec.ofNat 32 x)) w.bytes .edi) := by
  rw [scanElement, bind_ok (destElement_ok hx), bind_ok (get_apply u), bind_ok alu_apply, stepIndex_apply,
    ((memRead_keeps _ _ _).ok hx).reg]

theorem storeElement_ok (hm : Memory.wf s.mem = true)
    (hp : memAddrs .es (s.reg s.adWidth .edi) w.bytes false true s = .ok pas u) :
    ∃ t, Stores u pas (toBytes w.bytes (s.reg w .eax).toNat) t ∧
      storeElement w s = .ok () (stepped t w.bytes .edi) := by
  obtain ⟨t, ht, hs⟩ := putDest_ok hm hp (s.reg w .eax)
  refine ⟨t, hs, ?_⟩
  rw [storeElement, bind_ok (get_apply s), bind_ok ht, stepIndex_apply]

section
variable (hc : ioCheck s.dx.toNat w.bytes s = .ok () u)
include hc

theorem inputElement_ok (hm : Memory.wf s.mem = true)
    (hp : memAddrs .es (s.reg s.adWidth .edi) w.bytes false true u = .ok pas u') :
    ∃ t, Stores { u' with draws := u'.draws + 1 } pas (toBytes w.bytes (w.trunc (Config.free 32 u'.draws)).toNat) t ∧
      inputElement w s = .ok () (stepped t w.bytes .edi) := by
  have hread : ioRead w u' = .ok (w.trunc (Config.free 32 u'.draws)) { u' with draws := u'.draws + 1 } :=
    bind_ok (draw_apply 32 u')
  have hk := ((ioCheck_keeps _ _).ok hc).trans ((memAddrs_keeps _ _ _ _ _).ok hp)
  obtain ⟨t, ht, hs⟩ := physWriteList_stores (u := { u' with draws := u'.draws + 1 })
    (bs := toBytes w.bytes (w.trunc (Config.free 32 u'.draws)).toNat) (hk.wf hm) (memAddrs_nodup (bytes_le w) hp)
    ((memAddrs_length hp).trans (toBytes_length _ _).symm)
  rw [toBytes_length] at ht
  refine ⟨t, hs, ?_⟩
  rw [inputElement, bind_ok (get_apply s), bind_ok hc]
  exact (bind_ok hp).trans ((bind_ok hread).trans ((bind_ok ht).trans stepIndex_apply))

theorem outputElement_ok (hx : memRead (s.overridden .ds) (s.reg s.adWidth .esi) w.bytes u = .ok x u') :
    outputElement w s = .ok () (stepped
      { u' with trace := u'.trace ++ [IoEvent.out s.dx w.bytes (BitVec.ofNat 32 x)] } w.bytes .esi) := by
  have hk := (ioCheck_keeps _ _).ok hc
  rw [← hk.index, ← hk.overridden] at hx
  have hwrite : ioWrite s.dx w (BitVec.ofNat 32 x) u' =
      .ok () { u' with trace := u'.trace ++ [IoEvent.out s.dx w.bytes (BitVec.ofNat 32 x)] } := by
    rw [ioWrite, modify_apply, memRead_trunc hx]
  rw [outputElement, bind_ok (get_apply s), bind_ok hc, bind_ok (sourceElement_ok hx), bind_ok hwrite, stepIndex_apply]

end

end Sys2Proof.Machine

namespace Sys2Proof.Claims

open Sys2Proof.Machine

/-- Settles O35, element by element: every access leaves the registers, so each finds its own operand. -/
theorem stringElements : Obligations.StringElements := by
  intro s u u' w x y pas hm si di p
  refine ⟨fun hx => ?source, fun hx => ?scan, fun hp => ?store, fun hc => ?port⟩
  case source =>
    have hk := (memRead_keeps _ _ _).ok hx
    exact ⟨hk, loadElement_ok hx,
      fun hp => ⟨hk.trans ((memAddrs_keeps _ _ _ _ _).ok hp), moveElement_ok hx hm hp⟩,
      fun hy => ⟨hk.trans ((memRead_keeps _ _ _).ok hy), compareElement_ok hx hy⟩⟩
  case scan => exact ⟨(memRead_keeps _ _ _).ok hx, scanElement_ok hx⟩
  case store => exact ⟨(memAddrs_keeps _ _ _ _ _).ok hp, storeElement_ok hm hp⟩
  case port =>
    have hk := (ioCheck_keeps _ _).ok hc
    exact ⟨hk, fun hp => ⟨hk.trans ((memAddrs_keeps _ _ _ _ _).ok hp), inputElement_ok hc hm hp⟩,
      fun hx => ⟨hk.trans ((memRead_keeps _ _ _).ok hx), outputElement_ok hc hx⟩⟩

end Sys2Proof.Claims
end

section
/-! PROOF. String instructions, once and repeated. -/

namespace Sys2Proof.Machine

open Sys2Proof.Claims

variable {s u : State} {i : Instr} {w : Width} {n : RegNo} {sg : SegNo} {off v : Word} {z : Bool} {el : M Unit}
  {done : State → Bool}

/-! ### What an element leaves for the repetition -/

/-- EIP and the choice between REPE and REPNE stay. -/
def KeepsRepetition (s t : State) : Prop := t.eip = s.eip ∧ t.insn.repne = s.insn.repne

theorem KeepsRepetition.refl (s : State) : KeepsRepetition s s := ⟨rfl, rfl⟩

theorem KeepsRepetition.trans {t : State} (h : KeepsRepetition s u) (h' : KeepsRepetition u t) :
    KeepsRepetition s t := ⟨h'.1.trans h.1, h'.2.trans h.2⟩

theorem AccessKeeps.repetition (h : AccessKeeps s u) : KeepsRepetition s u := by
  rw [h.1]
  exact .refl s

theorem StoreKeeps.repetition (h : StoreKeeps s u) : KeepsRepetition s u := by
  rw [h]
  exact .refl s

theorem get_keepsRepetition : Preserves KeepsRepetition (get : M State) := .get .refl

theorem setReg_keepsRepetition : Preserves KeepsRepetition (setReg w n v) := fun s => .refl s

theorem stepIndex_keepsRepetition : Preserves KeepsRepetition (stepIndex w n) := fun s => .refl s

theorem compare_keepsRepetition {a b : Word} : Preserves KeepsRepetition (alu .cmp w a b) := fun s => .refl s

theorem memAddrs_keepsRepetition {rd wr : Bool} {k : Nat} : Preserves KeepsRepetition (memAddrs sg off k rd wr) :=
  (memAddrs_keeps _ _ _ _ _).mono AccessKeeps.repetition

theorem memReadW_keepsRepetition : Preserves KeepsRepetition (memReadW w sg off) :=
  .bind .trans ((memRead_keeps _ _ _).mono AccessKeeps.repetition) fun _ => .pure .refl _

theorem physWriteList_keepsRepetition {k : Nat} {pas : List Word} {bs : List Byte} :
    Preserves KeepsRepetition (physWriteList k pas bs) := (physWriteList_storeKeeps _ _ _).mono StoreKeeps.repetition

theorem ioCheck_keepsRepetition {p k : Nat} : Preserves KeepsRepetition (ioCheck p k) :=
  (ioCheck_keeps _ _).mono AccessKeeps.repetition

theorem sourceElement_keepsRepetition : Preserves KeepsRepetition (sourceElement w) :=
  .bind .trans get_keepsRepetition fun _ => memReadW_keepsRepetition

theorem destElement_keepsRepetition : Preserves KeepsRepetition (destElement w) :=
  .bind .trans get_keepsRepetition fun _ => memReadW_keepsRepetition

theorem putDest_keepsRepetition : Preserves KeepsRepetition (putDest w v) :=
  .bind .trans get_keepsRepetition fun _ =>
    .bind .trans memAddrs_keepsRepetition fun _ => physWriteList_keepsRepetition

theorem moveElement_keepsRepetition : Preserves KeepsRepetition (moveElement w) :=
  .bind .trans sourceElement_keepsRepetition fun _ => .bind .trans putDest_keepsRepetition fun _ =>
    .bind .trans stepIndex_keepsRepetition fun _ => stepIndex_keepsRepetition

theorem compareElement_keepsRepetition : Preserves KeepsRepetition (compareElement w) :=
  .bind .trans sourceElement_keepsRepetition fun _ => .bind .trans destElement_keepsRepetition fun _ =>
    .bind .trans compare_keepsRepetition fun _ => .bind .trans stepIndex_keepsRepetition fun _ =>
      stepIndex_keepsRepetition

theorem scanElement_keepsRepetition : Preserves KeepsRepetition (scanElement w) :=
  .bind .trans destElement_keepsRepetition fun _ => .bind .trans get_keepsRepetition fun _ =>
    .bind .trans compare_keepsRepetition fun _ => stepIndex_keepsRepetition

theorem loadElement_keepsRepetition : Preserves KeepsRepetition (loadElement w) :=
  .bind .trans sourceElement_keepsRepetition fun _ => .bind .trans setReg_keepsRepetition fun _ =>
    stepIndex_keepsRepetition

theorem storeElement_keepsRepetition : Preserves KeepsRepetition (storeElement w) :=
  .bind .trans get_keepsRepetition fun _ => .bind .trans putDest_keepsRepetition fun _ => stepIndex_keepsRepetition

theorem inputElement_keepsRepetition : Preserves KeepsRepetition (inputElement w) :=
  .bind .trans get_keepsRepetition fun _ => .bind .trans ioCheck_keepsRepetition fun _ =>
    .bind .trans memAddrs_keepsRepetition fun _ =>
      .bind .trans (x := ioRead w) (fun s => .refl s) fun _ =>
        .bind .trans physWriteList_keepsRepetition fun _ => stepIndex_keepsRepetition

theorem outputElement_keepsRepetition : Preserves KeepsRepetition (outputElement w) :=
  .bind .trans get_keepsRepetition fun _ => .bind .trans ioCheck_keepsRepetition fun _ =>
    .bind .trans sourceElement_keepsRepetition fun _ => .bind .trans (.modify fun s => .refl s) fun _ =>
      stepIndex_keepsRepetition

theorem stringOps_keepsRepetition (h : StringOps s i z el) : Preserves KeepsRepetition el := by
  cases h with
  | movsb | movsv => exact moveElement_keepsRepetition
  | cmpsb | cmpsv => exact compareElement_keepsRepetition
  | stosb | stosv => exact storeElement_keepsRepetition
  | lodsb | lodsv => exact loadElement_keepsRepetition
  | scasb | scasv => exact scanElement_keepsRepetition
  | insb | insv => exact inputElement_keepsRepetition
  | outsb | outsv => exact outputElement_keepsRepetition

/-! ### Repetition (43 R561 to R563) -/

/-- The test after an element of a repetition that looks at ZF, or does not. -/
def endTest : Bool → State → Bool
  | true => zeroTest
  | false => noTest

theorem endTest_iff : endTest z s = true ↔ z = true ∧ s.flags.ZF = s.insn.repne := by
  cases z with
  | false => simp [endTest, noTest]
  | true => cases hr : s.insn.repne <;> simp [endTest, zeroTest, hr]

theorem exec_stringOps (h : StringOps s i z el) (hpre : s.prefixOk false true) :
    exec i s = settle s (repeated i (endTest z) el s.started) := by
  cases h <;> exact stringInsn_eq hpre

theorem repeated_once (hrep : s.insn.rep = false) (hrepne : s.insn.repne = false) (he : el s = .ok () u) :
    repeated i done el s = .ok () u.advanced := by
  simp [repeated, hrep, hrepne, he]

section
variable (hrep : s.insn.rep = true ∨ s.insn.repne = true)
include hrep

theorem not_unprefixed : ¬(!(s.insn.rep || s.insn.repne)) = true := by
  rw [not_true_iff, not_not, Bool.or_eq_true]
  exact hrep

theorem repeated_zero (hc : s.reg s.adWidth .ecx = 0#32) : repeated i done el s = .ok () s.advanced := by
  rw [repeated, bind_ok (get_apply s), if_neg (not_unprefixed hrep), if_pos (beq_iff_eq.mpr hc), advance_apply]

/-- The counter, or the test on the state `t` with the counter one less, tells whether the instruction is repeated. -/
theorem repeated_element (hc : s.reg s.adWidth .ecx ≠ 0#32) (he : el s = .ok () u) :
    let t := u.setReg s.adWidth .ecx (s.reg s.adWidth .ecx - 1#32)
    repeated i done el s = if s.reg s.adWidth .ecx = 1#32 ∨ done t = true then .ok () t.advanced
      else .ok () { t with
        insn := { t.insn with keepRF := true }, repeating := some (i, { s.insn with kept := [] }) } := by
  intro t
  have hstop : (s.reg s.adWidth .ecx == 1#32 || done t) = true ↔ s.reg s.adWidth .ecx = 1#32 ∨ done t = true := by
    rw [Bool.or_eq_true, beq_iff_eq]
  rw [repeated, bind_ok (get_apply s), if_neg (not_unprefixed hrep), if_neg (mt beq_iff_eq.mp hc), bind_ok he,
    bind_ok setReg_apply, bind_ok (get_apply t), if_congr hstop rfl rfl, ite_apply]
  rfl

end

end Sys2Proof.Machine

namespace Sys2Proof.Claims

open Sys2Proof.Machine

/-- Settles O36: the repetition's four cases; an element leaves what the test after it looks at besides ZF. -/
theorem stringInstructionsComplete : Obligations.StringInstructionsComplete := by
  intro s u i z el hi hpre c t
  have hexec := exec_stringOps hi hpre
  refine ⟨fun hrep hrepne he => ?once, fun hrep => ⟨fun hc => ?zero, fun hc he => ?element⟩⟩
  case once => exact settled_ok hexec (repeated_once (s := s.started) hrep hrepne he)
  case zero => exact settled_ok hexec (repeated_zero (s := s.started) hrep hc)
  case element =>
    obtain ⟨heip, hrepne⟩ : u.eip = s.eip ∧ u.insn.repne = s.insn.repne :=
      (stringOps_keepsRepetition hi).ok (s := s.started) he
    have htest : endTest z t = true ↔ z = true ∧ u.flags.ZF = s.insn.repne := by
      rw [← hrepne]
      exact endTest_iff
    have hend := or_congr (Iff.refl (c = 1#32)) htest
    have hrun := repeated_element (s := s.started) (i := i) (done := endTest z) hrep hc he
    exact ⟨fun h => settled_ok hexec (hrun.trans (if_pos (hend.mpr h))),
      fun h => ⟨heip, settled_ok hexec (hrun.trans (if_neg (mt hend.mp h)))⟩⟩

end Sys2Proof.Claims
end

section
/-! PROOF. Control and debug registers, LMSW and CLTS; the test registers, which stop. -/

namespace Sys2Proof.Machine

open Sys2Proof.Claims

variable {s t u : State} {body : M Unit} {r : Refusal} {reg : RegNo} {cr : CrNo} {n : DrNo} {rm : RM} {c : Cr0}
  {v mask : Word}

/-- A body that refuses: the instruction is refused. -/
theorem plainInsn_refused (h : s.prefixOk false false) (hb : body s.started = .error (.refuse r) u) :
    plainInsn body s = .refused r := by
  rw [plainInsn, instruction_eq h, bind_error hb]
  rfl

/-- How far the prefetch queue still goes by an old mode is of no use once the instruction has ended. -/
theorem complete_advanced_oldMode (s u : State) (m : Option StaleMode) :
    complete s (State.advanced { u with insn := { u.insn with oldMode := m } }) = complete s u.advanced := rfl

/-! ### CR0 (44 R619, R621, R631) -/

theorem writeCr0_ok (h : c.PG = false ∨ c.PE = true) : writeCr0 c s = .ok () (s.withCr0 c) := by
  rcases h with h | h <;> simp [writeCr0, h]

theorem writeCr0_denied (hpg : c.PG = true) (hpe : c.PE = false) :
    writeCr0 c s = .error (.exc (gpZero s)) s := by
  simp [writeCr0, hpg, hpe, raiseGP0_eq]

theorem clearTS_ok (hc : s.cpl = 0#2) : clearTS s = .ok () { s with cr0 := { s.cr0 with TS := false } } :=
  bind_ok (needCpl0_ok hc)

/-- LMSW completes where paging is off or PE is set already, which it cannot clear (R619). -/
theorem loadMsw_ok (hc : s.cpl = 0#2) (hr : readRM .w16 rm s = .ok v u)
    (hmode : s.cr0.PG = false ∨ s.cr0.PE = true) : loadMsw rm s = .ok () (u.withCr0
      { s.cr0 with PE := s.cr0.PE || bit v 0, MP := bit v 1, EM := bit v 2, TS := bit v 3 }) := by
  have hcr0 : u.cr0 = s.cr0 := by rw [((readRM_keeps _ _).ok hr).1]
  rw [loadMsw, bind_ok (needCpl0_ok hc), bind_ok hr, bind_ok (get_apply u), hcr0]
  exact writeCr0_ok (hmode.imp_right fun hpe => by simp [hpe])

/-! ### Control registers (44 R630, R631) -/

theorem readCr_ok (hc : s.cpl = 0#2) : readCr reg cr s = .ok () (allFlagsFree (s.setReg .w32 reg (s.cr cr))) :=
  bind_ok (needCpl0_ok hc)

/-- The new value is loaded; what queued instructions may remember of the old modes changes with it (log 19). -/
theorem writeCr_ok (hc : s.cpl = 0#2) (h : loadCr s v cr = some t) : ∃ ms m, writeCr cr v s =
    .ok () (allFlagsFree { t with staleModes := ms, insn := { t.insn with oldMode := m } }) := by
  cases cr with
  | cr0 =>
    obtain ⟨hmode, ht⟩ := Option.ite_none_left_eq_some.mp h
    cases ht
    have hvalid : (Cr0.ofWord v).PG = false ∨ (Cr0.ofWord v).PE = true := by
      cases hpg : bit v 31 <;> simp_all [Cr0.ofWord]
    rw [writeCr, bind_ok (needCpl0_ok hc)]
    exact ⟨_, _, bind_ok (writeCr0_ok hvalid)⟩
  | cr2 | cr3 =>
    cases h
    rw [writeCr, bind_ok (needCpl0_ok hc)]
    exact ⟨_, _, rfl⟩

/-- Only a CR0 with PG = 1 and PE = 0 is not loaded. -/
theorem writeCr_denied (hc : s.cpl = 0#2) (h : loadCr s v cr = none) :
    writeCr cr v s = .error (.exc (gpZero s)) s := by
  cases cr with
  | cr0 =>
    obtain ⟨hpg, hpe⟩ : bit v 31 = true ∧ bit v 0 = false := by simpa [loadCr] using h
    rw [writeCr, bind_ok (needCpl0_ok hc)]
    exact bind_error (writeCr0_denied hpg hpe)
  | cr2 | cr3 => cases h

/-! ### Debug registers (44 R632, R633, 60 R741 (e)) -/

theorem needNoGD_ok (h : bit s.dr.dr7 13 = false) : needNoGD s = .ok () s := by
  simp [needNoGD, h]

theorem needNoGD_guarded (h : bit s.dr.dr7 13 = true) :
    needNoGD s = .error (.exc { plainExc 1#8 with dr6 := 0x2000#32 }) s := by
  rw [needNoGD, bind_ok (get_apply s), if_pos h]
  rfl

/-- Free bits put around the bits of a mask leave these. -/
theorem and_or_and_not_and (v free mask : Word) : ((v &&& mask) ||| (free &&& ~~~mask)) &&& mask = v &&& mask := by
  ext i
  cases hm : mask[i] <;> simp [hm]

theorem readReserved_apply (v mask : Word) (s : State) : readReserved v mask s =
    .ok ((v &&& mask) ||| (Config.free 32 s.draws &&& ~~~mask)) { s with draws := s.draws + 1 } := rfl

section
variable (hc : s.cpl = 0#2)
include hc

/-- The defined bits are read as they are; the reserved ones of DR6 and DR7 as free values. -/
theorem readDr_ok (hg : bit s.dr.dr7 13 = false) (h : readDebug s.dr n = some (v, mask)) : ∃ x k,
    readDr reg n s = .ok () (allFlagsFree (State.setReg { s with draws := k } .w32 reg x)) ∧
      x &&& mask = v &&& mask := by
  rw [readDr, bind_ok (needCpl0_ok hc), bind_ok (needNoGD_ok hg), bind_ok (get_apply s)]
  cases n with
  | dr4 | dr5 => cases h
  | dr6 | dr7 =>
    cases h
    exact ⟨_, _, bind_ok (readReserved_apply _ _ s), and_or_and_not_and _ _ _⟩
  | _ =>
    cases h
    exact ⟨_, _, rfl, rfl⟩

theorem writeDr_ok (hg : bit s.dr.dr7 13 = false) (h : readDebug s.dr n ≠ none) :
    writeDr n v s = .ok () (allFlagsFree { s with dr := writeDebug s.dr v n }) := by
  rw [writeDr, bind_ok (needCpl0_ok hc), bind_ok (needNoGD_ok hg)]
  cases n with
  | dr4 | dr5 => exact absurd rfl h
  | _ => rfl

/-- DR4 and DR5 (log 13). -/
theorem readDr_refused (hg : bit s.dr.dr7 13 = false) (h : readDebug s.dr n = none) :
    readDr reg n s = .error (.refuse .debugRegister) s := by
  rw [readDr, bind_ok (needCpl0_ok hc), bind_ok (needNoGD_ok hg), bind_ok (get_apply s)]
  cases n with
  | dr4 | dr5 => rfl
  | _ => cases h

theorem writeDr_refused (hg : bit s.dr.dr7 13 = false) (h : readDebug s.dr n = none) :
    writeDr n v s = .error (.refuse .debugRegister) s := by
  rw [writeDr, bind_ok (needCpl0_ok hc), bind_ok (needNoGD_ok hg)]
  cases n with
  | dr4 | dr5 => rfl
  | _ => cases h

theorem readDr_guarded (hg : bit s.dr.dr7 13 = true) :
    readDr reg n s = .error (.exc { plainExc 1#8 with dr6 := 0x2000#32 }) s :=
  (bind_ok (needCpl0_ok hc)).trans (bind_error (needNoGD_guarded hg))

theorem writeDr_guarded (hg : bit s.dr.dr7 13 = true) :
    writeDr n v s = .error (.exc { plainExc 1#8 with dr6 := 0x2000#32 }) s :=
  (bind_ok (needCpl0_ok hc)).trans (bind_error (needNoGD_guarded hg))

/-! ### Test registers (44 R634) -/

theorem testRegister_refused : testRegister s = .error (.refuse .testRegister) s := bind_ok (needCpl0_ok hc)

end

end Sys2Proof.Machine

namespace Sys2Proof.Claims

open Sys2Proof.Machine

/-- Settles O38: for each instruction what its body answers behind the check of the privilege level. -/
theorem controlAndDebugRegistersComplete : Obligations.ControlAndDebugRegistersComplete := by
  refine ⟨fun s u reg cr rm v hpre hc => ⟨?readCr, fun t ht => ?writeCr, fun hnone => ?denied, ?clts,
    fun hr hmode => ?lmsw⟩, fun s reg n hpre hc => ⟨fun hg => ⟨fun v mask h => ?readDr, fun h => ?writeDr,
    fun h => ?refused⟩, fun hg i hi => ?guarded⟩, fun s reg tr hpre i hi => ⟨fun hc => ?test, fun hc => ?level⟩⟩
  case readCr => cases cr <;> exact plainInsn_ok hpre (readCr_ok hc)
  case writeCr =>
    obtain ⟨ms, m, hw⟩ := writeCr_ok (s := s.started) hc ht
    refine ⟨ms, (plainInsn_ok hpre hw).trans ?_⟩
    rw [← complete_advanced_oldMode s (allFlagsFree { t with staleModes := ms }) m]
    rfl
  case denied => exact plainInsn_exc hpre (writeCr_denied (s := s.started) hc hnone)
  case clts => exact plainInsn_ok hpre (clearTS_ok hc)
  case lmsw => exact ⟨(readRM_keeps _ _).ok hr, _, plainInsn_ok hpre (loadMsw_ok hc hr hmode)⟩
  case readDr =>
    obtain ⟨x, k, hx, hmask⟩ := readDr_ok (s := s.started) hc hg h
    exact ⟨x, k, plainInsn_ok hpre hx, hmask⟩
  case writeDr => exact plainInsn_ok hpre (writeDr_ok (s := s.started) hc hg h)
  case refused =>
    exact ⟨plainInsn_refused hpre (readDr_refused (s := s.started) hc hg h),
      plainInsn_refused hpre (writeDr_refused (s := s.started) hc hg h)⟩
  case guarded =>
    obtain rfl | rfl : i = .movRdDd reg n ∨ i = .movDdRd n reg := by simpa using hi
    · exact plainInsn_exc hpre (readDr_guarded (s := s.started) hc hg)
    · exact plainInsn_exc hpre (writeDr_guarded (s := s.started) hc hg)
  case test =>
    have hrefused := testRegister_refused (s := s.started) hc
    obtain rfl | rfl : i = .movRdTd reg tr ∨ i = .movTdRd tr reg := by simpa using hi
    all_goals exact plainInsn_refused hpre hrefused
  case level =>
    obtain rfl | rfl : i = .movRdTd reg tr ∨ i = .movTdRd tr reg := by simpa using hi
    · exact exec_privileged hpre hc (.movRdTd reg tr)
    · exact exec_privileged hpre hc (.movTdRd tr reg)

end Sys2Proof.Claims
end

section
/-! PROOF. HLT; the boundary between two instructions: what is offered there, and what a trial of the instruction about
to execute says of it. -/

namespace Sys2Proof.Machine

open Sys2Proof.Claims

variable {s u : State} {i : Instr} {c : Insn} {o : Offer} {v : Byte} {f : State → Answer}

theorem halt_ok (hc : s.cpl = 0#2) : halt s = .ok () { s with run := .halted } := bind_ok (needCpl0_ok hc)

/-- A repetition in progress goes on, and is not fetched again (log 10). -/
theorem runInstruction_repeating (h : s.repeating = some (i, c)) : runInstruction s = exec i { s with insn := c } := by
  simp only [runInstruction, h]

theorem nmiReady_iff : s.nmiReady = true ↔ s.nmiPending = true ∧ s.nmiBlocked = false := by
  simp [State.nmiReady]

/-! ### What is offered, by rank (60 R725, R728) -/

/-- A code breakpoint is met: of a running machine only, where RF does not hide it. -/
def State.breaks (s : State) : Prop := s.run = .running ∧ s.flags.RF = false ∧ s.codeBreaks ≠ 0#32

theorem breaks_iff : (s.run == .running && !s.flags.RF && s.codeBreaks != 0#32) = true ↔ s.breaks := by
  simp [State.breaks, and_assoc]

theorem offer_inhibited (h : s.inhibitAll = true) : s.offer = none := if_pos h

section
variable (hall : s.inhibitAll = false)
include hall

theorem offer_trap (hdb : s.pendingDb ≠ 0#32) : s.offer = some .trap := by
  simp [State.offer, hall, hdb]

variable (hdb : s.pendingDb = 0#32)
include hdb

theorem offer_codeBreak (hb : s.breaks) : s.offer = some .codeBreak := by
  simp [State.offer, hall, hdb, breaks_iff.mpr hb]

variable (hb : ¬s.breaks)
include hb

theorem offer_nmi (hn : s.nmiPending = true ∧ s.nmiBlocked = false) : s.offer = some .nmi := by
  simp only [State.offer, hall, hdb, mt breaks_iff.mp hb, nmiReady_iff.mpr hn]
  rfl

variable (hn : ¬(s.nmiPending = true ∧ s.nmiBlocked = false))
include hn

theorem offer_lowest : s.offer = s.intrReady.map .intr := by
  simp only [State.offer, hall, hdb, mt breaks_iff.mp hb, mt nmiReady_iff.mp hn]
  rfl

theorem offer_intr (hv : s.intr = some v) (hif : s.flags.IF = true) (hin : s.inhibitInt = false) :
    s.offer = some (.intr v) := by
  simp [offer_lowest hall hdb hb hn, State.intrReady, hv, hif, hin]

theorem offer_nothing (h : s.intr = none ∨ s.flags.IF = false ∨ s.inhibitInt = true) : s.offer = none := by
  rw [offer_lowest hall hdb hb hn, State.intrReady]
  rcases h with h | h | h <;> simp [h]

end

/-! ### The trial of the instruction about to execute (60 R728; log 50) -/

theorem trapNext_iff : s.trapNext = true ↔ softwareNext s := by
  unfold State.trapNext softwareNext
  split
  case h_1 heq | h_2 heq | h_3 heq => simp [heq]
  case h_4 hint hint3 hinto =>
    refine iff_of_false (by simp) ?_
    rintro ⟨-, i, t, heq, ⟨v, rfl⟩ | rfl | ⟨rfl, -⟩⟩
    · exact hint _ _ heq
    · exact hint3 _ heq
    · exact hinto _ heq

/-- What the copy that the trial ran in says of the instruction: it runs again only after an exception. -/
theorem ahead_of_next (h : trial s = .next u) : s.ahead =
    (if u.run == .halted then (if s.trapNext then .trap else .plain)
      else if bit u.dr.dr6 13 then .debugFault else .fault, u.draws) := by
  unfold trial at h
  simp only [State.ahead, h]

theorem ahead_of_stop (h : ∀ u, trial s ≠ .next u) : s.ahead = (.plain, s.draws) := by
  cases ht : trial s with
  | next u => exact absurd ht (h u)
  | fault | refused =>
    unfold trial at ht
    simp only [State.ahead, ht]

/-! ### What becomes of an offer -/

/-- NMI and INTR come from outside the processor. -/
def Offer.external : Offer → Bool
  | .trap => false
  | .codeBreak => false
  | .nmi => true
  | .intr _ => true

theorem before_iff {a : Ahead} :
    a.before o = true ↔ a = .fault ∨ a = .trap ∨ (o.external = true ∧ a = .debugFault) := by
  cases a <;> cases o <;> simp [Ahead.before, Offer.external]

section
variable (hreset : s.resetPin = false) (hrun : s.run ≠ .shutdown)
include hreset hrun

theorem step_boundary : step s = if s.run = .running then runningBoundary s else haltedBoundary s := by
  cases h : s.run with
  | shutdown => exact absurd h hrun
  | running | halted => simp [step, cycle, hreset, h]

/-- With nothing offered, the instruction or the wait of a halted machine (70 R875). -/
theorem step_idle (ho : s.offer = none) :
    step s = if s.run = .running then runInstruction s else haltedIdle s := by
  simp only [step_boundary hreset hrun, runningBoundary, haltedBoundary, ho]

/-- An offer that is taken as `f` says, whatever free values the trial has used. -/
theorem step_offer (ho : s.offer = some o)
    (hf : ∀ k, Offer.take { s with draws := k } o = f { s with draws := k }) : step s = atBoundary s o.external f := by
  simp only [step_boundary hreset hrun, runningBoundary, haltedBoundary, ho, atBoundary, before_iff, hf]

end

/-! ### Shutdown (60 R771; log 32) -/

theorem step_shutdown (hreset : s.resetPin = false) (hrun : s.run = .shutdown) :
    step s = if s.nmiReady then takeEvent eventFuel .ofNmi s.restarted else .fault .shutdown := by
  simp [step, cycle, hreset, hrun]

end Sys2Proof.Machine

namespace Sys2Proof.Claims

open Sys2Proof.Machine

/-- Settles O41: the offer at the boundary, by rank, and what the boundary makes of each. -/
theorem eventsBetweenInstructions : Obligations.EventsBetweenInstructions := by
  refine fun s => ⟨fun hpre hc => plainInsn_ok hpre (halt_ok hc), fun i c hrep => runInstruction_repeating hrep,
    fun hreset hrun => ?boundary, fun hreset hrun => ?shutdown, fun u hu => ?ahead, ahead_of_stop⟩
  case boundary =>
    intro codeBreak nmi idle
    refine ⟨fun hall => step_idle hreset hrun (offer_inhibited hall),
      fun hall hdb => step_offer hreset hrun (offer_trap hall hdb) fun _ => rfl,
      fun hall hdb hb => step_offer hreset hrun (offer_codeBreak hall hdb hb) fun _ => rfl,
      fun hall hdb hb => ⟨fun hn => step_offer hreset hrun (offer_nmi hall hdb hb hn) fun _ => rfl,
        fun hn v hv hif hin => step_offer hreset hrun (offer_intr hall hdb hb hn hv hif hin) fun _ => rfl,
        fun hn hno => step_idle hreset hrun (offer_nothing hall hdb hb hn hno)⟩⟩
  case shutdown =>
    rw [step_shutdown hreset hrun, if_congr nmiReady_iff rfl rfl]
    rfl
  case ahead =>
    rw [ahead_of_next hu]
    exact ⟨fun hrun => by simp [hrun], fun hrun hsoft => by simp [hrun, trapNext_iff.mpr hsoft],
      fun hrun hsoft => by simp [hrun, mt trapNext_iff.mp hsoft]⟩

end Sys2Proof.Claims
end

section
/-! PROOF. The numerics instructions and WAIT: the tests that stop them, what the coprocessor is given, where the bytes
of a result go. -/

namespace Sys2Proof.Machine

open Sys2Proof.Claims

variable {s t u : State} {i : Instr} {noWait late : Bool} {op : BitVec 11} {op3 ext : BitVec 3} {m : Mem}
  {kind : Config.EscOperand} {n : Nat} {pas : List Word} {bs : List Byte} {e : Stop}

/-! ### Stores of the coprocessor (70 R865) -/

theorem storeLate_keepsWf (ls : List LateByte) (s : State) : KeepsWf s (storeLate ls s) := by
  induction ls generalizing s with
  | nil => exact .refl s
  | cons b ls ih => exact (s.stored_keepsWf b.bytes b.pa b.value).trans (ih _)

theorem State.landed_keepsWf (s : State) (k : Nat) : KeepsWf s (s.landed k) :=
  storeLate_keepsWf _ { s with lateBytes := s.lateBytes.drop k }

/-- What a store does is not a matter of what the start of an instruction ends. -/
theorem State.stored_started (s : State) (k : Nat) (pa : Word) (b : Byte) :
    s.started.stored k pa b = (s.stored k pa b).started := by
  unfold State.stored
  rw [State.started_physMap]
  split <;> rfl

theorem storeLate_started (ls : List LateByte) (s : State) : storeLate ls s.started = (storeLate ls s).started := by
  induction ls generalizing s with
  | nil => rfl
  | cons b ls ih => rw [storeLate, State.stored_started, ih, storeLate]

theorem State.landed_started (s : State) (k : Nat) : s.started.landed k = (s.landed k).started :=
  storeLate_started _ { s with lateBytes := s.lateBytes.drop k }

/-! ### The lines of the coprocessor (45 R685) -/

theorem withLines_keepsWf (s : State) (busy error : Bool) : KeepsWf s (s.withLines busy error) := by
  cases busy with
  | true => exact .refl s
  | false => exact State.landed_keepsWf { s with npx := { s.npx with busy := false, error := error } } _

theorem withLines_started (s : State) (busy error : Bool) :
    s.started.withLines busy error = (s.withLines busy error).started := by
  cases busy with
  | true => rfl
  | false => exact State.landed_started { s with npx := { s.npx with busy := false, error := error } } _

theorem withLines_inhibits (s : State) (busy error : Bool) :
    (s.withLines busy error).inhibitInt = s.inhibitInt ∧ (s.withLines busy error).inhibitAll = s.inhibitAll := by
  cases busy with
  | true => exact ⟨rfl, rfl⟩
  | false => exact ⟨State.landed_inhibitInt _ _, State.landed_inhibitAll _ _⟩

/-- Without a coprocessor nothing is passed on. -/
theorem passed_of_none (h : s.npx.kind = .none) : passed s = s := if_pos h

/-- Work for a coprocessor is two free levels of its lines. -/
theorem passed_of_npx (h : s.npx.kind ≠ .none) :
    passed s = State.withLines { s with draws := s.draws + 2 } (freeBit s 0) (freeBit s 1) := by
  unfold passed State.withLines
  rw [if_neg h]

theorem npxError_iff : s.npxError = true ↔ npxErrs s := by simp [State.npxError, State.hasNpx, npxErrs]

theorem npxBusy_iff : s.npxBusy = true ↔ npxWorks s := by simp [State.npxBusy, State.hasNpx, npxWorks]

theorem redrawLines_ok (h : s.npx.kind ≠ .none) : redrawLines s = .ok () (passed s) := by
  rw [passed_of_npx h]
  rfl

theorem passOn_apply (s : State) : passOn s = .ok () (passed s) := by
  by_cases h : s.npx.kind = .none
  · simp [passOn, State.hasNpx, passed, h]
  · simp [passOn, State.hasNpx, redrawLines_ok h, h]

theorem waitReady_idle (h : ¬npxWorks s) : waitReady s = .ok () s := by
  rw [waitReady, bind_ok (get_apply s), if_neg (mt npxBusy_iff.mp h)]
  rfl

/-- An instruction that will be tried again: none of its bytes counts as read (20 R233; log 17). -/
def State.unread (s : State) : State := { s with insn := { s.insn with len := 0 } }

theorem waitReady_busy (h : npxWorks s) : waitReady s = .error .wait (passed s.unread) := by
  rw [waitReady, bind_ok (get_apply s), if_pos (npxBusy_iff.mpr h)]
  exact (bind_ok (modify_apply _ s)).trans (bind_ok (redrawLines_ok (s := s.unread) h.1))

theorem passed_keepsWf (s : State) : KeepsWf s (passed s) := by
  by_cases h : s.npx.kind = .none
  · rw [passed_of_none h]
    exact .refl s
  · rw [passed_of_npx h]
    exact withLines_keepsWf { s with draws := s.draws + 2 } _ _

theorem passed_started (s : State) : passed s.started = (passed s).started := by
  by_cases h : s.npx.kind = .none
  · rw [passed_of_none h, passed_of_none (s := s.started) h]
  · rw [passed_of_npx h, passed_of_npx (s := s.started) h]
    exact withLines_started { s with draws := s.draws + 2 } _ _

theorem passed_inhibits (s : State) :
    (passed s).inhibitInt = s.inhibitInt ∧ (passed s).inhibitAll = s.inhibitAll := by
  by_cases h : s.npx.kind = .none
  · rw [passed_of_none h]
    exact ⟨rfl, rfl⟩
  · rw [passed_of_npx h]
    exact withLines_inhibits { s with draws := s.draws + 2 } _ _

/-- A wait keeps the inhibits it found (60 R725; log 27). -/
theorem waited_started (hint : t.inhibitInt = s.inhibitInt) (hall : t.inhibitAll = s.inhibitAll) :
    s.waited t.started = { t with insn := Insn.start, repeating := none } := by
  rw [State.waited, ← hint, ← hall]
  rfl

/-- An instruction that waits is tried again. -/
theorem settle_wait (s : State) : settle s (.error .wait (passed s.started.unread)) = .next (waiting s) := by
  obtain ⟨hint, hall⟩ := passed_inhibits s.unread
  have hpass : passed s.started.unread = (passed s.unread).started := passed_started s.unread
  rw [hpass]
  exact congrArg Host.Outcome.next (waited_started hint hall)

/-! ### The tests of a numerics instruction (45 R682) -/

/-- What every numerics instruction but FSETPM begins with. -/
def escStart (noWait : Bool) : M Unit := do
  escTests noWait
  if !noWait then waitReady

theorem escTests_nm (h : s.cr0.EM = true ∨ s.cr0.TS = true) :
    escTests noWait s = .error (.exc (plainExc 7#8)) s := by
  have hnm : (s.cr0.EM || s.cr0.TS) = true := by simpa using h
  rw [escTests, bind_ok (get_apply s), if_pos hnm]
  rfl

theorem escTests_mf (hem : s.cr0.EM = false) (hts : s.cr0.TS = false) (h : npxErrs s) :
    escTests false s = .error (.exc (plainExc 16#8)) s := by
  simp [escTests, hem, hts, npxError_iff.mpr h, plainExc, vecMF]

theorem escTests_ok (hem : s.cr0.EM = false) (hts : s.cr0.TS = false) (h : noWait = false → ¬npxErrs s) :
    escTests noWait s = .ok () s := by
  cases noWait with
  | true => simp [escTests, hem, hts]
  | false => simp [escTests, hem, hts, mt npxError_iff.mp (h rfl)]

theorem escStart_wait (hem : s.cr0.EM = false) (hts : s.cr0.TS = false) (herr : ¬npxErrs s) (h : npxWorks s) :
    escStart false s = .error .wait (passed s.unread) :=
  (bind_ok (escTests_ok hem hts fun _ => herr)).trans (waitReady_busy h)

theorem escStart_ready (h : EscReady s noWait) : escStart noWait s = .ok () s := by
  obtain ⟨hem, hts, hlines⟩ := h
  have herr : noWait = false → ¬npxErrs s := fun hw ⟨hkind, herr⟩ =>
    (hlines hw).elim hkind fun ⟨_, hno⟩ => Bool.noConfusion (hno.symm.trans herr)
  refine (bind_ok (escTests_ok hem hts herr)).trans ?_
  cases noWait with
  | true => rfl
  | false =>
    exact waitReady_idle fun ⟨hkind, hbusy⟩ =>
      (hlines rfl).elim hkind fun ⟨hno, _⟩ => Bool.noConfusion (hno.symm.trans hbusy)

/-- The tests that an instruction begins with, whatever follows them. -/
theorem escStart_then (noWait : Bool) (rest : M Unit) : (do
    escTests noWait
    if !noWait then waitReady
    rest) = (do escStart noWait; rest) := by
  cases noWait <;> simp [escStart]

/-! ### Without a memory operand -/

theorem exec_escRegs (h : EscRegs i noWait op) : exec i s = plainInsn (escReg noWait op) s := by
  cases h <;> rfl

theorem escReg_stop (h : escStart noWait s = .error e u) : escReg noWait op s = .error e u := by
  rw [escReg, escStart_then]
  exact bind_error h

theorem escReg_ready (h : EscReady s noWait) : escReg noWait op s = .ok () (passed (recorded s op none)) := by
  rw [escReg, escStart_then, bind_ok (escStart_ready h)]
  exact passOn_apply (recorded s op none)

/-! ### With a memory operand (45 R684) -/

theorem exec_escMems (h : EscMems i noWait op3 ext m kind) :
    exec i s = plainInsn (escMem noWait (op3 ++ memModRM ext m) m kind) s := by
  cases h <;> rfl

theorem escMem_stop (h : escStart noWait s = .error e u) : escMem noWait op m kind s = .error e u := by
  rw [escMem, escStart_then]
  exact bind_error h

theorem escMem_none (h : EscReady s noWait) (hz : operandSize s.sizes.op32 kind = none) :
    escMem noWait op m kind s = .ok () (passed (recorded s op (some m))) := by
  rw [escMem, escStart_then, bind_ok (escStart_ready h), bind_ok (get_apply s), hz]
  exact passOn_apply (recorded s op (some m))

/-- The pointers recorded are those of the operand that was accessed. -/
theorem recordPointers_apply (h : AccessKeeps s u) :
    recordPointers op (some ((s.seg (s.ea m).1).selector, (s.ea m).2)) u = .ok () (recorded u op (some m)) := by
  have hseg : s.seg (s.ea m).1 = u.seg (u.ea m).1 := by rw [h.ea, State.seg, State.seg, h.segs]
  rw [hseg, ← h.ea]
  rfl

theorem escMem_read (h : EscReady s noWait) (hz : operandSize s.sizes.op32 kind = some (n, false))
    (hp : memAddrs (s.ea m).1 (s.ea m).2 n true false s = .ok pas t) (hb : physReadList pas t = .ok bs u) :
    escMem noWait op m kind s = .ok () (passed (recorded u op (some m))) ∧ AccessKeeps s u := by
  have hk : AccessKeeps s u := ((memAddrs_keeps _ _ _ _ _).ok hp).trans ((physReadList_keeps _).ok hb)
  refine ⟨?_, hk⟩
  rw [escMem, escStart_then, bind_ok (escStart_ready h), bind_ok (get_apply s), hz]
  refine (bind_ok hp).trans ((bind_ok hb).trans ((bind_ok (recordPointers_apply hk)).trans ?_))
  exact passOn_apply (recorded u op (some m))

theorem drawBytes_keeps (n : Nat) : Preserves AccessKeeps (drawBytes n) := by
  induction n with
  | zero => exact .pure .refl []
  | succ n ih => exact .bind .trans (fun s => .draws s _) fun _ => .bind .trans ih fun _ => .pure .refl _

theorem drawBytes_length (h : drawBytes n s = .ok bs u) : bs.length = n := by
  induction n generalizing s bs with
  | zero =>
    cases h
    rfl
  | succ n ih =>
    obtain ⟨b, s', -, h⟩ := bind_eq_ok h
    obtain ⟨bs', u', hbs, h⟩ := bind_eq_ok h
    cases h
    exact congrArg (· + 1) (ih hbs)

theorem escMem_write (h : EscReady s noWait) (hz : operandSize s.sizes.op32 kind = some (n, true))
    (hp : memAddrs (s.ea m).1 (s.ea m).2 n false true s = .ok pas t) (hb : drawBytes n t = .ok bs u) :
    escMem noWait op m kind s =
        putResult (storedLate noWait kind) n pas bs (passed (recorded u op (some m))) ∧ AccessKeeps s u := by
  have hk : AccessKeeps s u := ((memAddrs_keeps _ _ _ _ _).ok hp).trans ((drawBytes_keeps n).ok hb)
  refine ⟨?_, hk⟩
  rw [escMem, escStart_then, bind_ok (escStart_ready h), bind_ok (get_apply s), hz]
  refine (bind_ok hp).trans ((bind_ok hb).trans ((bind_ok (recordPointers_apply hk)).trans ?_))
  exact bind_ok (passOn_apply (recorded u op (some m)))

/-- A result is left to a coprocessor that is busy, where it may be stored late (70 R865). -/
theorem putResult_late (hlate : late = true) (hbusy : npxWorks s) : putResult late n pas bs s = .ok () { s with
    lateBytes := s.lateBytes ++ (pas.zip bs).map fun p => { pa := p.1, bytes := n, value := p.2 } } := by
  rw [putResult, bind_ok (get_apply s), if_pos (by simp [hlate, npxBusy_iff.mpr hbusy])]
  rfl

theorem putResult_now (h : ¬(late = true ∧ npxWorks s)) (hm : Memory.wf s.mem = true) (hd : pas.Nodup)
    (hl : pas.length = n) (hn : bs.length = n) :
    ∃ t, putResult late n pas bs s = .ok () t ∧ Stores s pas bs t := by
  obtain ⟨t, ht, hs⟩ := physWriteList_stores hm hd (hl.trans hn.symm)
  refine ⟨t, ?_, hs⟩
  rw [putResult, bind_ok (get_apply s), if_neg (by simpa [← npxBusy_iff] using h), ← hn]
  exact ht

/-! ### What stops a numerics instruction -/

/-- The numerics instructions, with a memory operand or without one. -/
def Escapes (i : Instr) (noWait : Bool) : Prop :=
  (∃ op, EscRegs i noWait op) ∨ ∃ op ext m kind, EscMems i noWait op ext m kind

/-- Whatever stops one of the tests stops the instruction, its operand not looked at. -/
theorem exec_escapes_stop (h : Escapes i noWait) (hpre : s.prefixOk false false)
    (hstop : escStart noWait s.started = .error e u) : exec i s = settle s (.error e u) := by
  rcases h with ⟨op, h⟩ | ⟨op, ext, m, kind, h⟩
  · rw [exec_escRegs h, plainInsn, instruction_eq hpre, bind_error (escReg_stop hstop)]
  · rw [exec_escMems h, plainInsn, instruction_eq hpre, bind_error (escMem_stop hstop)]

section
variable (hpre : s.prefixOk false false)
include hpre

theorem exec_escapes_nm (h : Escapes i noWait) (htest : s.cr0.EM = true ∨ s.cr0.TS = true) :
    exec i s = takeException (plainExc 7#8) (rollback s s.started) :=
  exec_escapes_stop h hpre (bind_error (escTests_nm htest))

theorem exec_escapes_mf (h : Escapes i false) (hem : s.cr0.EM = false) (hts : s.cr0.TS = false) (herr : npxErrs s) :
    exec i s = takeException (plainExc 16#8) (rollback s s.started) :=
  exec_escapes_stop h hpre (bind_error (escTests_mf hem hts herr))

theorem exec_escapes_wait (h : Escapes i false) (hem : s.cr0.EM = false) (hts : s.cr0.TS = false)
    (herr : ¬npxErrs s) (hbusy : npxWorks s) : exec i s = .next (waiting s) :=
  (exec_escapes_stop h hpre (escStart_wait (s := s.started) hem hts herr hbusy)).trans (settle_wait s)

end

/-! ### FSETPM, FNSTSW AX and WAIT (45 R685, R689) -/

/-- FSETPM makes the tests of the no-wait forms. -/
theorem setPm_eq : setPm = escTests true := by simp [setPm, escTests]

theorem storeStatusAx_nm (h : s.cr0.EM = true ∨ s.cr0.TS = true) :
    storeStatusAx s = .error (.exc (plainExc 7#8)) s := bind_error (escReg_stop (bind_error (escTests_nm h)))

theorem waitInsn_nm (hmp : s.cr0.MP = true) (hts : s.cr0.TS = true) :
    waitInsn s = .error (.exc (plainExc 7#8)) s := by
  simp [waitInsn, hmp, hts, plainExc, vecNM]

theorem waitInsn_mf (h : ¬(s.cr0.MP = true ∧ s.cr0.TS = true)) (herr : npxErrs s) :
    waitInsn s = .error (.exc (plainExc 16#8)) s := by
  rw [waitInsn, bind_ok (get_apply s), if_neg (by simpa using h), if_pos (npxError_iff.mpr herr)]
  rfl

/-- Past its tests, WAIT is the wait for BUSY#. -/
theorem waitInsn_eq_waitReady (h : ¬(s.cr0.MP = true ∧ s.cr0.TS = true)) (herr : ¬npxErrs s) :
    waitInsn s = waitReady s := by
  rw [waitInsn, bind_ok (get_apply s), if_neg (by simpa using h), if_neg (mt npxError_iff.mp herr)]

end Sys2Proof.Machine

namespace Sys2Proof.Claims

open Sys2Proof.Machine

/-- Settles O42: past the tests the pointers are recorded and the coprocessor is given the instruction; what it stores
is stored at once, or late. -/
theorem numericsComplete : Obligations.NumericsComplete := by
  refine fun s hpre => ⟨fun i noWait op hi hready => ?register, fun i noWait op ext m kind hi hready => ?memory,
    fun hem hts => ⟨plainInsn_ok hpre ?setPm, plainInsn_ok hpre ?status⟩,
    fun htask herr hbusy => plainInsn_ok hpre ?wait⟩
  case register =>
    rw [exec_escRegs hi]
    exact plainInsn_ok hpre (escReg_ready (s := s.started) hready)
  case memory =>
    have hready : EscReady s.started noWait := hready
    intro code
    rw [exec_escMems hi]
    refine ⟨fun hz => plainInsn_ok hpre (escMem_none hready hz), fun n pas bs u u' hz hp hb => ?read,
      fun n pas bs u u' hz hn hm hp hb => ?write⟩
    case read =>
      obtain ⟨hok, hkeeps⟩ := escMem_read (op := code) hready hz hp hb
      exact ⟨plainInsn_ok hpre hok, hkeeps⟩
    case write =>
      obtain ⟨hput, hkeeps⟩ := escMem_write (op := code) hready hz hp hb
      refine ⟨hkeeps, ?_⟩
      intro v
      by_cases hlate : storedLate noWait kind = true ∧ npxWorks v
      · exact .inl ⟨hlate.1, hlate.2, plainInsn_ok hpre (hput.trans (putResult_late hlate.1 hlate.2))⟩
      · have hwf : Memory.wf v.mem = true := passed_keepsWf (recorded u' code (some m)) (hkeeps.wf hm)
        obtain ⟨t, ht, hs⟩ := putResult_now (n := n) hlate hwf (memAddrs_nodup hn hp) (memAddrs_length hp)
          (drawBytes_length hb)
        exact .inr ⟨hlate, t, hs, plainInsn_ok hpre (hput.trans ht)⟩
  case setPm =>
    rw [setPm_eq]
    exact escTests_ok (s := s.started) hem hts nofun
  case status => exact bind_ok (escReg_ready (s := s.started) ⟨hem, hts, nofun⟩)
  case wait =>
    exact (waitInsn_eq_waitReady (s := s.started) htask herr).trans (waitReady_idle (s := s.started) hbusy)

/-- Settles O43: each of the tests in its turn, before the operand. -/
theorem numericsTraps : Obligations.NumericsTraps := by
  refine fun s hpre => ⟨fun htest => ⟨fun i noWait op hi => exec_escapes_nm hpre (.inl ⟨op, hi⟩) htest,
      fun i noWait op ext m kind hi => exec_escapes_nm hpre (.inr ⟨op, ext, m, kind, hi⟩) htest, ?others⟩,
    fun hem hts herr => ⟨fun i op hi => exec_escapes_mf hpre (.inl ⟨op, hi⟩) hem hts herr,
      fun i op ext m kind hi => exec_escapes_mf hpre (.inr ⟨op, ext, m, kind, hi⟩) hem hts herr⟩,
    fun hem hts herr hbusy => ⟨fun i op hi => exec_escapes_wait hpre (.inl ⟨op, hi⟩) hem hts herr hbusy,
      fun i op ext m kind hi => exec_escapes_wait hpre (.inr ⟨op, ext, m, kind, hi⟩) hem hts herr hbusy⟩,
    fun hmp hts => plainInsn_exc hpre (waitInsn_nm (s := s.started) hmp hts),
    fun htask => ⟨fun herr => plainInsn_exc hpre (waitInsn_mf (s := s.started) htask herr),
      fun herr hbusy => ?wait⟩⟩
  case others =>
    simp only [List.forall_mem_cons, List.not_mem_nil, false_implies, implies_true, and_true]
    have hpm : setPm s.started = .error (.exc (plainExc 7#8)) s.started := setPm_eq ▸ escTests_nm htest
    exact ⟨plainInsn_exc hpre hpm, plainInsn_exc hpre (storeStatusAx_nm (s := s.started) htest)⟩
  case wait =>
    have hwait : waitInsn s.started = .error .wait (passed s.started.unread) :=
      (waitInsn_eq_waitReady (s := s.started) htask herr).trans (waitReady_busy (s := s.started) hbusy)
    exact (instruction_eq hpre).trans ((congrArg (settle s) (bind_error hwait)).trans (settle_wait s))

end Sys2Proof.Claims
end

section
/-! PROOF. Events that are taken, and the exceptions the delivery through a gate meets. -/

namespace Sys2Proof.Machine

open Sys2Proof.Claims

variable {s t u v w : State} {ev : Event} {e : Exc} {gate d : Desc} {la : Word} {sel : Half} {bad : Byte} {k g : Nat}
variable {level : BitVec 2} {x : Stop}

/-! ### One attempt at delivery (60 R748) -/

theorem delivering_eq (ev : Event) (s : State) :
    delivering ev s = { s with insn := { Insn.start with ext := ev.kind != .software } } := by
  have hext : decide (ev.kind ≠ .software) = (ev.kind != .software) := by cases ev.kind <;> rfl
  rw [delivering, hext]

/-- An event that is delivered is taken. -/
theorem takeEvent_of_delivered (h : deliverOnce ev (delivering ev s) = .ok () t) :
    takeEvent (k + 1) ev s = .next { idled t with run := .running } := by
  rw [delivering_eq] at h
  rw [takeEvent, attempt, h]
  rfl

/-! ### Real mode (60 R769) -/

/-- A vector beyond the table is a double fault. -/
theorem deliverOnce_beyondTable (hreal : s.peNow = false) (h : s.idtr.limit.toNat < 4 * ev.vector.toNat + 3) :
    deliverOnce ev s = .error (.exc { plainExc 8#8 with code := .sel 0#16 }) (acked ev s) := by
  rw [← (acked_sameTask ev s).idtr] at h
  rw [deliverOnce_eq, hreal, if_neg Bool.false_ne_true, deliverReal, bind_ok (get_apply _), if_pos h]
  rfl

/-! ### What the checks on a gate and its handler find as the event did -/

/-- `u` has what the checks in the delivery of an event from `s` look at, and what their exceptions say. -/
structure SameEvent (s u : State) : Prop extends SameTask s u where
  ext : extBit u = extBit s

theorem SameEvent.after (h : SameEvent s u) (hk : AccessKeeps u v) : SameEvent s v :=
  ⟨h.toSameTask.trans hk.sameTask, hk.extBit.trans h.ext⟩

theorem atGate_sameEvent (ev : Event) (s : State) : SameEvent s (atGate ev s) :=
  ⟨atGate_sameTask ev s, by rw [extBit, atGate, acked_insn, extBit]⟩

theorem atGate_eq (ev : Event) (s : State) :
    atGate ev s = { acked ev s with insn := { s.insn with system := true } } := by
  rw [atGate, acked_insn]

/-- #GP or #NP naming the IDT entry of vector `v` (60 R730). -/
def idtExc (s : State) (bad v : Byte) : Exc :=
  { gpZero s with vector := bad, code := .sel (BitVec.ofNat 16 (8 * v.toNat + 2) ||| extBit s) }

section
variable (h : SameEvent s u)
include h

theorem SameEvent.gpZero : gpZero u = gpZero s := by rw [Claims.gpZero, h.ext, Claims.gpZero]

theorem SameEvent.selExc : selExc u bad sel = selExc s bad sel := by rw [Claims.selExc, h.ext, Claims.selExc]

theorem SameEvent.idtExc {vec : Byte} : idtExc u bad vec = idtExc s bad vec := by
  rw [Machine.idtExc, h.gpZero, h.ext, Machine.idtExc]

end

/-! ### The gate (60 R760, R761) -/

/-- A check whose failure names the IDT entry, in terms of what it demands. -/
theorem check_raiseIdt {c good : Prop} [Decidable c] [Decidable good] {vec : Byte} {f : PUnit → M Unit} (h : c ↔ ¬good) :
    (if c then raiseIdt bad vec >>= f else f ⟨⟩) s =
      if good then f ⟨⟩ s else .error (.exc (idtExc s bad vec)) s := by
  by_cases hg : good
  · rw [if_neg (by simp [h, hg]), if_pos hg]
  · rw [if_pos (h.mpr hg), if_neg hg]
    rfl

section
variable (hpe : s.peNow = true)
include hpe

theorem deliverOnce_beyondIdt (h : s.idtr.limit.toNat < 8 * ev.vector.toNat + 7) :
    deliverOnce ev s = .error (.exc (idtExc s vecGP ev.vector)) (atGate ev s) := by
  have hs := atGate_sameEvent ev s
  rw [← hs.idtr] at h
  rw [deliverOnce_eq, if_pos hpe, ← hs.idtExc]
  exact (bind_ok (modify_apply _ _)).trans ((bind_ok (get_apply (atGate ev s))).trans (congrFun (if_pos h) _))

/-- The checks on the gate, in their order. -/
theorem deliverOnce_gate (hlimit : 8 * ev.vector.toNat + 7 ≤ s.idtr.limit.toNat)
    (hread : readDesc (s.idtr.base + BitVec.ofNat 32 (8 * ev.vector.toNat)) (atGate ev s) = .ok gate u) :
    deliverOnce ev s =
      if gate.sysType ∈ [5, 6, 7, 14, 15] then
        if ¬(ev.kind = .software ∧ gate.dpl < s.cpl) then
          if gate.present = true then (if gate.sysType == 5 then enterTask ev gate else enterProcedure ev gate) u
          else .error (.exc (idtExc s vecNP ev.vector)) u
        else .error (.exc (idtExc s vecGP ev.vector)) u
      else .error (.exc (idtExc s vecGP ev.vector)) u := by
  have hs := atGate_sameEvent ev s
  have hu := hs.after ((readDesc_keeps _).ok hread)
  rw [← hs.idtr] at hlimit hread
  rw [← hs.cpl]
  have htype : (!(gate.sysType == 5 || gate.sysType == 6 || gate.sysType == 7 || gate.sysType == 14 ||
      gate.sysType == 15)) = true ↔ gate.sysType ∉ [5, 6, 7, 14, 15] := by
    simp [and_assoc]
  have hpriv : (ev.kind == .software && decide (gate.dpl < (atGate ev s).cpl)) = true ↔
      ¬¬(ev.kind = .software ∧ gate.dpl < (atGate ev s).cpl) := by
    simp
  rw [deliverOnce_eq, if_pos hpe, ← hu.idtExc, ← hu.idtExc]
  refine (bind_ok (modify_apply _ _)).trans ((bind_ok (get_apply (atGate ev s))).trans ?_)
  refine (congrFun (if_neg (Nat.not_lt.mpr hlimit)) _).trans ((bind_ok hread).trans ?_)
  refine (check_raiseIdt htype).trans (if_congr Iff.rfl ((check_raiseIdt hpriv).trans ?_) rfl)
  exact if_congr Iff.rfl (check_raiseIdt not_true_iff) rfl

end

/-! ### The handler (60 R762) -/

/-- The entry to a handler whose segment and offset have passed their checks. -/
def handlerEntered (ev : Event) (gate : Desc) (la : Word) (d : Desc) (s : State) : M Unit := do
  if s.v86 then
    if !gate.gate386 then refuse .gate286FromV86
    enterFromV86 ev s
  else if d.conforming || d.dpl == s.cpl then enterSame (gateSize gate) ev s
  else enterInner (gateSize gate) ev s d.dpl
  enterHandler gate la d (if d.conforming || d.dpl == s.cpl then s.cpl else d.dpl)

/-- The checks on the segment a gate names, and on the offset in it. -/
def handlerNamed (ev : Event) (gate : Desc) (la : Word) (d : Desc) (s : State) : M Unit := do
  if !d.isCode || decide (s.cpl < d.dpl) then raiseSel vecGP gate.gateSel
  if !d.present then raiseSel vecNP gate.gateSel
  if s.v86 && (d.conforming || d.dpl != 0#2) then raiseSel vecGP gate.gateSel
  checkEip d.limit gate.gateOff
  handlerEntered ev gate la d s

theorem enterProcedure_named (h : SameEvent s u) : enterProcedure ev gate u =
    if ¬gate.gateSel.toNat < 4 then
      (fetchDesc vecGP gate.gateSel >>= fun x => handlerNamed ev gate x.1 x.2 u) u
    else .error (.exc (gpZero s)) u := by
  have hnull : selNull gate.gateSel = true ↔ ¬¬gate.gateSel.toNat < 4 := by rw [not_not, selNull_iff]
  rw [enterProcedure, bind_ok (get_apply u), ← h.gpZero]
  exact (check_raiseCode hnull).trans (if_congr Iff.rfl rfl rfl)

/-- The checks on the handler's segment, in their order: then its offset (log 51). -/
theorem handlerNamed_eq (h : SameEvent s u) (hk : AccessKeeps u v) : handlerNamed ev gate la d u v =
    if d.isCode = true ∧ d.dpl ≤ s.cpl then
      if d.present = true then
        if ¬(s.v86 = true ∧ (d.conforming = true ∨ d.dpl ≠ 0#2)) then
          if gate.gateOff ≤ d.limit then handlerEntered ev gate la d u v else .error (.exc (gpZero s)) v
        else .error (.exc (selExc s vecGP gate.gateSel)) v
      else .error (.exc (selExc s vecNP gate.gateSel)) v
    else .error (.exc (selExc s vecGP gate.gateSel)) v := by
  have hv := h.after hk
  have hcode : (!d.isCode || decide (u.cpl < d.dpl)) = true ↔ ¬(d.isCode = true ∧ d.dpl ≤ u.cpl) := by
    rw [Bool.or_eq_true, not_true_iff, decide_eq_true_eq, not_and_or, BitVec.not_le]
  have hv86 : (u.v86 && (d.conforming || d.dpl != 0#2)) = true ↔
      ¬¬(u.v86 = true ∧ (d.conforming = true ∨ d.dpl ≠ 0#2)) := by
    rw [not_not, Bool.and_eq_true, Bool.or_eq_true, bne_iff_ne]
  rw [handlerNamed, ← h.cpl, ← h.v86, ← hv.selExc, ← hv.selExc, ← h.gpZero]
  refine (check_raiseSel hcode).trans (if_congr Iff.rfl ((check_raiseSel not_true_iff).trans ?_) rfl)
  exact if_congr Iff.rfl ((check_raiseSel hv86).trans (if_congr Iff.rfl (checkEip_after hk _ _ _) rfl)) rfl

/-! ### The stack of the handler (60 R763 to R765) -/

theorem handlerEntered_286 (hv86 : u.v86 = true) (h : gate.gate386 = false) :
    handlerEntered ev gate la d u v = .error (.refuse .gate286FromV86) v := by
  rw [handlerEntered, if_pos hv86, h]
  rfl

theorem handlerEntered_noRoom (h : SameEvent s v) (hv86 : u.v86 = false) (hsame : d.conforming = true ∨ d.dpl = u.cpl)
    (hroom : s.room (gateSize gate) (3 + (codeItems ev.code).length) = false) :
    handlerEntered ev gate la d u v = .error (.exc { gpZero s with vector := vecSS }) v := by
  have hsame : (d.conforming || d.dpl == u.cpl) = true := by simpa using hsame
  rw [← h.room, codeItems_length] at hroom
  rw [handlerEntered, hv86, if_neg Bool.false_ne_true, if_pos hsame, ← h.gpZero]
  exact bind_error (bind_error (needRoom_denied hroom))

/-- The level, the size and the number of the items that the stack of a more privileged handler must hold, besides the
error code. -/
def EntersInner (s : State) (gate d : Desc) (level : BitVec 2) (g k : Nat) : Prop :=
  (s.flags.VM = false ∧ d.conforming = false ∧ d.dpl ≠ s.cpl ∧ level = d.dpl ∧ g = gateSize gate ∧ k = 5) ∨
    (s.flags.VM = true ∧ gate.gate386 = true ∧ level = 0#2 ∧ g = 4 ∧ k = 9)

/-- An inner stack that cannot be used: nothing has been loaded or pushed. -/
theorem handlerEntered_noStack (hs : SameTask s u) (hpe : s.peNow = true) (h : EntersInner s gate d level g k)
    (hstack : innerStack level g (k + (codeItems ev.code).length) v = .error x w) :
    handlerEntered ev gate la d u v = .error x w := by
  rw [codeItems_length] at hstack
  have hmode : u.v86 = s.flags.VM := by rw [hs.v86, State.v86, hpe, Bool.true_and]
  rcases h with ⟨hvm, hconf, hdpl, rfl, rfl, rfl⟩ | ⟨hvm, h386, rfl, rfl, rfl⟩
  · have hinner : ¬(d.conforming || d.dpl == u.cpl) = true := by simp [hconf, hs.cpl, hdpl]
    rw [handlerEntered, hmode, hvm, if_neg Bool.false_ne_true, if_neg hinner]
    exact bind_error (bind_error hstack)
  · rw [handlerEntered, hmode, hvm, if_pos rfl, h386]
    exact bind_error (bind_error hstack)

end Sys2Proof.Machine

namespace Sys2Proof.Claims

open Sys2Proof.Machine

/-- Settles O33: the entry as a sequence of pushes and a read, and how an event is taken. -/
theorem realModeEventEntry : Obligations.RealModeEventEntry :=
  ⟨fun _ _ _ _ => ⟨deliverOnce_of_realEntry, fun h => takeEvent_of_delivered (deliverOnce_of_realEntry h),
    deliverOnce_beyondTable⟩, fun _ _ => rfl⟩

/-- Settles O34: the checks on the gate, then those on the segment it names, then those on the handler's stack. -/
theorem protectedEventEntry : Obligations.ProtectedEventEntry := by
  refine ⟨fun s t ev k => ⟨deliverOnce_of_gateEntry, fun h => takeEvent_of_delivered (deliverOnce_of_gateEntry h)⟩,
    fun s u v ev gate d la hpe => ?_⟩
  intro a idt usable
  have ha : a = atGate ev s := (atGate_eq ev s).symm
  rw [ha]
  refine ⟨deliverOnce_beyondIdt hpe, fun hlimit hread => ?_⟩
  have hu : SameEvent s u := (atGate_sameEvent ev s).after ((readDesc_keeps _).ok hread)
  rw [deliverOnce_gate hpe hlimit hread]
  refine ⟨?denied, fun htype huse habs => ?absent, fun htype huse hpres => ?handler⟩
  case denied =>
    intro hbad
    by_cases htype : gate.sysType ∈ [5, 6, 7, 14, 15]
    · exact (if_pos htype).trans (if_neg (hbad.resolve_left (not_not.mpr htype)))
    · exact if_neg htype
  case absent => rw [if_pos htype, if_pos huse, if_neg (Bool.eq_false_iff.mp habs)]; rfl
  case handler =>
    have hne : ¬(gate.sysType == 5) = true := by
      rintro h
      rw [beq_iff_eq.mp h] at htype
      exact absurd htype (by decide)
    rw [if_pos (List.mem_cons_of_mem 5 htype), if_pos huse, if_pos hpres, if_neg hne, enterProcedure_named hu]
    refine ⟨fun hnull => if_neg (not_not.mpr hnull), fun hsel hla => ?outside, fun hsel hla hd => ?named⟩
    case outside =>
      rw [if_pos (Nat.not_lt.mpr hsel), ← hu.selExc]
      exact bind_error (fetchDesc_none (hu.descAddr.trans hla))
    case named =>
      have hk := (readDesc_keeps _).ok hd
      have hv86 : s.v86 = s.flags.VM := by rw [State.v86, hpe, Bool.true_and]
      rw [if_pos (Nat.not_lt.mpr hsel), bind_ok (fetchDesc_some (hu.descAddr.trans hla) hd)]
      dsimp only
      rw [handlerNamed_eq hu hk, hv86]
      refine ⟨fun hbad => if_neg hbad, fun hcode hdpl habs => ?_, fun hcode hdpl hpres hbad => ?_,
        fun hcode hdpl hpres hgood => ?_⟩
      all_goals rw [if_pos ⟨hcode, hdpl⟩]
      · exact if_neg (Bool.eq_false_iff.mp habs)
      all_goals rw [if_pos hpres]
      · exact if_neg (not_not.mpr hbad)
      rw [if_pos hgood]
      refine ⟨fun hlt => if_neg (BitVec.not_le.mpr hlt), fun hle hvm h286 => ?_, fun hle hvm hsame hroom => ?_,
        fun hle level g k e w hinner hstack => ?_⟩
      all_goals rw [if_pos hle]
      · exact handlerEntered_286 (hu.v86.trans (hv86.trans hvm)) h286
      · rw [← hu.cpl] at hsame
        exact handlerEntered_noRoom (hu.after hk) (hu.v86.trans (hv86.trans hvm)) hsame hroom
      · exact handlerEntered_noStack hu.toSameTask hpe hinner hstack

end Sys2Proof.Claims
end

section
/-! PROOF. How instructions and failed deliveries end: what a fault keeps of memory, what the end of an instruction
stores and forgets, and which event follows an exception met in a delivery. -/

namespace Sys2Proof.Machine

open Sys2Proof.Claims

variable {s t : State} {ev : Event} {e : Exc} {k : Nat}

/-! ### Memory bits that stay set (60 R722 (c); log 28) -/

theorem bitsAt_cons (c : Host.Cell) (ks : List Host.Cell) (a : Nat) :
    bitsAt (c :: ks) a = (if c.1 = a then c.2 else 0#8) ||| bitsAt ks a := by
  have hacc (b : Byte) : ks.foldl (fun b c => if c.1 = a then b ||| c.2 else b) b = b ||| bitsAt ks a := by
    unfold bitsAt
    induction ks generalizing b with
    | nil => exact (BitVec.or_zero).symm
    | cons c ks ih =>
      rw [List.foldl_cons, List.foldl_cons, ih, ih (if c.1 = a then 0#8 ||| c.2 else 0#8)]
      by_cases h : c.1 = a
      · rw [if_pos h, if_pos h, BitVec.zero_or, BitVec.or_assoc]
      · rw [if_neg h, if_neg h, BitVec.zero_or]
  rw [bitsAt, List.foldl_cons, hacc, BitVec.zero_or]

theorem read_keepBits {map : List PhysRegion} {m ks : List Host.Cell} (hm : Memory.wf m = true)
    (hk : ∀ c ∈ ks, c.1 < 2 ^ 32) (a : Nat) : Memory.read (keepBits map m ks) a =
      Memory.read m a ||| (if physKind map a = none then bitsAt ks a else 0#8) := by
  induction ks generalizing m with
  | nil =>
    have hnone : bitsAt [] a = 0#8 := rfl
    rw [hnone, ite_self, BitVec.or_zero]
    rfl
  | cons c ks ih =>
    obtain ⟨hc, hks⟩ := List.forall_mem_cons.mp hk
    rw [keepBits, bitsAt_cons]
    by_cases hram : physKind map c.1 = none
    · rw [if_pos (Option.isNone_iff_eq_none.mpr hram), ih (Memory.write_wf _ hm hc) hks]
      by_cases ha : c.1 = a
      · subst ha
        rw [Memory.read_write_same _ hm, if_pos rfl, if_pos hram, if_pos hram, BitVec.or_assoc]
      · rw [Memory.read_write_ne _ (Ne.symm ha), if_neg ha, BitVec.zero_or]
    · rw [if_neg (mt Option.isNone_iff_eq_none.mp hram), ih hm hks]
      by_cases ha : c.1 = a
      · subst ha
        rw [if_neg hram, if_neg hram]
      · rw [if_neg ha, BitVec.zero_or]

/-! ### One byte stored (20 R220) -/

theorem read_stored (hm : Memory.wf s.mem = true) (n : Nat) (pa : Word) (b : Byte) (a : Nat) :
    Memory.read (s.stored n pa b).mem a =
      if physKind s.physMap pa.toNat = none ∧ a = pa.toNat then b else Memory.read s.mem a := by
  unfold State.stored
  split
  case h_1 hkind =>
    rw [hkind]
    by_cases ha : a = pa.toNat
    · subst ha
      rw [if_pos ⟨rfl, rfl⟩]
      exact Memory.read_write_same b hm
    · rw [if_neg fun h => ha h.2]
      exact Memory.read_write_ne b ha
  all_goals
    rename_i hkind
    rw [hkind, if_neg fun h => nomatch h.1]

theorem stored_trace (s : State) (n : Nat) (pa : Word) (b : Byte) : (s.stored n pa b).trace =
    s.trace ++ (if physKind s.physMap pa.toNat = some .device then [IoEvent.mem pa n b] else []) := by
  unfold State.stored
  split <;> rename_i hkind <;> simp [hkind, noteStale]

/-- The state with `l` for the bytes the coprocessor has still to store. -/
def State.withLate (s : State) (l : List LateByte) : State := { s with lateBytes := l }

/-- A store does not depend on them. -/
theorem State.stored_withLate (s : State) (l : List LateByte) (n : Nat) (pa : Word) (b : Byte) :
    (s.withLate l).stored n pa b = (s.stored n pa b).withLate l := by
  have hmap : (s.withLate l).physMap = s.physMap := rfl
  rw [State.stored, State.stored, hmap]
  cases physKind s.physMap pa.toNat with
  | none => rfl
  | some kind => cases kind <;> rfl

/-- The bytes still to be stored are stored in their order. -/
theorem State.landed_succ {b : LateByte} {bs : List LateByte} (h : s.lateBytes = b :: bs) (k : Nat) :
    s.landed (k + 1) = ((s.withLate bs).stored b.bytes b.pa b.value).landed k :=
  calc
    s.landed (k + 1) = storeLate (bs.take k) ((s.withLate (bs.drop k)).stored b.bytes b.pa b.value) := by
      rw [State.landed, h]
      rfl
    _ = ((s.stored b.bytes b.pa b.value).withLate bs).landed k := by
      rw [State.stored_withLate]
      rfl
    _ = ((s.withLate bs).stored b.bytes b.pa b.value).landed k := by rw [State.stored_withLate]

/-! ### The end of an instruction (60 R741 (a), 70 R865, 20 R233) -/

theorem coprocessed_landed (s : State) : ∃ k, k ≤ s.lateBytes.length ∧
    s.coprocessed = if s.lateBytes = [] then s else { s with draws := s.draws + 1 }.landed k := by
  refine ⟨_, Nat.lt_succ_iff.mp (Nat.mod_lt (Config.free 32 s.draws).toNat s.lateBytes.length.succ_pos), ?_⟩
  exact if_congr List.isEmpty_iff rfl rfl

theorem noteLives_iff (here next : Word) :
    noteLives here next = true ↔ (here + 15#32 - next).toNat < 31 := decide_eq_true_iff

theorem complete_ends (s t : State) : complete s t = State.pruned (State.coprocessed { t with
    flags := { t.flags with RF := t.insn.keepRF && t.flags.RF }, insn := Insn.start,
    pendingDb := if s.flags.TF = true ∧ t.flags.TF = true then t.pendingDb ||| 0x4000#32 else t.pendingDb }) := by
  have hstep : (if s.flags.TF && t.flags.TF then t.pendingDb ||| 0x4000#32 else t.pendingDb) =
      if s.flags.TF = true ∧ t.flags.TF = true then t.pendingDb ||| 0x4000#32 else t.pendingDb :=
    if_congr Bool.and_eq_true_iff rfl rfl
  rw [complete, hstep]

/-! ### What follows a failed delivery (60 R748, R770, R771) -/

theorem setAside_eq (ev : Event) (s : State) : s.setAside ev = keptEvent ev s := by
  rw [State.setAside, keptEvent]
  cases ev.kind <;> simp [vecDB]

theorem contributory_iff (v : Byte) : contributory v = true ↔ v ∈ [0#8, 10#8, 11#8, 12#8, 13#8] := by
  simp [contributory, vecDE, vecTS, vecNP, vecSS, vecGP, or_assoc]

theorem nextEvent_eq (real : Bool) (ev : Event) (e : Exc) : nextEvent real ev e = nextOf real ev e := by
  simp only [nextEvent, nextOf, doubles, Bool.and_eq_true, Bool.or_eq_true, beq_iff_eq, contributory_iff]
  rfl

theorem takeEvent_of_exc (h : deliverOnce ev (delivering ev s) = .error (.exc e) t) : takeEvent (k + 1) ev s =
    match nextOf (!s.cr0.PE) ev e with
    | none => .next { recordedExc e (keptEvent ev (rollback s t)) with run := .shutdown }
    | some ev' => takeEvent k ev' (recordedExc e (keptEvent ev (rollback s t))) := by
  rw [delivering_eq] at h
  simp only [takeEvent, attempt, h, nextEvent_eq, setAside_eq]
  cases nextOf (!s.cr0.PE) ev e <;> rfl

theorem takeEvent_of_excHere (h : deliverOnce ev (delivering ev s) = .error (.excHere e) t) : takeEvent (k + 1) ev s =
    match nextOf (!t.cr0.PE) ev e with
    | none => .next { recordedExc e (idled t) with run := .shutdown }
    | some ev' => takeEvent k ev' (recordedExc e (idled t)) := by
  rw [delivering_eq] at h
  simp only [takeEvent, attempt, h, nextEvent_eq]
  cases nextOf (!t.cr0.PE) ev e <;> rfl

end Sys2Proof.Machine

namespace Sys2Proof.Claims

open Sys2Proof.Machine

/-- Settles O56: the bits kept by induction on their list, the rest from what each update changes. -/
theorem instructionEnds : Obligations.InstructionEnds := by
  refine ⟨fun s t => ⟨rfl, fun hm hk => ⟨keepBits_wf hm hk, read_keepBits hm hk⟩⟩, fun s t => ?ends,
    fun s n pa b hm => ⟨?frame, read_stored hm n pa b, stored_trace s n pa b⟩,
    fun s b bs k hlate => State.landed_succ hlate k, fun s => rfl⟩
  case ends =>
    intro u lives
    obtain ⟨k, hk, hv⟩ := coprocessed_landed u
    refine ⟨k, hk, ?_⟩
    intro v
    have hcomplete : complete s t = State.pruned v := (complete_ends s t).trans (congrArg State.pruned hv)
    have hhere : v.segs.cs.base + v.eip = t.segs.cs.base + t.eip := by
      have hv : u.coprocessed = v := hv
      rw [← hv, State.coprocessed_segs, State.coprocessed_eip]
    have hlives (next : Word) : noteLives (v.segs.cs.base + v.eip) next = true ↔ lives next := by
      rw [noteLives_iff, hhere]
    rw [hcomplete]
    refine ⟨rfl, fun e => ?_, fun e => ?_⟩
    · exact List.mem_filter.trans (and_congr_right' (hlives e.next))
    · exact List.mem_filter.trans (and_congr_right' (hlives e.next))
  case frame =>
    obtain ⟨m, stale, tr, h⟩ := s.stored_eq n pa b
    rw [h]

/-- Settles O57: an attempt that meets an exception is followed by what `nextOf` says. -/
theorem failedDeliveries : Obligations.FailedDeliveries := by
  refine fun s t ev e k => ⟨fun h => (takeEvent_of_exc h).trans ?_, fun h => (takeEvent_of_excHere h).trans ?_⟩
  · cases nextOf (!s.cr0.PE) ev e <;> rfl
  · cases nextOf (!t.cr0.PE) ev e <;> rfl

end Sys2Proof.Claims
end
